-- ==== Sys2Proof/Word.lean ====
section
/-! DEFINITION. The word types of the model and their plainest arithmetic. -/

namespace Sys2Proof

/-- A byte of HBM, of a message or of an image. -/
abbrev Byte := BitVec 8

/-- The signed value of the low w bits of v, two's complement (R7). -/
def sx (w v : Nat) : Int :=
  let m := v % 2 ^ w
  if 2 * m < 2 ^ w then (m : Int) else (m : Int) - (2 ^ w : Nat)

/-- The w-bit two's-complement code of a signed value (R4: the stored result wraps). -/
def tc (w : Nat) (x : Int) : Nat := (x % ((2 ^ w : Nat) : Int)).toNat

/-- floor(a / b) over the integers, b positive (R6). -/
def floorDiv (a : Int) (b : Nat) : Int := a / (b : Int)

/-- round_half_up(a / b), b positive (R6): floor(a / b + 1/2). -/
def rhu (a : Int) (b : Nat) : Int := (2 * a + (b : Int)) / (2 * (b : Int))

/-- clamp(x, lo, hi) (R6). -/
def clampI (x lo hi : Int) : Int := if x < lo then lo else if hi < x then hi else x

/-- clamp(x, lo, hi) on naturals (R6). -/
def clampN (x lo hi : Nat) : Nat := if x < lo then lo else if hi < x then hi else x

/-- Bit i of a natural. -/
def bitOf (v i : Nat) : Bool := v / 2 ^ i % 2 == 1

/-- The bits [lo + w - 1 : lo] of v. -/
def bits (v lo w : Nat) : Nat := v / 2 ^ lo % 2 ^ w

/-- v with its bits [lo + w - 1 : lo] replaced by x. -/
def putBits (v lo w x : Nat) : Nat := v - bits v lo w * 2 ^ lo + (x % 2 ^ w) * 2 ^ lo

/-- 0 or 1. -/
def b2n (b : Bool) : Nat := if b then 1 else 0

/-- a + b, saturating at hi. -/
def satAdd (a b hi : Nat) : Nat := min (a + b) hi

end Sys2Proof
end

