-- ==== Sys2Proof/Syntax.lean ====
section
/-! DEFINITION. The commands of the FX-512: one constructor per row of spec/opcode_table.json, with the messages they
carry.  m is the master of a register access (0 HOST, 1..8 J0..J7, R710); t is the instant of an event in units of
1/1320 ns (log entry 1). -/

namespace Sys2Proof

/-- What the part sees of a return message's frame (R348, R350): MSEQ, and whether line code, CRC, TYPE, LEN and the
reserved bytes pass. -/
structure RetHdr where
  mseq : Nat
  good : Bool
  deriving DecidableEq, Repr

/-- A ring frame's header (R468); whether the line code and the CRC pass; whether every check of R472 passes, those of class,
kind, length and reserved bits too. -/
structure RingHdr where
  ring : Fin 2
  src : Fin 64
  dst : Fin 64
  seq : Fin 65536
  bcast : Bool
  hops : Fin 64
  whole : Bool
  good : Bool
  deriving DecidableEq, Repr

/-- An entry of a TOPO frame (R477). -/
structure TopoEntry where
  device : Nat
  role : Nat
  raUp : Bool
  rbUp : Bool
  dup : Bool
  serial : Nat
  deriving DecidableEq, Repr

/-- A TOPO or TOPO_RESULT payload (R477). -/
structure TopoMsg where
  full : Bool
  broken : Bool
  masters : Bool
  brk : Nat
  tseq : Nat
  entries : List TopoEntry
  deriving DecidableEq, Repr

/-- A LAUNCH payload (R494); stripes holds STRIPE[0..63]. -/
structure LaunchMsg where
  time : Bool
  layer : Nat
  mend : Nat
  posOrT : Nat
  tfr : Nat
  deadline : Nat
  group : Nat
  stripes : List Nat
  deriving DecidableEq, Repr

/-- A REPORT payload (R499). -/
structure ReportMsg where
  result : Nat
  lseq : Nat
  layer : Nat
  mend : Nat
  stripe : Nat
  xa : Int
  deriving DecidableEq, Repr

/-- A PTP event message as the MAC sees it (R492): messageType, domainNumber, and the transport: none for IEEE 802.3, else the
checksum that the UDP datagram carries. -/
structure PtpFrame where
  typ : Nat
  domain : Nat
  udp : Option Nat
  deriving DecidableEq, Repr

/-- A fault message as the ring carries it (R506, R586). -/
structure FaultMsg where
  source : Fin 128
  sev : Nat
  sub : Nat
  kind : Nat
  addr : Nat
  time : Nat
  seq : Nat
  deriving DecidableEq, Repr

/-- A position word (R373) as received: line and crc say whether the line code and the CRC pass. -/
structure PosWord where
  seq : Fin 256
  pos : Int
  valid : Bool
  index : Bool
  warn : Bool
  age : Nat
  line : Bool
  crc : Bool
  deriving DecidableEq, Repr

/-- A Porter descriptor as read from host memory: its bytes are 32. -/
abbrev DescBytes := List Byte

/-- How a host read or write ended (R540). -/
inductive HostEnd where
  | ok | ur | ca | timeout | link | bme | poison
  deriving DecidableEq, Repr

/-- A bit of an SRAM block (R269): of a data word, the row parity bit of a byte of a word, or of the column parity word. -/
inductive Upset where
  | data (word : Fin 8) (bit : Fin 64)
  | row (word : Fin 8) (byte : Fin 8)
  | col (bit : Fin 64)
  deriving DecidableEq, Repr

/-- What happens to an SRAM array from the datapath's and the firmware's side (R270 to R273): a write of bytes from an array
address, a read of the word at an array address, or the flip of a bit of a block. -/
inductive SramAcc where
  | write (addr : Nat) (d : List Byte)
  | read (addr : Nat)
  | flip (blk : Nat) (u : Upset)
  deriving DecidableEq, Repr

/-- A read of HBM as the controller serves it (R257, R264, R285): its source code, its address and, for a Journeyman core,
the core; a read of source 6 that names no core is one of Loupe's or Gauger's (log entry 95). -/
structure MemRead where
  source : Fin 7
  addr : Nat
  core : Option (Fin 8)
  deriving DecidableEq, Repr

/-- The head of a MAIL payload (R471): the port and MLEN. -/
structure MailHdr where
  port : Nat
  mlen : Nat
  deriving DecidableEq, Repr

/-- What takes a ring receiver out of SERVICE (R362): its port, and the figure of merit that has stayed below FOM_MIN, or none where
clock recovery has lost lock. -/
structure RingLoss where
  port : Fin 2
  fom : Option Nat
  deriving DecidableEq, Repr

/-- A change of the MGMT link (R547, R550): its instant, the remote fault that the partner signals, and the Mbit/s that an SGMII
partner signals. -/
structure LinkReport where
  time : Nat
  remoteFault : Bool
  mbps : Nat
  deriving DecidableEq, Repr

/-- A Frame Start or Frame End packet of a camera (R555, R558): its frame number field, and whether its header carried an error
that the ECC corrected. -/
structure FramePkt where
  fn : Nat
  eccFixed : Bool
  deriving DecidableEq, Repr

/-- A byte that a tile's writing or reading back has changed (R218, R219): in its first write (raw = false) or in the rewrite RAW in
its place (raw = true), whatever form the first has, at an offset, by an exclusive OR. -/
structure TileFault where
  raw : Bool
  off : Nat
  mask : Byte
  deriving DecidableEq, Repr

/-- How far VIN falls after its warning (R677, R680): it stays at or above 4.5 V, it falls below once the Ledger's entry is
complete, or before that. -/
inductive VinDepth where
  | held | below | early
  deriving DecidableEq, Repr

/-- A fall of VIN below 5.5 V (R678): the journal slots that fail their read-back (R622), and its depth. -/
structure VinFall where
  fails : Nat
  depth : VinDepth
  deriving DecidableEq, Repr

/-- A word written to PWR_STATE_REQ, and the journal slots that fail their read-back should it lead to STANDBY (R622). -/
structure StateReq where
  v : Nat
  fails : Nat
  deriving DecidableEq, Repr

/-- The use of a bank when a refresh could start in it (R260, R261): no access open, between two Platen bursts with requests
waiting, or within a Platen burst. -/
inductive BankUse where
  | idle | gap | burst
  deriving DecidableEq, Repr

/-- Alarm classes of R657. -/
inductive AlarmClass where
  | mesh | vin | temp | clock | tamp | auth
  deriving DecidableEq, Repr

/-- A command: one row of spec/opcode_table.json each, in its order. -/
inductive Instr where
  | regWrite (m : Fin 9) (off : Nat) (v : BitVec 32)
  | rcRead (m : Fin 9) (off : Nat)
  | snapBankRead (m : Fin 9) (off : Nat)
  | regAccessError (m : Fin 9) (off : Nat) (write full : Bool)
  | ptpStampPop (m : Fin 9) (tx : Bool)
  | irqStatusClear (m : Fin 9) (hi : Bool) (v : BitVec 32)
  | resetNAssert (t : Nat)
  | startUp (t : Nat) (badA badB : Bool)
  | perstNAssert (t : Nat)
  | functionLevelReset (t : Nat)
  | vinWarn (t : Nat) (f : VinFall)
  | vinReturn (t : Nat)
  | pwrStateRequest (m : Fin 9) (r : StateReq)
  | pwrDomainRequest (m : Fin 9) (v : Nat)
  | burstStart (t : Nat)
  | sequencerWindow (t : Nat)
  | domainLeaveReset (t : Nat) (d : Fin 12)
  | powerGoodLoss (t : Nat) (d : Fin 12)
  | blockReset (t : Nat)
  | chipReset (t : Nat) (badA badB : Bool)
  | watchEvent (t : Nat) (takes : List (Fin 128))
  | escalationExpiry (t : Nat) (exps takes : List (Fin 128))
  | sourceAck (m : Fin 9) (src : Fin 128)
  | sourceClear (m : Fin 9) (src : Fin 128)
  | causeGone (t : Nat) (src : Fin 128)
  | faultPulseEnd (t : Nat)
  | faultRelease (m : Fin 9)
  | dbkGo (m : Fin 9) (j : Fin 8)
  | calendarSecond (t : Nat)
  | calSet (m : Fin 9)
  | thermalSample (t : Nat) (temp : Int)
  | ledgerPeriodic (t : Nat) (fails : Nat)
  | ledgerWrite (m : Fin 9) (fails : Nat)
  | ledgerDeferred (t : Nat) (fails : Nat)
  | commit (m : Fin 9)
  | epochCommit (t : Nat)
  | snap (m : Fin 9)
  | snapClear (m : Fin 9)
  | snapDone (t : Nat)
  | open_ (m : Fin 9)
  | mend (m : Fin 9)
  | arm (m : Fin 9)
  | armComplete (t : Nat)
  | armTimeout (t : Nat)
  | stop (m : Fin 9)
  | abandon (m : Fin 9) (newest : Bool)
  | stopComplete (t : Nat) (accs : List SramAcc)
  | darnEntryWrite (t : Nat)
  | hallmarkWrite (t : Nat)
  | shotFix (t : Nat)
  | shotDue (t : Nat) (accs : List SramAcc)
  | shotDecodeDone (t : Nat) (accs : List SramAcc)
  | tallyEvalDone (t : Nat) (mismatch : Bool)
  | trackExit (t : Nat)
  | beamInhibit (t : Nat)
  | inhibitClear (m : Fin 9)
  | hedEnableSet (m : Fin 9) (v : Bool)
  | authStart (m : Fin 9)
  | headAuthAuto (t : Nat)
  | authAnswer (t : Nat) (h : RetHdr) (id : Nat) (usage : List Nat) (mac : Nat)
  | authTimeout (t : Nat)
  | answer (t : Nat) (k : Fin 4) (h : RetHdr) (shot : Option Nat) (ack nak : BitVec 8)
  | telemetry (t : Nat) (k : Fin 4) (h : RetHdr) (id : Nat) (temps : List Int) (curs : List Nat)
  | fom (t : Nat) (k : Fin 4) (h : RetHdr) (foms : List Nat)
  | laneShotTimeout (t : Nat) (lane : Fin 32)
  | telemStale (t : Nat)
  | wakeEnd (t : Nat) (lane : Fin 32)
  | bdlPllLockLoss (t : Nat)
  | bdlPllRelock (t : Nat)
  | trainStart (m : Fin 9)
  | sweepHoldEnd (t : Nat)
  | bsrCtleHoldEnd (t : Nat) (k : Fin 4) (fom : Nat)
  | bsrDfeAdaptEnd (t : Nat) (k : Fin 4) (fom : Nat)
  | bsrCdrLockLoss (t : Nat) (k : Fin 4)
  | bsrFomLow (t : Nat) (k : Fin 4) (fom : Nat)
  | bsrRecover (m : Fin 9) (k : Fin 4)
  | positionWord (t : Nat) (n : Fin 3) (w : PosWord)
  | positionSlotMissing (t : Nat) (n : Fin 3)
  | quadEdge (t : Nat) (n : Fin 3) (a b : Bool) (lost : Bool)
  | quadPeriod (t : Nat) (n : Fin 3)
  | qidxEdge (t : Nat) (n : Fin 3)
  | govTick (t : Nat) (nV : Int) (rbx rby : Int)
  | hvRange (t : Nat)
  | setpointTick (t : Nat)
  | push (m : Fin 9)
  | flush (m : Fin 9)
  | segAbort (m : Fin 9)
  | modeReq (m : Fin 9) (req after : Nat)
  | doorbell (m : Fin 9) (n : Fin 16)
  | chAbort (m : Fin 9) (n : Fin 16) (data : List Byte)
  | chReset (m : Fin 9) (n : Fin 16)
  | descriptorRead (t : Nat) (n : Fin 16) (d : DescBytes)
  | descriptorComplete (t : Nat) (n : Fin 16) (data : List Byte)
  | luethSegmentCheck (t : Nat) (n : Fin 16) (data : List Byte)
  | completionTimeout (t : Nat) (n : Fin 16) (data : List Byte)
  | completionError (t : Nat) (n : Fin 16) (ca : Bool) (data : List Byte)
  | hostLinkDown (t : Nat) (moved : List (Nat × List Byte))
  | bmeClear (t : Nat) (moved : List (Nat × List Byte))
  | chkInit (m : Fin 9) (u : Fin 8)
  | chkD8 (m : Fin 9) (u : Fin 8) (v : BitVec 8)
  | chkD16 (m : Fin 9) (u : Fin 8) (v : BitVec 16)
  | chkD32 (m : Fin 9) (u : Fin 8) (v : BitVec 32)
  | chkFold (m : Fin 9) (u : Fin 8) (hi : BitVec 32)
  | chkValWrite (m : Fin 9) (u : Fin 8) (hi : Bool) (v : BitVec 32)
  | chkWidth (m : Fin 9) (u : Fin 8) (w : Bool)
  | winGalRead (t : Nat) (off len : Nat)
  | winGalWrite (t : Nat) (off len : Nat)
  | mgmtFrameRx (t : Nat) (frame : List Byte)
  | mgmtLinkDown (r : LinkReport)
  | ptpEventRx (t : Nat) (f : PtpFrame) (seqId : Nat)
  | ptpEventTx (t : Nat) (f : PtpFrame) (seqId : Nat) (twoStep : Bool) (corr : Int)
  | takeRelease (m : Fin 9) (v : BitVec 32)
  | takeReleaseEffect (t : Nat)
  | layerRelease (m : Fin 9)
  | layerReleaseEffect (t : Nat)
  | prepassComplete (t : Nat)
  | tileCompose (t : Nat) (lane : Fin 32) (faults : List TileFault) (accs : List (Fin 2 × SramAcc))
  | cyclePublish (t : Nat)
  | previewRebuildDone (t : Nat)
  | tapArm (m : Fin 9)
  | tapDisarm (m : Fin 9)
  | tapDone (t : Nat)
  | memRun (m : Fin 9) (v : Bool)
  | refreshInterval (t : Nat) (bank : Nat)
  | refreshIssue (t : Nat) (bank : Nat) (use : BankUse)
  | hbmTempRead (t : Nat) (temp : Int)
  | hbmReadPoison (t : Nat) (source : Fin 7) (addr : Nat) (corrected : Bool) (core : Option (Fin 8))
  | hbmPhy (t : Nat) (channel : Fin 16) (reads : List MemRead)
  | scrubRead (t : Nat) (a : Fin 4) (accs : List SramAcc) (clash : Option (Nat × List Byte))
  | scrubSlow (t : Nat) (a : Fin 4)
  | join (m : Fin 9) (v : Bool)
  | ringInputDown (t : Nat) (l : RingLoss)
  | ringInputUp (t : Nat) (p : Fin 2) (foms : List Nat)
  | ringRecover (m : Fin 9) (p : Fin 2)
  | discover (m : Fin 9)
  | discovery (t : Nat)
  | topoWaitEnd (t : Nat)
  | topo (t : Nat) (h : RingHdr) (msg : TopoMsg)
  | topoResult (t : Nat) (h : RingHdr) (msg : TopoMsg)
  | link (t : Nat) (h : RingHdr) (lflags : Nat)
  | sync (t : Nat) (h : RingHdr) (ns fr : Nat) (corr : Int) (dep : Nat)
  | syncPeriod (t : Nat)
  | syncTimeout (t : Nat)
  | pdelayMeasure (t : Nat) (p : Fin 2)
  | pdelayReq (t : Nat) (h : RingHdr) (dep : Nat)
  | pdelayResp (t : Nat) (h : RingHdr) (reqSeq : Nat) (turn : Int)
  | launchGo (m : Fin 9) (time : Bool)
  | launch (t : Nat) (h : RingHdr) (msg : LaunchMsg)
  | launchDeadline (t : Nat)
  | report (t : Nat) (h : RingHdr) (msg : ReportMsg)
  | haloData (t : Nat) (h : RingHdr) (id block nblk : Nat) (data : List Byte)
  | haloAck (t : Nat) (h : RingHdr) (done refused : Bool) (id next : Nat)
  | haloTimeout (t : Nat) (yhi : Bool)
  | resendYlo (m : Fin 9)
  | resendYhi (m : Fin 9)
  | faultEvent (t : Nat) (h : RingHdr) (msg : FaultMsg)
  | mail (t : Nat) (h : RingHdr) (m : MailHdr) (data : List Byte)
  | timeTick (t : Nat)
  | timeSetNow (m : Fin 9)
  | atSyncIn (m : Fin 9)
  | timAdj (m : Fin 9) (v : BitVec 32)
  | syncInEdge (t : Nat)
  | syncOutMark (t : Nat)
  | frameStart (t : Nat) (p : Fin 2) (vc : Nat) (k : FramePkt)
  | longPacket (t : Nat) (p : Fin 2) (vc dt : Nat) (data : List Byte) (eccFixed crcOk : Bool)
  | packetEccError (t : Nat) (p : Fin 2)
  | frameEnd (t : Nat) (p : Fin 2) (vc : Nat) (k : FramePkt)
  | frameTimeout (t : Nat) (c : Fin 8)
  | camLaneLockLoss (t : Nat) (p : Fin 2) (lane : Fin 4)
  | frameRecordWrite (t : Nat) (c : Fin 8)
  | cciWriteDone (t : Nat) (p : Fin 2) (nak : Bool)
  | visSetArm (m : Fin 9) (c : Fin 8)
  | visCtxRel (m : Fin 9) (c : Fin 8) (k : Nat)
  | runStart (m : Fin 9)
  | cancel (m : Fin 9)
  | trimStep (t : Nat) (k : Fin 4)
  | stage (m : Fin 9)
  | unstage (m : Fin 9)
  | gainTargetCopy (m : Fin 9) (v : BitVec 32)
  | provision (m : Fin 9)
  | advance (m : Fin 9)
  | genWrap (m : Fin 9) (slot : Nat)
  | loadKey (m : Fin 9)
  | erase (m : Fin 9) (slot : Nat)
  | readDev (m : Fin 9)
  | formeLoad (m : Fin 9) (persist : Bool)
  | persist (m : Fin 9)
  | persistDone (t : Nat) (good : Bool)
  | unlock (m : Fin 9)
  | lock (m : Fin 9)
  | jtagExtest (t : Nat) (select : Bool)
  | securityAlarm (t : Nat) (cls : AlarmClass)
  | tampAlarm (t : Nat) (inputB : Bool)
  | jrnTrap (t : Nat) (j : Fin 8) (cause : BitVec 8) (inNmi : Bool)
  | jrnWdog (t : Nat) (j : Fin 8) (inNmi : Bool)
  | jrnKick (m : Fin 9) (j : Fin 8)
  | jrnMbPost (m : Fin 9) (j : Fin 8)
  | jrnMbIn (m : Fin 9) (j : Fin 8) (v : BitVec 32)
  | refclkLoss (t : Nat)
  | pllLockLoss (t : Nat) (clk : Fin 9)
  | vbakLow (t : Nat) (lost : Bool)
  | hostLinkUp (t : Nat) (width speed : Nat) (bme : Bool)
  | mgmtLinkUp (r : LinkReport)
  | camLaneLock (t : Nat) (p : Fin 2) (lane : Fin 4)
  | beamInhibitRelease (t : Nat)
  | vinEnergySample (t : Nat) (mV mA : Nat)
  | msixUnmask (m : Fin 9) (off : Nat) (v : BitVec 32)
  deriving DecidableEq, Repr

end Sys2Proof
end

