-- ==== Sys2Proof/WellFormed.lean ====
section
/-! DEFINITION. Well-formed commands: operands that fit the part's windows, ports and messages. -/

namespace Sys2Proof

/-- A word offset inside WIN_REG (R698, R699). -/
def wfOff (off : Nat) : Bool := decide (off < 0x4000000) && off % 4 == 0

/-- Bytes of a halo block or of mail: at most the 2,048 bytes of a payload less the 16 before them (R468, R471, R501). -/
def wfBody (l : List Byte) : Bool := decide (l.length ≤ 2032)

/-- A LAUNCH payload names a stripe for each of the 64 devices (R494). -/
def LaunchMsg.wf (m : LaunchMsg) : Bool := decide (m.stripes.length = 64)

/-- A TOPO payload has at most 64 entries (R477). -/
def TopoMsg.wf (m : TopoMsg) : Bool := decide (m.entries.length ≤ 64)

/-- The bytes of SRAM array a (R268). -/
def sramBytes (a : Fin 4) : Nat := [100663296, 8388608, 1572864, 16777216].getD a.val 0

/-- An access lies within SRAM array a. -/
def SramAcc.wf (a : Fin 4) : SramAcc → Bool
  | .write addr d => decide (addr + d.length ≤ sramBytes a)
  | .read addr => decide (addr < sramBytes a)
  | .flip blk _ => decide (64 * blk < sramBytes a)

/-- A read lies within the stack of 24 GiB (R239, R285). -/
def MemRead.wf (r : MemRead) : Bool := decide (r.addr < 24 * 2 ^ 30)

/-- Well-formed commands. -/
def Instr.wf : Instr → Bool
  | .regWrite _ off _ => wfOff off
  | .rcRead _ off => wfOff off
  | .snapBankRead _ off => wfOff off && decide (0x2000000 ≤ off && off < 0x3000000)
  | .regAccessError _ off _ _ => decide (off < 0x4000000)
  | .pwrStateRequest _ r => decide (r.v < 4)
  | .pwrDomainRequest _ v => decide (v < 4)
  | .watchEvent _ l => decide l.Nodup
  | .escalationExpiry _ e l => decide e.Nodup && decide l.Nodup
  | .descriptorRead _ _ d => decide (d.length = 32) || decide (d.length = 8)
  | .chAbort _ _ d => decide (d.length ≤ 1073741824)
  | .authAnswer _ _ _ u _ => decide (u.length = 64)
  | .telemetry _ _ _ _ ts cs => decide (ts.length = 16) && decide (cs.length = 16)
  | .fom _ _ _ l => decide (l.length = 8)
  | .winGalRead _ off len => decide (off + len ≤ 2 ^ 32)
  | .winGalWrite _ off len => decide (off + len ≤ 2 ^ 32)
  | .topo _ _ m => m.wf
  | .topoResult _ _ m => m.wf
  | .launch _ _ m => m.wf
  | .haloData _ _ _ _ _ d => wfBody d
  | .mail _ _ _ d => wfBody d
  | .ringInputUp _ _ l => decide (l.length = 17)
  | .modeReq _ r a => decide (r < 4) && decide (a < 4)
  | .stopComplete _ l => l.all (SramAcc.wf 2)
  | .shotDue _ l => l.all (SramAcc.wf 2)
  | .shotDecodeDone _ l => l.all (SramAcc.wf 2)
  | .tileCompose _ _ _ l => l.all (fun p => p.2.wf (Fin.castLE (by decide) p.1))
  | .scrubRead _ a l c => l.all (SramAcc.wf a) && c.all (fun p => decide (p.1 + p.2.length ≤ sramBytes a))
  | .refreshInterval _ b => decide (b < 1536)
  | .refreshIssue _ b _ => decide (b < 1536)
  | .hbmReadPoison _ src a _ j => MemRead.wf ⟨src, a, j⟩
  | .hbmPhy _ _ l => l.all MemRead.wf
  | .frameStart _ _ v k => decide (v < 4 ∧ k.fn < 65536)
  | .longPacket _ _ v d _ _ _ => decide (v < 4 ∧ d < 64)
  | .frameEnd _ _ v k => decide (v < 4 ∧ k.fn < 65536)
  | .visCtxRel _ _ k => decide (k < 256)
  | .genWrap _ n => decide (n < 32)
  | .erase _ n => decide (n < 32)
  | .msixUnmask _ off _ => decide (off < 1024 ∨ off = 4096)
  | _ => true

end Sys2Proof
end

