-- ==== Sys2Proof/Decode.lean ====
section
/-! DEFINITION. Decode.  The command table of this block gives no row any bits, so no word spells a command (log entry 8). -/

namespace Sys2Proof

/-- The command a word of nbits bits spells by the table's bits: none, since the table gives no row bits. -/
def decodeTableWord (_nbits _w : Nat) : Option Instr := none

end Sys2Proof
end

