-- ==== Sys2Proof/Config.lean ====
section
/-! DEFINITION. Config: what the spec leaves open, as opaque constants and functions.  Nothing in Lean can evaluate them,
so a statement holds whatever they are (log entry 5). -/

namespace Sys2Proof.Config
open Sys2Proof

/-- A fresh free value for each number: it stands for every value the spec leaves open. -/
opaque free : Nat → Nat

/-- The frames of a class (R470) that a queue of a ring transmitter holds (R475). -/
opaque ringRoom : Nat → Nat

/-- The device private scalar that the part derives from its fused seed (R651). -/
opaque deviceKey : Nat → Nat

/-- Key generation: the value a hardware random source gives for the n-th request, of any width (reduced where used). -/
opaque random : Nat → Nat

/-- The Vendor ID that configuration space shows: "Ilsopra's assigned value" (R514). -/
opaque vendorId : BitVec 16

end Sys2Proof.Config
end

