-- ==== Sys2Proof/Machine/RegFile.lean ====
section
/-! DEFINITION. The register file: one sparse store of field values in canonical form, the field descriptors and the
rows through which software reads and writes 32-bit words (R8, R14, R699), with the index-dependent reset values. -/

namespace Sys2Proof.Machine
open Sys2Proof

/-- A sparse map with natural keys, ascending; an absent key holds the map's default. -/
abbrev SMap (α : Type) := List (Nat × α)

/-- The value at a key. -/
def SMap.get {α : Type} (m : SMap α) (k : Nat) (d : α) : α := (List.lookup k m).getD d

/-- The map without a key. -/
def SMap.erase {α : Type} (m : SMap α) (k : Nat) : SMap α := List.filter (fun p => p.1 != k) m

/-- Insert in front of the first greater key. -/
def SMap.ins {α : Type} (k : Nat) (v : α) : SMap α → SMap α
  | [] => [(k, v)]
  | p :: r => if k < p.1 then (k, v) :: p :: r else p :: SMap.ins k v r

/-- The map with a value at a key. -/
def SMap.put {α : Type} (m : SMap α) (k : Nat) (v : α) : SMap α := SMap.ins k v (SMap.erase m k)

/-- Keys strictly rising. -/
def SMap.rising {α : Type} : SMap α → Bool
  | [] => true
  | p :: m => m.all (fun q => decide (p.1 < q.1)) && SMap.rising m

/-- One register field: its bit address in WIN_REG (8 times the byte offset, plus its lowest bit), its width and the
value it holds after reset (R14). -/
structure Fld where
  bit : Nat
  width : Nat
  rst : Nat
  deriving DecidableEq, Repr

/-- Access codes of R8. -/
inductive Acc where
  | rw | ro | wo | w1c | rc | st
  deriving DecidableEq, Repr

/-- The register store: (bit address, value), bit addresses strictly rising, no entry at its field's reset value. -/
abbrev Regs := SMap Nat

/-- The value a field holds. -/
def Regs.get (r : Regs) (f : Fld) : Nat := (r.lookup f.bit).getD f.rst

/-- Hold v, cut to the field's width, in a field; its reset value is held by no entry. -/
def Regs.set (r : Regs) (f : Fld) (v : Nat) : Regs :=
  if v % 2 ^ f.width = f.rst then SMap.erase r f.bit else SMap.put r f.bit (v % 2 ^ f.width)

/-- Addresses strictly rising. -/
def Regs.wf (r : Regs) : Bool := SMap.rising r

/-- One field as it lies in a 32-bit word: word bits [lo + w - 1 : lo] hold bits [sh + w - 1 : sh] of the field; where
sgn is true they are copies of bit sh (R75, R416). -/
structure RowFld where
  lo : Nat
  w : Nat
  acc : Acc
  fld : Nat → Nat → Fld
  sh : Nat
  sgn : Bool

/-- One row of a register summary: the offset base + s1·i + s2·j, i < n1, j < n2. -/
structure RegRow where
  base : Nat
  s1 : Nat
  n1 : Nat
  s2 : Nat
  n2 : Nat
  flds : List RowFld

/-- The indices (i, j) at which a row lies at an offset, if any. -/
def RegRow.index (r : RegRow) (off : Nat) : Option (Nat × Nat) :=
  if off < r.base then none
  else
    let d := off - r.base
    let i := if r.s1 = 0 then 0 else d / r.s1
    let d2 := if r.s1 = 0 then d else d % r.s1
    let j := if r.s2 = 0 then 0 else d2 / r.s2
    let d3 := if r.s2 = 0 then d2 else d2 % r.s2
    if d3 = 0 ∧ i < r.n1 ∧ j < r.n2 then some (i, j) else none

/-- The row and indices of the register at an offset. -/
def findRow (rows : List RegRow) (off : Nat) : Option (RegRow × Nat × Nat) :=
  match rows with
  | [] => none
  | r :: rest =>
    match r.index off with
    | some (i, j) => some (r, i, j)
    | none => findRow rest off

/-- The bits a row field contributes to the word read, from the value held. -/
def RowFld.show (f : RowFld) (v : Nat) : Nat :=
  if f.sgn then (if bitOf v f.sh then (2 ^ f.w - 1) * 2 ^ f.lo else 0) else bits v f.sh f.w * 2 ^ f.lo

/-- The default masks of the bank hash (R242). -/
def hashReset (i : Nat) : Nat :=
  [0x22220100, 0x44440200, 0x88880400, 0x111100800, 0x04081000, 0x00042000, 0x00104000, 0x00208000, 0x00410000].getD i 0

/-- The default lap limit of array a, µs (R268, R288). -/
def lapReset (a : Nat) : Nat := [50000, 10000, 2000, 20000].getD a 0

/-- The reset N of source s (R590 and the source tables of the owning chapters). -/
def srcN (s : Nat) : Nat :=
  if s ∈ [0x15, 0x17, 0x4A, 0x4D, 0x51, 0x61, 0x68, 0x71, 0x72, 0x73, 0x74] then 16
  else if s ∈ [0x40, 0x4B, 0x53] then 4 else 1

/-- The reset W of source s in ns (R590 and the source tables). -/
def srcW (s : Nat) : Nat :=
  if s ∈ [0x73, 0x74] then 1000000000 else if s ∈ [0x40, 0x4B, 0x53] then 640000 else 1000000

/-- The reset reaction of source s (R590 and the source tables): 0 LOG, 1 INTERRUPT, 2 STOP, 3 NMI. -/
def srcReact (s : Nat) : Nat :=
  if s ∈ [0x15, 0x16, 0x17, 0x1D, 0x4E, 0x51, 0x56, 0x61, 0x68, 0x69, 0x71, 0x72, 0x73, 0x77, 0x7F] then 0
  else if s ∈ [0x06, 0x07] then 3
  else if s ∈ [0x01, 0x02, 0x03, 0x04, 0x40, 0x47, 0x4B, 0x53, 0x55, 0x67,
               0x78, 0x79, 0x7A, 0x7B, 0x7C, 0x7D] then 2
  else 1

/-- The power domains of R27, in that order; PWR_DOM_STAT numbers them so (R673). -/
inductive Dom where
  | aon | ctrl | host | mgmt | ring | hbm | comp | plat | bdla | bdlb | motion | vision
  deriving DecidableEq, Repr

/-- The place of a domain in the order of the power domain table (R27). -/
def Dom.idx : Dom → Nat
  | .aon => 0 | .ctrl => 1 | .host => 2 | .mgmt => 3 | .ring => 4 | .hbm => 5 | .comp => 6 | .plat => 7
  | .bdla => 8 | .bdlb => 9 | .motion => 10 | .vision => 11

/-- Every domain in the order of R27. -/
def Dom.all : List Dom := [.aon, .ctrl, .host, .mgmt, .ring, .hbm, .comp, .plat, .bdla, .bdlb, .motion, .vision]

/-- The power domain of SRAM array a (R268). -/
def sramDom (a : Nat) : Dom := if a ≤ 1 then .comp else if a = 2 then .plat else .ctrl

/-- The power domain in which the register at an offset lies (R700, R624). -/
def domOf (off : Nat) : Dom :=
  match off / 0x10000 with
  | 0x0 => .aon | 0x1 => .aon
  | 0x2 => if off ∈ [0x20040, 0x20044, 0x20048, 0x2004C, 0x20050] then .aon else .ctrl
  | 0x3 => .ctrl | 0x4 => .aon
  | 0x5 => .host | 0x6 => .host | 0x7 => .host
  | 0x8 => .comp | 0x9 => .comp
  | 0xA => .hbm | 0xB => .hbm
  | 0xC => .plat
  | 0xD =>
    if 0xD00C0 ≤ off ∧ off < 0xD0100 then .bdlb
    else if 0xD0200 ≤ off ∧ off < 0xD0340 then .bdlb else .bdla
  | 0xE => .motion | 0xF => .motion | 0x10 => .motion
  | 0x11 => .vision
  | 0x12 => .ring | 0x13 => .ring
  | 0x14 => .ctrl
  | 0x15 => .bdlb
  | 0x16 => .aon
  | 0x17 => sramDom (off % 0x10000 / 0x40)
  | 0x18 => .mgmt
  | _ => .ctrl

/-- The store after a reset of domain d: its registers hold their reset values (R14, R17). -/
def Regs.resetDom (r : Regs) (d : Dom) : Regs := r.filter (fun p => domOf (p.1 / 32 * 4) != d)

end Sys2Proof.Machine
end

