-- ==== Sys2Proof/Machine/RegMap.lean ====
section
/-! DEFINITION. The register map of WIN_REG: one field descriptor for every field of every register summary of the
spec (R699, R700 and the summaries R71, R118, R144, R185, R232, R280, R288, R325, R365, R411, R414, R459, R508, R511,
R549, R580, R583, R624, R627, R672, R709), then the table of the 32-bit words that software reads and writes.
A value held in a LO/HI pair is one wide field (R699).  Written by a script from the spec's own tables. -/

namespace Sys2Proof.Machine.F
open Sys2Proof.Machine


/-! Fields of 02_scan_law.md -/
/-- ESC_GEOM (R72). -/
abbrev ESC_GEOM_M_LOG2 : Fld := ⟨0x700000, 3, 0⟩
/-- ESC_GEOM (R72). -/
abbrev ESC_GEOM_P_LOG2 : Fld := ⟨0x700004, 2, 0⟩
/-- ESC_GEOM (R72). -/
abbrev ESC_GEOM_LEAD_MODE : Fld := ⟨0x700008, 1, 0⟩
/-- ESC_PITCH (R71). -/
abbrev ESC_PITCH : Fld := ⟨0x700020, 17, 0⟩
/-- ESC_SHOT_PITCH (R71). -/
abbrev ESC_SHOT_PITCH : Fld := ⟨0x700040, 26, 0⟩
/-- ESC_CUR_CTL (R74). -/
abbrev ESC_CUR_CTL_DIR : Fld := ⟨0x700080, 1, 0⟩
/-- ESC_CUR_CTL (R74). -/
abbrev ESC_CUR_CTL_OPEN : Fld := ⟨0x700081, 1, 0⟩
/-- ESC_CUR_BODY (R71). -/
abbrev ESC_CUR_BODY : Fld := ⟨0x7000a0, 24, 0⟩
/-- ESC_CUR_CYCLES (R71). -/
abbrev ESC_CUR_CYCLES : Fld := ⟨0x7000c0, 25, 0⟩
/-- ESC_CUR_XS_LO (R71). -/
abbrev ESC_CUR_XS : Fld := ⟨0x700100, 48, 0⟩
/-- ESC_CUR_YS_LO (R71). -/
abbrev ESC_CUR_YS : Fld := ⟨0x700140, 48, 0⟩
/-- ESC_CUR_X0_LO (R71). -/
abbrev ESC_CUR_X0 : Fld := ⟨0x700180, 48, 0⟩

/-! Fields of 03_copy_stream.md -/
/-- PRT_ING_CTL (R119). -/
abbrev PRT_ING_CTL_ENABLE : Fld := ⟨0x284000, 1, 0⟩
/-- PRT_ING_CTL (R119). -/
abbrev PRT_ING_CTL_RETRY : Fld := ⟨0x284001, 4, 2⟩
/-- PRT_ING_BUILD_LO (R118). -/
abbrev PRT_ING_BUILD : Fld := ⟨0x284020, 64, 0⟩
/-- PRT_ING_ACCEPT (R118). -/
abbrev PRT_ING_ACCEPT : Fld := ⟨0x284080, 32, 0⟩
/-- PRT_ING_REFETCH (R118). -/
abbrev PRT_ING_REFETCH : Fld := ⟨0x2840a0, 32, 0⟩
/-- PRT_ING_REJECT (R118). -/
abbrev PRT_ING_REJECT : Fld := ⟨0x2840c0, 32, 0⟩
/-- PRT_ING_ERR (R122). -/
abbrev PRT_ING_ERR_CAUSE : Fld := ⟨0x284100, 4, 0⟩
/-- PRT_ING_ERR (R122). -/
abbrev PRT_ING_ERR_KEY_SLOT : Fld := ⟨0x284104, 4, 0⟩
/-- PRT_ING_ERR (R122). -/
abbrev PRT_ING_ERR_TRIES : Fld := ⟨0x284108, 5, 0⟩
/-- PRT_ING_ERR (R122). -/
abbrev PRT_ING_ERR_CHANNEL : Fld := ⟨0x284110, 15, 0⟩
/-- PRT_ING_ERR (R122). -/
abbrev PRT_ING_ERR_VALID : Fld := ⟨0x28411f, 1, 0⟩
/-- PRT_ING_ERR_SEQ_LO (R118). -/
abbrev PRT_ING_ERR_SEQ : Fld := ⟨0x284120, 64, 0⟩
/-- CMP_LUETH_LAYERS (R118). -/
abbrev CMP_LUETH_LAYERS_N : Fld := ⟨0x400800, 2, 0⟩
/-- CMP_LUETH_LAYERS (R118). -/
abbrev CMP_LUETH_LAYERS_READY0 : Fld := ⟨0x400802, 1, 0⟩
/-- CMP_LUETH_LAYERS (R118). -/
abbrev CMP_LUETH_LAYERS_READY1 : Fld := ⟨0x400803, 1, 0⟩
/-- CMP_LUETH_LAYERS (R118). -/
abbrev CMP_LUETH_LAYERS_REJ0 : Fld := ⟨0x400804, 1, 0⟩
/-- CMP_LUETH_LAYERS (R118). -/
abbrev CMP_LUETH_LAYERS_REJ1 : Fld := ⟨0x400805, 1, 0⟩
/-- CMP_LUETH_READY (R118). -/
abbrev CMP_LUETH_READY : Fld := ⟨0x400820, 32, 0⟩
/-- CMP_LUETH_HINT (R118). -/
abbrev CMP_LUETH_HINT : Fld := ⟨0x400840, 32, 0⟩
/-- CMP_LUETH_ERR (R125). -/
abbrev CMP_LUETH_ERR_CAUSE : Fld := ⟨0x400880, 4, 0⟩
/-- CMP_LUETH_ERR (R125). -/
abbrev CMP_LUETH_ERR_LAYER : Fld := ⟨0x400884, 1, 0⟩
/-- CMP_LUETH_ERR (R125). -/
abbrev CMP_LUETH_ERR_OLDER : Fld := ⟨0x400885, 1, 0⟩
/-- CMP_LUETH_ERR (R125). -/
abbrev CMP_LUETH_ERR_VALID : Fld := ⟨0x40089f, 1, 0⟩
/-- CMP_LUETH_ERR_TAKE (R118). -/
abbrev CMP_LUETH_ERR_TAKE : Fld := ⟨0x4008a0, 32, 0⟩
/-- CMP_LUETH_ERR_OFF (R118). -/
abbrev CMP_LUETH_ERR_OFF : Fld := ⟨0x4008c0, 20, 0⟩
/-- CMP_TAKE_RELEASE (R118). -/
abbrev CMP_TAKE_RELEASE : Fld := ⟨0x400900, 32, 0⟩
/-- CMP_LAYER_RELEASE (R118). -/
abbrev CMP_LAYER_RELEASE : Fld := ⟨0x400920, 1, 0⟩
/-- CMP_LUETH_ERR_SEQ_LO (R118). -/
abbrev CMP_LUETH_ERR_SEQ : Fld := ⟨0x400940, 64, 0⟩

/-! Fields of 04_raster_rules.md -/
/-- CMP_RAS_X (R144). -/
abbrev CMP_RAS_X : Fld := ⟨0x401000, 32, 0⟩
/-- CMP_RAS_INST_LO (R144). -/
abbrev CMP_RAS_INST : Fld := ⟨0x401040, 64, 0⟩
/-- CMP_RAS_PIX_LO (R144). -/
abbrev CMP_RAS_PIX : Fld := ⟨0x401080, 64, 0⟩
/-- CMP_LDIG_LO (R144). -/
abbrev CMP_LDIG : Fld := ⟨0x401100, 64, 0⟩
/-- CMP_LDIG_LAST_LO (R144). -/
abbrev CMP_LDIG_LAST : Fld := ⟨0x401140, 64, 0⟩
/-- CMP_LDIG_COUNT (R144). -/
abbrev CMP_LDIG_COUNT : Fld := ⟨0x401180, 32, 0⟩
/-- CMP_TAP_CTL (R147). -/
abbrev CMP_TAP_CTL_ARM : Fld := ⟨0x401200, 1, 0⟩
/-- CMP_TAP_CTL (R147). -/
abbrev CMP_TAP_CTL_BUSY : Fld := ⟨0x401201, 1, 0⟩
/-- CMP_TAP_X (R144). -/
abbrev CMP_TAP_X : Fld := ⟨0x401220, 32, 0⟩
/-- CMP_TAP_Y (R144). -/
abbrev CMP_TAP_Y : Fld := ⟨0x401240, 13, 0⟩
/-- CMP_TAP_SIZE (R144). -/
abbrev CMP_TAP_SIZE_NX : Fld := ⟨0x401260, 7, 1⟩
/-- CMP_TAP_SIZE (R144). -/
abbrev CMP_TAP_SIZE_NY : Fld := ⟨0x401270, 14, 1⟩
/-- CMP_TAP_ADDR_LO (R144). -/
abbrev CMP_TAP_ADDR : Fld := ⟨0x401280, 35, 0⟩
/-- CMP_TAP_STAT (R152). -/
abbrev CMP_TAP_STAT_DONE : Fld := ⟨0x4012c0, 1, 0⟩
/-- CMP_TAP_STAT (R152). -/
abbrev CMP_TAP_STAT_RANGE : Fld := ⟨0x4012c1, 1, 0⟩
/-- CMP_TAP_STAT (R152). -/
abbrev CMP_TAP_STAT_ADDR : Fld := ⟨0x4012c2, 1, 0⟩
/-- CMP_TAP_STAT (R152). -/
abbrev CMP_TAP_STAT_LOST : Fld := ⟨0x4012c3, 1, 0⟩
/-- CMP_TAP_CRC_LO (R144). -/
abbrev CMP_TAP_CRC : Fld := ⟨0x401300, 64, 0⟩

/-! Fields of 05_dose_shaping.md -/
/-- CMP_SR_CTL (R187). -/
abbrev CMP_SR_CTL_HX : Fld := ⟨0x401800, 3, 0⟩
/-- CMP_SR_CTL (R187). -/
abbrev CMP_SR_CTL_HY : Fld := ⟨0x401804, 3, 0⟩
/-- CMP_SR_CTL (R187). -/
abbrev CMP_SR_CTL_EN : Fld := ⟨0x401808, 1, 0⟩
/-- CMP_SR_KX[t], t = 0..14 (R185). -/
abbrev CMP_SR_KX (i : Nat) : Fld := ⟨0x401820 + 32 * i, 16, 0⟩
/-- CMP_SR_KY[t], t = 0..14 (R185). -/
abbrev CMP_SR_KY (i : Nat) : Fld := ⟨0x401a00 + 32 * i, 16, 0⟩
/-- CMP_LR_CTL (R188). -/
abbrev CMP_LR_CTL_EN : Fld := ⟨0x401c00, 1, 0⟩
/-- CMP_LR_CTL (R188). -/
abbrev CMP_LR_CTL_RADIUS : Fld := ⟨0x401c02, 6, 0⟩
/-- CMP_LR_CTL (R188). -/
abbrev CMP_LR_CTL_NC : Fld := ⟨0x401c08, 2, 0⟩
/-- CMP_LR_CTL (R188). -/
abbrev CMP_LR_CTL_SHIFT : Fld := ⟨0x401c0a, 6, 0⟩
/-- CMP_LR_BASE (R185). -/
abbrev CMP_LR_BASE : Fld := ⟨0x401c20, 16, 16384⟩
/-- CMP_LR_LIMIT (R185). -/
abbrev CMP_LR_LIMIT_MIN : Fld := ⟨0x401c40, 16, 8192⟩
/-- CMP_LR_LIMIT (R185). -/
abbrev CMP_LR_LIMIT_MAX : Fld := ⟨0x401c50, 16, 32767⟩
/-- CMP_LR_AMP[n], n = 0..2 (R185). -/
abbrev CMP_LR_AMP (i : Nat) : Fld := ⟨0x401c60 + 32 * i, 16, 0⟩
/-- CMP_LR_G[i], i = 0..50 (R185). -/
abbrev CMP_LR_G_E (i : Nat) : Fld := ⟨0x402000 + 32 * i, 16, 0⟩
/-- CMP_LR_G[i], i = 0..50 (R185). -/
abbrev CMP_LR_G_O (i : Nat) : Fld := ⟨0x402010 + 32 * i, 16, 0⟩
/-- CMP_HALO_CTL (R189). -/
abbrev CMP_HALO_CTL_MODE_X : Fld := ⟨0x402800, 2, 1⟩
/-- CMP_HALO_CTL (R189). -/
abbrev CMP_HALO_CTL_MODE_YLO : Fld := ⟨0x402802, 2, 1⟩
/-- CMP_HALO_CTL (R189). -/
abbrev CMP_HALO_CTL_MODE_YHI : Fld := ⟨0x402804, 2, 1⟩
/-- CMP_HALO_CTL (R189). -/
abbrev CMP_HALO_CTL_DEV_YLO : Fld := ⟨0x402806, 6, 0⟩
/-- CMP_HALO_CTL (R189). -/
abbrev CMP_HALO_CTL_DEV_YHI : Fld := ⟨0x40280c, 6, 0⟩
/-- CMP_HALO_STAT (R190). -/
abbrev CMP_HALO_STAT_PREPASS : Fld := ⟨0x402820, 1, 0⟩
/-- CMP_HALO_STAT (R190). -/
abbrev CMP_HALO_STAT_YLO_OK : Fld := ⟨0x402821, 1, 0⟩
/-- CMP_HALO_STAT (R190). -/
abbrev CMP_HALO_STAT_YHI_OK : Fld := ⟨0x402822, 1, 0⟩
/-- CMP_HALO_REJECT (R185). -/
abbrev CMP_HALO_REJECT_SPAN : Fld := ⟨0x402840, 16, 0⟩
/-- CMP_HALO_REJECT (R185). -/
abbrev CMP_HALO_REJECT_DUP : Fld := ⟨0x402850, 16, 0⟩
/-- CMP_BIND_CFG (R185). -/
abbrev CMP_BIND_CFG : Fld := ⟨0x402880, 32, 0⟩
/-- CMP_BIND_GAIN (R185). -/
abbrev CMP_BIND_GAIN : Fld := ⟨0x4028a0, 32, 0⟩
/-- CMP_EQ_SAT (R185). -/
abbrev CMP_EQ_SAT : Fld := ⟨0x4028c0, 32, 0⟩
/-- CMP_DPV_CTL (R185). -/
abbrev CMP_DPV_CTL_LIST_EN : Fld := ⟨0x403000, 1, 0⟩
/-- CMP_DPV_BASE_LO (R185). -/
abbrev CMP_DPV_BASE : Fld := ⟨0x403020, 35, 0⟩
/-- CMP_DPV_SIZE (R185). -/
abbrev CMP_DPV_SIZE : Fld := ⟨0x403060, 24, 0⟩
/-- CMP_DPV_WR (R185). -/
abbrev CMP_DPV_WR : Fld := ⟨0x403080, 25, 0⟩
/-- CMP_DPV_BEAM (R185). -/
abbrev CMP_DPV_BEAM : Fld := ⟨0x4030a0, 32, 0⟩
/-- CMP_DPV_SHOT (R185). -/
abbrev CMP_DPV_SHOT : Fld := ⟨0x4030c0, 32, 0⟩
/-- CMP_DPV_STAT (R193). -/
abbrev CMP_DPV_STAT_OVF : Fld := ⟨0x4030e0, 1, 0⟩
/-- CMP_DPV_STAT (R193). -/
abbrev CMP_DPV_STAT_DONE : Fld := ⟨0x4030e1, 1, 0⟩
/-- CMP_DPV_STAT (R193). -/
abbrev CMP_DPV_STAT_ADDR : Fld := ⟨0x4030e2, 1, 0⟩
/-- CMP_LEAD (R185). -/
abbrev CMP_LEAD : Fld := ⟨0x403800, 24, 0⟩
/-- CMP_LEAD_WARN (R185). -/
abbrev CMP_LEAD_WARN : Fld := ⟨0x403820, 24, 64⟩
/-- CMP_LEAD_MIN (R185). -/
abbrev CMP_LEAD_MIN : Fld := ⟨0x403840, 24, 16777215⟩

/-! Fields of 06_quire_codec.md -/
/-- CMP_QUIRE_CTL (R232). -/
abbrev CMP_QUIRE_CTL_LEVEL : Fld := ⟨0x404000, 3, 3⟩
/-- CMP_QUIRE_STAT (R234). -/
abbrev CMP_QUIRE_STAT_VFAIL : Fld := ⟨0x404020, 1, 0⟩
/-- CMP_QUIRE_STAT (R234). -/
abbrev CMP_QUIRE_STAT_UNPUB : Fld := ⟨0x404021, 1, 0⟩
/-- CMP_QUIRE_RAW (R232). -/
abbrev CMP_QUIRE_RAW : Fld := ⟨0x404040, 32, 0⟩
/-- CMP_QUIRE_VFAIL (R232). -/
abbrev CMP_QUIRE_VFAIL : Fld := ⟨0x404060, 32, 0⟩
/-- CMP_QUIRE_IN_LO (R232). -/
abbrev CMP_QUIRE_IN : Fld := ⟨0x404080, 64, 0⟩
/-- CMP_QUIRE_OUT_LO (R232). -/
abbrev CMP_QUIRE_OUT : Fld := ⟨0x4040c0, 64, 0⟩
/-- PLT_CKPT_BASE_LO (R232). -/
abbrev PLT_CKPT_BASE : Fld := ⟨0x604000, 35, 0⟩
/-- PLT_CKPT_STAT (R237). -/
abbrev PLT_CKPT_STAT_WRITTEN : Fld := ⟨0x604040, 1, 0⟩
/-- PLT_CKPT_STAT (R237). -/
abbrev PLT_CKPT_STAT_LOADED : Fld := ⟨0x604041, 1, 0⟩
/-- PLT_CKPT_STAT (R237). -/
abbrev PLT_CKPT_STAT_BAD : Fld := ⟨0x604042, 1, 0⟩
/-- PLT_CKPT_STAT (R237). -/
abbrev PLT_CKPT_STAT_ADDR : Fld := ⟨0x604043, 1, 0⟩
/-- PLT_QDEC_ERR (R238). -/
abbrev PLT_QDEC_ERR_CAUSE : Fld := ⟨0x604080, 4, 0⟩
/-- PLT_QDEC_ERR (R238). -/
abbrev PLT_QDEC_ERR_LANE : Fld := ⟨0x604084, 5, 0⟩
/-- PLT_QDEC_ERR (R238). -/
abbrev PLT_QDEC_ERR_TILE : Fld := ⟨0x604089, 1, 0⟩
/-- PLT_QDEC_ERR (R238). -/
abbrev PLT_QDEC_ERR_VALID : Fld := ⟨0x60409f, 1, 0⟩
/-- PLT_QDEC_ERR_SHOT_LO (R232). -/
abbrev PLT_QDEC_ERR_SHOT : Fld := ⟨0x6040a0, 40, 0⟩
/-- PLT_QDEC_TFAIL (R232). -/
abbrev PLT_QDEC_TFAIL : Fld := ⟨0x604100, 32, 0⟩
/-- PLT_QDEC_LFAIL (R232). -/
abbrev PLT_QDEC_LFAIL : Fld := ⟨0x604120, 32, 0⟩

/-! Fields of 07_galley_and_sram.md -/
/-- MEM_CTL (R281). -/
abbrev MEM_CTL_RUN : Fld := ⟨0x500000, 1, 0⟩
/-- MEM_STAT (R281). -/
abbrev MEM_STAT_RUN_ACK : Fld := ⟨0x500020, 1, 0⟩
/-- MEM_STAT (R281). -/
abbrev MEM_STAT_HASH_BAD : Fld := ⟨0x500021, 1, 0⟩
/-- MEM_STAT (R281). -/
abbrev MEM_STAT_IN_SR : Fld := ⟨0x500022, 1, 0⟩
/-- MEM_HASH_LO[i], i = 0..8 (R280). -/
abbrev MEM_HASH (i : Nat) : Fld := ⟨0x500080 + 64 * i, 40, hashReset i⟩
/-- MEM_PART (R280). -/
abbrev MEM_PART_COPY : Fld := ⟨0x500300, 8, 0⟩
/-- MEM_PART (R280). -/
abbrev MEM_PART_GALLEY : Fld := ⟨0x500308, 8, 0⟩
/-- MEM_PART (R280). -/
abbrev MEM_PART_DIR_LOG2 : Fld := ⟨0x500310, 5, 0⟩
/-- MEM_REF_CTL (R280). -/
abbrev MEM_REF_CTL_TRFCPB : Fld := ⟨0x500400, 9, 350⟩
/-- MEM_REF_FORCED (R280). -/
abbrev MEM_REF_FORCED : Fld := ⟨0x500420, 32, 0⟩
/-- MEM_REF_DEBT_MAX (R280). -/
abbrev MEM_REF_DEBT_MAX : Fld := ⟨0x500440, 4, 0⟩
/-- MEM_TEMP (R280). -/
abbrev MEM_TEMP_T : Fld := ⟨0x500480, 8, 0⟩
/-- MEM_TEMP (R280). -/
abbrev MEM_TEMP_RATE : Fld := ⟨0x500488, 2, 0⟩
/-- MEM_POISON (R280). -/
abbrev MEM_POISON : Fld := ⟨0x500500, 32, 0⟩
/-- MEM_POISON_ADDR_LO (R280). -/
abbrev MEM_POISON_ADDR : Fld := ⟨0x500520, 35, 0⟩
/-- MEM_POISON_ADDR_HI (R285). -/
abbrev MEM_POISON_ADDR_SRC : Fld := ⟨0x500548, 4, 0⟩
/-- MEM_GAL_PUB_LO (R280). -/
abbrev MEM_GAL_PUB : Fld := ⟨0x500600, 64, 0⟩
/-- MEM_GAL_STALL (R280). -/
abbrev MEM_GAL_STALL : Fld := ⟨0x500640, 32, 0⟩
/-- MEM_DLY_RD[c], c = 0..15 (R280). -/
abbrev MEM_DLY_RD (i : Nat) : Fld := ⟨0x500800 + 128 * i, 12, 0⟩
/-- MEM_DLY_WR[c], c = 0..15 (R280). -/
abbrev MEM_DLY_WR (i : Nat) : Fld := ⟨0x500820 + 128 * i, 12, 0⟩
/-- MEM_DLY_CA[c], c = 0..15 (R280). -/
abbrev MEM_DLY_CA (i : Nat) : Fld := ⟨0x500840 + 128 * i, 12, 0⟩
/-- SRM_CTL[a] (R288). -/
abbrev SRM_CTL_SCRUB_EN (i : Nat) : Fld := ⟨0xb80000 + 512 * i, 1, 1⟩
/-- SRM_LAP_LIMIT[a] (R288). -/
abbrev SRM_LAP_LIMIT (i : Nat) : Fld := ⟨0xb80020 + 512 * i, 24, lapReset i⟩
/-- SRM_LAP_LAST[a] (R288). -/
abbrev SRM_LAP_LAST (i : Nat) : Fld := ⟨0xb80040 + 512 * i, 24, 0⟩
/-- SRM_LAP_MAX[a] (R288). -/
abbrev SRM_LAP_MAX (i : Nat) : Fld := ⟨0xb80060 + 512 * i, 24, 0⟩
/-- SRM_CE[a] (R288). -/
abbrev SRM_CE (i : Nat) : Fld := ⟨0xb80080 + 512 * i, 32, 0⟩
/-- SRM_UE[a] (R288). -/
abbrev SRM_UE (i : Nat) : Fld := ⟨0xb800a0 + 512 * i, 32, 0⟩
/-- SRM_UNINIT[a] (R288). -/
abbrev SRM_UNINIT (i : Nat) : Fld := ⟨0xb800c0 + 512 * i, 32, 0⟩
/-- SRM_ERR[a] (R290). -/
abbrev SRM_ERR_CE (i : Nat) : Fld := ⟨0xb800e0 + 512 * i, 1, 0⟩
/-- SRM_ERR[a] (R290). -/
abbrev SRM_ERR_UE (i : Nat) : Fld := ⟨0xb800e1 + 512 * i, 1, 0⟩
/-- SRM_ERR[a] (R290). -/
abbrev SRM_ERR_UNINIT (i : Nat) : Fld := ⟨0xb800e2 + 512 * i, 1, 0⟩
/-- SRM_ERR[a] (R290). -/
abbrev SRM_ERR_SLOW (i : Nat) : Fld := ⟨0xb800e3 + 512 * i, 1, 0⟩
/-- SRM_ERR[a] (R290). -/
abbrev SRM_ERR_WORD (i : Nat) : Fld := ⟨0xb800e4 + 512 * i, 3, 0⟩
/-- SRM_ERR[a] (R290). -/
abbrev SRM_ERR_BIT (i : Nat) : Fld := ⟨0xb800e7 + 512 * i, 6, 0⟩
/-- SRM_ERR[a] (R290). -/
abbrev SRM_ERR_PARITY (i : Nat) : Fld := ⟨0xb800ed + 512 * i, 1, 0⟩
/-- SRM_ERR_ADDR[a] (R288). -/
abbrev SRM_ERR_ADDR (i : Nat) : Fld := ⟨0xb80100 + 512 * i, 32, 0⟩

/-! Fields of 08_platen.md -/
/-- PLT_CTL (R325). -/
abbrev PLT_CTL_DEPTH : Fld := ⟨0x600000, 4, 8⟩
/-- PLT_STAT (R325). -/
abbrev PLT_STAT_RUN : Fld := ⟨0x600020, 1, 0⟩
/-- PLT_STAT (R325). -/
abbrev PLT_STAT_AHEAD : Fld := ⟨0x600021, 4, 0⟩
/-- PLT_LATE (R325). -/
abbrev PLT_LATE : Fld := ⟨0x600040, 32, 0⟩
/-- PLT_LATE_SHOT_LO (R325). -/
abbrev PLT_LATE_SHOT : Fld := ⟨0x600060, 40, 0⟩
/-- PLT_AHEAD_MIN (R325). -/
abbrev PLT_AHEAD_MIN : Fld := ⟨0x6000a0, 4, 15⟩
/-- PLT_TALLY_RING_LO (R325). -/
abbrev PLT_TALLY_RING : Fld := ⟨0x600800, 35, 0⟩
/-- PLT_TALLY_STAT (R327). -/
abbrev PLT_TALLY_STAT_BYPASS : Fld := ⟨0x600840, 1, 0⟩
/-- PLT_TALLY_STAT (R327). -/
abbrev PLT_TALLY_STAT_GUARD : Fld := ⟨0x600841, 1, 0⟩
/-- PLT_TALLY_STAT (R327). -/
abbrev PLT_TALLY_STAT_STATE : Fld := ⟨0x600842, 1, 0⟩
/-- PLT_TALLY_STAT (R327). -/
abbrev PLT_TALLY_STAT_ADDR : Fld := ⟨0x600843, 1, 0⟩
/-- PLT_TALLY_GUARD (R325). -/
abbrev PLT_TALLY_GUARD : Fld := ⟨0x600860, 32, 0⟩
/-- PLT_TALLY_HSUM (R325). -/
abbrev PLT_TALLY_HSUM : Fld := ⟨0x600880, 32, 0⟩
/-- PLT_TALLY_BMAX (R325). -/
abbrev PLT_TALLY_BMAX : Fld := ⟨0x6008a0, 14, 0⟩
/-- HED_AUTH_CTL (R325). -/
abbrev HED_AUTH_CTL_START : Fld := ⟨0xa80000, 1, 0⟩
/-- HED_AUTH_STAT (R328). -/
abbrev HED_AUTH_STAT_STATE : Fld := ⟨0xa80020, 2, 0⟩
/-- HED_AUTH_STAT (R328). -/
abbrev HED_AUTH_STAT_CAUSE : Fld := ⟨0xa80022, 2, 0⟩
/-- HED_AUTH_STAT (R328). -/
abbrev HED_AUTH_STAT_LOST : Fld := ⟨0xa80024, 1, 0⟩
/-- HED_AUTH_STAT (R328). -/
abbrev HED_AUTH_STAT_FAILS : Fld := ⟨0xa80028, 8, 0⟩
/-- HED_ID[i], i = 0..3 (R325). -/
abbrev HED_ID (i : Nat) : Fld := ⟨0xa80080 + 32 * i, 32, 0⟩
/-- HED_BEAM_CTL (R325). -/
abbrev HED_BEAM_CTL_ENABLE : Fld := ⟨0xa80100, 1, 0⟩
/-- HED_BEAM_STAT (R329). -/
abbrev HED_BEAM_STAT_ENABLE_OUT : Fld := ⟨0xa80120, 1, 0⟩
/-- HED_BEAM_STAT (R329). -/
abbrev HED_BEAM_STAT_INHIBIT_IN : Fld := ⟨0xa80121, 1, 0⟩
/-- HED_BEAM_STAT (R329). -/
abbrev HED_BEAM_STAT_INHIBIT : Fld := ⟨0xa80122, 1, 0⟩
/-- HED_BEAM_STAT (R329). -/
abbrev HED_BEAM_STAT_REFUSED : Fld := ⟨0xa80123, 1, 0⟩
/-- HED_BEAM_STAT (R329). -/
abbrev HED_BEAM_STAT_TEMP_STOP : Fld := ⟨0xa80124, 1, 0⟩
/-- HED_BEAM_STAT (R329). -/
abbrev HED_BEAM_STAT_TELEM_STALE : Fld := ⟨0xa80125, 1, 0⟩
/-- HED_INH_SHOT_LO (R325). -/
abbrev HED_INH_SHOT : Fld := ⟨0xa80140, 40, 0⟩
/-- HED_TEMP_LIM (R325). -/
abbrev HED_TEMP_LIM : Fld := ⟨0xa80180, 16, 1280⟩
/-- HED_TEMP_MAX (R325). -/
abbrev HED_TEMP_MAX : Fld := ⟨0xa801a0, 16, 32768⟩
/-- HED_TEMP[i], i = 0..15 (R325). -/
abbrev HED_TEMP (i : Nat) : Fld := ⟨0xa80200 + 32 * i, 16, 0⟩
/-- HED_CUR[i], i = 0..15 (R325). -/
abbrev HED_CUR (i : Nat) : Fld := ⟨0xa80400 + 32 * i, 16, 0⟩
/-- HED_USAGE_LO[j], j = 0..63 (R325). -/
abbrev HED_USAGE (i : Nat) : Fld := ⟨0xa80800 + 64 * i, 64, 0⟩

/-! Fields of 09_beam_data_lanes.md -/
/-- BDL_LEAD (R365). -/
abbrev BDL_LEAD : Fld := ⟨0x680000, 9, 320⟩
/-- BDL_ACK_TMO (R365). -/
abbrev BDL_ACK_TMO : Fld := ⟨0x680020, 20, 10000⟩
/-- BDL_DEVICE (R365). -/
abbrev BDL_DEVICE : Fld := ⟨0x680040, 6, 0⟩
/-- BDL_CSEQ (R365). -/
abbrev BDL_CSEQ : Fld := ⟨0x680060, 32, 0⟩
/-- BDL_TRAIN_MASK (R365). -/
abbrev BDL_TRAIN_MASK : Fld := ⟨0x680080, 32, 0⟩
/-- BDL_TRAIN_CTL (R367). -/
abbrev BDL_TRAIN_CTL_START : Fld := ⟨0x6800a0, 1, 0⟩
/-- BDL_TRAIN_CTL (R367). -/
abbrev BDL_TRAIN_CTL_BUSY : Fld := ⟨0x6800a1, 1, 0⟩
/-- BDL_TRAIN_CTL (R367). -/
abbrev BDL_TRAIN_CTL_DONE : Fld := ⟨0x6800a2, 1, 0⟩
/-- BDL_TRAIN_CTL (R367). -/
abbrev BDL_TRAIN_CTL_FAIL : Fld := ⟨0x6800a3, 1, 0⟩
/-- BDL_EQ_TAB[p] (R367). -/
abbrev BDL_EQ_TAB_PRE (i : Nat) : Fld := ⟨0x680100 + 32 * i, 5, 0⟩
/-- BDL_EQ_TAB[p] (R367). -/
abbrev BDL_EQ_TAB_POST (i : Nat) : Fld := ⟨0x680108 + 32 * i, 5, 0⟩
/-- BDL_MAP[n] (R365). -/
abbrev BDL_MAP (i : Nat) : Fld := ⟨0x680400 + 32 * i, 9, 0⟩
/-- BDL_CTL[n] (R368). -/
abbrev BDL_CTL_PRESET (i : Nat) : Fld := ⟨0x680800 + 128 * i, 4, 0⟩
/-- BDL_CTL[n] (R368). -/
abbrev BDL_CTL_SWING (i : Nat) : Fld := ⟨0x680804 + 128 * i, 4, 0⟩
/-- BDL_CTL[n] (R368). -/
abbrev BDL_CTL_SLEEP (i : Nat) : Fld := ⟨0x680808 + 128 * i, 1, 0⟩
/-- BDL_STAT[n] (R368). -/
abbrev BDL_STAT_STATE (i : Nat) : Fld := ⟨0x680820 + 128 * i, 3, 0⟩
/-- BDL_STAT[n] (R368). -/
abbrev BDL_STAT_FOM (i : Nat) : Fld := ⟨0x680824 + 128 * i, 8, 0⟩
/-- BDL_STAT[n] (R368). -/
abbrev BDL_STAT_BEST (i : Nat) : Fld := ⟨0x68082c + 128 * i, 4, 0⟩
/-- BDL_NAK[n] (R365). -/
abbrev BDL_NAK (i : Nat) : Fld := ⟨0x680840 + 128 * i, 32, 0⟩
/-- BDL_SILENT[n] (R365). -/
abbrev BDL_SILENT (i : Nat) : Fld := ⟨0x680860 + 128 * i, 32, 0⟩
/-- BDL_RX_CTL[k] (R369). -/
abbrev BDL_RX_CTL_FOM_MIN (i : Nat) : Fld := ⟨0x681800 + 128 * i, 8, 64⟩
/-- BDL_RX_CTL[k] (R369). -/
abbrev BDL_RX_CTL_RECOVER (i : Nat) : Fld := ⟨0x681808 + 128 * i, 1, 0⟩
/-- BDL_RX_STAT[k] (R369). -/
abbrev BDL_RX_STAT_STATE (i : Nat) : Fld := ⟨0x681820 + 128 * i, 2, 0⟩
/-- BDL_RX_STAT[k] (R369). -/
abbrev BDL_RX_STAT_FOM (i : Nat) : Fld := ⟨0x681822 + 128 * i, 8, 0⟩
/-- BDL_RX_STAT[k] (R369). -/
abbrev BDL_RX_STAT_CTLE (i : Nat) : Fld := ⟨0x68182a + 128 * i, 4, 0⟩
/-- BDL_RX_STAT[k] (R369). -/
abbrev BDL_RX_STAT_LOCK (i : Nat) : Fld := ⟨0x68182e + 128 * i, 1, 0⟩
/-- BDL_RX_BAD[k] (R365). -/
abbrev BDL_RX_BAD (i : Nat) : Fld := ⟨0x681840 + 128 * i, 32, 0⟩
/-- BDL_RX_STRAY[k] (R365). -/
abbrev BDL_RX_STRAY (i : Nat) : Fld := ⟨0x681860 + 128 * i, 32, 0⟩
/-- BDL_ERR (R370). -/
abbrev BDL_ERR_LANE : Fld := ⟨0x682000, 5, 0⟩
/-- BDL_ERR (R370). -/
abbrev BDL_ERR_KIND : Fld := ⟨0x682005, 2, 0⟩
/-- BDL_ERR (R370). -/
abbrev BDL_ERR_FLAGGED : Fld := ⟨0x682007, 1, 0⟩
/-- BDL_ERR (R370). -/
abbrev BDL_ERR_VALID : Fld := ⟨0x68201f, 1, 0⟩
/-- BDL_ERR_SHOT_LO (R365). -/
abbrev BDL_ERR_SHOT : Fld := ⟨0x682020, 40, 0⟩

/-! Fields of 10_escapement_governor.md -/
/-- ESC_POS_CTL[n] (R412). -/
abbrev ESC_POS_CTL_ROLE (i : Nat) : Fld := ⟨0x700800 + 256 * i, 2, 0⟩
/-- ESC_POS_CTL[n] (R412). -/
abbrev ESC_POS_CTL_QUAD (i : Nat) : Fld := ⟨0x700802 + 256 * i, 1, 0⟩
/-- ESC_POS_CTL[n] (R412). -/
abbrev ESC_POS_CTL_AUX_CHECK (i : Nat) : Fld := ⟨0x700803 + 256 * i, 1, 0⟩
/-- ESC_POS_CTL[n] (R412). -/
abbrev ESC_POS_CTL_IDX_HOME (i : Nat) : Fld := ⟨0x700804 + 256 * i, 1, 0⟩
/-- ESC_POS_CTL[n] (R412). -/
abbrev ESC_POS_CTL_LINK_ID (i : Nat) : Fld := ⟨0x700808 + 256 * i, 8, 0⟩
/-- ESC_POS_CTL[n] (R412). -/
abbrev ESC_POS_CTL_PERIOD (i : Nat) : Fld := ⟨0x700810 + 256 * i, 8, 0⟩
/-- ESC_POS_STAT[n] (R412). -/
abbrev ESC_POS_STAT_STATE (i : Nat) : Fld := ⟨0x700820 + 256 * i, 2, 0⟩
/-- ESC_POS_STAT[n] (R412). -/
abbrev ESC_POS_STAT_FROZEN (i : Nat) : Fld := ⟨0x700822 + 256 * i, 1, 0⟩
/-- ESC_POS_STAT[n] (R412). -/
abbrev ESC_POS_STAT_HOMED (i : Nat) : Fld := ⟨0x700823 + 256 * i, 1, 0⟩
/-- ESC_POS_STAT[n] (R412). -/
abbrev ESC_POS_STAT_SEQ (i : Nat) : Fld := ⟨0x700828 + 256 * i, 8, 0⟩
/-- ESC_POS_BAD[n] (R411). -/
abbrev ESC_POS_BAD (i : Nat) : Fld := ⟨0x700840 + 256 * i, 32, 0⟩
/-- ESC_POS_MISS[n] (R411). -/
abbrev ESC_POS_MISS (i : Nat) : Fld := ⟨0x700860 + 256 * i, 32, 0⟩
/-- ESC_Q_SCALE[n] (R411). -/
abbrev ESC_Q_SCALE (i : Nat) : Fld := ⟨0x700880 + 256 * i, 32, 8388608⟩
/-- ESC_POS_VAL_LO[n] (R411). -/
abbrev ESC_POS_VAL (i : Nat) : Fld := ⟨0x7008a0 + 256 * i, 48, 0⟩
/-- ESC_TRK_CTL (R411). -/
abbrev ESC_TRK_CTL_BW : Fld := ⟨0x701000, 3, 5⟩
/-- ESC_FIX (R411). -/
abbrev ESC_FIX : Fld := ⟨0x701020, 8, 40⟩
/-- ESC_SLIP_MAX (R411). -/
abbrev ESC_SLIP_MAX : Fld := ⟨0x701040, 16, 100⟩
/-- ESC_SHOT_LO (R411). -/
abbrev ESC_SHOT : Fld := ⟨0x701080, 40, 0⟩
/-- ESC_TN_LO (R411). -/
abbrev ESC_TN : Fld := ⟨0x7010c0, 64, 0⟩
/-- ESC_TN_FR (R411). -/
abbrev ESC_TN_FR : Fld := ⟨0x701100, 16, 0⟩
/-- ESC_INTV_MIN (R411). -/
abbrev ESC_INTV_MIN : Fld := ⟨0x701120, 32, 4294967295⟩
/-- ESC_SLIP_PEAK (R411). -/
abbrev ESC_SLIP_PEAK : Fld := ⟨0x701140, 16, 0⟩
/-- ESC_STAT (R412). -/
abbrev ESC_STAT_POSLOSS : Fld := ⟨0x701160, 1, 0⟩
/-- ESC_STAT (R412). -/
abbrev ESC_STAT_FROZEN : Fld := ⟨0x701161, 1, 0⟩
/-- ESC_STAT (R412). -/
abbrev ESC_STAT_OVERSPEED : Fld := ⟨0x701162, 1, 0⟩
/-- ESC_STAT (R412). -/
abbrev ESC_STAT_TIME_LAUNCH : Fld := ⟨0x701163, 1, 0⟩
/-- ESC_STAT (R412). -/
abbrev ESC_STAT_PORT : Fld := ⟨0x701164, 2, 0⟩
/-- ESC_STOP_SHOT_LO (R411). -/
abbrev ESC_STOP_SHOT : Fld := ⟨0x701180, 40, 0⟩
/-- GOV_MODE (R415). -/
abbrev GOV_MODE_REQ : Fld := ⟨0x780000, 2, 0⟩
/-- GOV_MODE (R415). -/
abbrev GOV_MODE_AFTER : Fld := ⟨0x780002, 2, 0⟩
/-- GOV_STAT (R415). -/
abbrev GOV_STAT_MODE : Fld := ⟨0x780020, 2, 0⟩
/-- GOV_STAT (R415). -/
abbrev GOV_STAT_BLEND : Fld := ⟨0x780022, 1, 0⟩
/-- GOV_STAT (R415). -/
abbrev GOV_STAT_SAT_X : Fld := ⟨0x780023, 1, 0⟩
/-- GOV_STAT (R415). -/
abbrev GOV_STAT_SAT_Y : Fld := ⟨0x780024, 1, 0⟩
/-- GOV_STAT (R415). -/
abbrev GOV_STAT_FREEZE : Fld := ⟨0x780025, 1, 0⟩
/-- GOV_STAT (R415). -/
abbrev GOV_STAT_STOPPING : Fld := ⟨0x780026, 1, 0⟩
/-- GOV_STAT (R415). -/
abbrev GOV_STAT_HV_BAD : Fld := ⟨0x780027, 1, 0⟩
/-- GOV_STAT (R415). -/
abbrev GOV_STAT_VCLAMP : Fld := ⟨0x780028, 1, 0⟩
/-- GOV_STAT (R415). -/
abbrev GOV_STAT_REQ_PEND : Fld := ⟨0x780029, 1, 0⟩
/-- GOV_SLEW[m] (R414). -/
abbrev GOV_SLEW (i : Nat) : Fld := ⟨0x780080 + 32 * i, 24, 4096⟩
/-- GOV_PARK_X (R414). -/
abbrev GOV_PARK_X : Fld := ⟨0x780100, 32, 0⟩
/-- GOV_PARK_Y (R414). -/
abbrev GOV_PARK_Y : Fld := ⟨0x780120, 32, 0⟩
/-- GOV_DEF_SENS[a] (R414). -/
abbrev GOV_DEF_SENS (i : Nat) : Fld := ⟨0x780180 + 32 * i, 20, 0⟩
/-- GOV_DEF_LAT (R414). -/
abbrev GOV_DEF_LAT : Fld := ⟨0x7801c0, 8, 40⟩
/-- GOV_DEF_MARGIN (R414). -/
abbrev GOV_DEF_MARGIN : Fld := ⟨0x7801e0, 24, 4096⟩
/-- GOV_HV_NOM (R414). -/
abbrev GOV_HV_NOM : Fld := ⟨0x780200, 16, 0⟩
/-- GOV_HV_TOL (R414). -/
abbrev GOV_HV_TOL : Fld := ⟨0x780220, 8, 5⟩
/-- GOV_HV_MEAS (R414). -/
abbrev GOV_HV_MEAS : Fld := ⟨0x780240, 16, 0⟩
/-- GOV_TRIM_OFF[a] (R414). -/
abbrev GOV_TRIM_OFF (i : Nat) : Fld := ⟨0x780280 + 32 * i, 16, 0⟩
/-- GOV_RB_CTL (R414). -/
abbrev GOV_RB_CTL_SHIFT : Fld := ⟨0x7802c0, 4, 8⟩
/-- GOV_RB_CTL (R414). -/
abbrev GOV_RB_CTL_EN : Fld := ⟨0x7802c4, 1, 1⟩
/-- GOV_DEF_OUT[a] (R414). -/
abbrev GOV_DEF_OUT (i : Nat) : Fld := ⟨0x780300 + 32 * i, 18, 0⟩
/-- GOV_DEF_RB[a] (R414). -/
abbrev GOV_DEF_RB (i : Nat) : Fld := ⟨0x780340 + 32 * i, 18, 0⟩
/-- GOV_DEF_RANGE (R414). -/
abbrev GOV_DEF_RANGE : Fld := ⟨0x780380, 32, 0⟩
/-- GOV_SAT_SHOT_LO (R414). -/
abbrev GOV_SAT_SHOT : Fld := ⟨0x7803a0, 40, 0⟩
/-- GOV_PRF_VEL (R414). -/
abbrev GOV_PRF_VEL : Fld := ⟨0x780800, 16, 256⟩
/-- GOV_PRF_ACC (R414). -/
abbrev GOV_PRF_ACC : Fld := ⟨0x780820, 16, 10000⟩
/-- GOV_PRF_JERK (R414). -/
abbrev GOV_PRF_JERK : Fld := ⟨0x780840, 16, 2000⟩
/-- GOV_SEG_KIND (R414). -/
abbrev GOV_SEG_KIND : Fld := ⟨0x780880, 1, 0⟩
/-- GOV_SEG_X_LO (R414). -/
abbrev GOV_SEG_X : Fld := ⟨0x7808a0, 48, 0⟩
/-- GOV_SEG_Y_LO (R414). -/
abbrev GOV_SEG_Y : Fld := ⟨0x7808e0, 48, 0⟩
/-- GOV_SEG_VEL (R414). -/
abbrev GOV_SEG_VEL : Fld := ⟨0x780920, 32, 0⟩
/-- GOV_SEG_PUSH (R415). -/
abbrev GOV_SEG_PUSH_PUSH : Fld := ⟨0x780940, 1, 0⟩
/-- GOV_SEG_PUSH (R415). -/
abbrev GOV_SEG_PUSH_FLUSH : Fld := ⟨0x780941, 1, 0⟩
/-- GOV_SEG_PUSH (R415). -/
abbrev GOV_SEG_PUSH_ABORT : Fld := ⟨0x780942, 1, 0⟩
/-- GOV_SEG_STAT (R415). -/
abbrev GOV_SEG_STAT_QUEUED : Fld := ⟨0x780960, 3, 0⟩
/-- GOV_SEG_STAT (R415). -/
abbrev GOV_SEG_STAT_RUNNING : Fld := ⟨0x780963, 1, 0⟩
/-- GOV_SEG_STAT (R415). -/
abbrev GOV_SEG_STAT_REFUSED : Fld := ⟨0x780964, 1, 0⟩
/-- GOV_SP_CTL (R414). -/
abbrev GOV_SP_CTL_EN : Fld := ⟨0x780a00, 1, 0⟩
/-- GOV_SP_CTL (R414). -/
abbrev GOV_SP_CTL_LINK_ID : Fld := ⟨0x780a08, 8, 0⟩
/-- GOV_SP_CTL (R414). -/
abbrev GOV_SP_CTL_PERIOD : Fld := ⟨0x780a10, 14, 1000⟩

/-! Fields of 11_stripe_lifecycle.md -/
/-- TOP_EPOCH_CMD (R460). -/
abbrev TOP_EPOCH_CMD_COMMIT : Fld := ⟨0x800, 1, 0⟩
/-- TOP_EPOCH_STAT (R460). -/
abbrev TOP_EPOCH_STAT_PENDING : Fld := ⟨0x820, 1, 0⟩
/-- TOP_EPOCH_STAT (R460). -/
abbrev TOP_EPOCH_STAT_BLOCKED : Fld := ⟨0x821, 1, 0⟩
/-- TOP_EPOCH_STAT (R460). -/
abbrev TOP_EPOCH_STAT_GAIN_STAGED : Fld := ⟨0x822, 1, 0⟩
/-- TOP_EPOCH_STAT (R460). -/
abbrev TOP_EPOCH_STAT_SLOT : Fld := ⟨0x824, 3, 0⟩
/-- TOP_EPOCH_HOLD (R459). -/
abbrev TOP_EPOCH_HOLD : Fld := ⟨0x840, 8, 0⟩
/-- TOP_CFG_EPOCH_LO (R459). -/
abbrev TOP_CFG_EPOCH : Fld := ⟨0x880, 64, 0⟩
/-- TOP_GAIN_EPOCH_LO (R459). -/
abbrev TOP_GAIN_EPOCH : Fld := ⟨0x8c0, 64, 0⟩
/-- TOP_FORME_EPOCH_LO (R459). -/
abbrev TOP_FORME_EPOCH : Fld := ⟨0x900, 64, 0⟩
/-- TOP_SNAP (R460). -/
abbrev TOP_SNAP_SNAP : Fld := ⟨0xa00, 1, 0⟩
/-- TOP_SNAP (R460). -/
abbrev TOP_SNAP_CLEAR : Fld := ⟨0xa01, 1, 0⟩
/-- TOP_SNAP_STAT (R460). -/
abbrev TOP_SNAP_STAT_BUSY : Fld := ⟨0xa20, 1, 0⟩
/-- TOP_SNAP_STAT (R460). -/
abbrev TOP_SNAP_STAT_MISSED : Fld := ⟨0xa21, 1, 0⟩
/-- TOP_SNAP_STAT (R460). -/
abbrev TOP_SNAP_STAT_SEQ : Fld := ⟨0xa30, 16, 0⟩
/-- TOP_SNAP_TIME_LO (R459). -/
abbrev TOP_SNAP_TIME : Fld := ⟨0xa40, 64, 0⟩
/-- ASY_CMD (R460). -/
abbrev ASY_CMD_OP : Fld := ⟨0xa00000, 3, 0⟩
/-- ASY_CMD (R460). -/
abbrev ASY_CMD_NEWEST : Fld := ⟨0xa00003, 1, 0⟩
/-- ASY_CMD_STAT (R460). -/
abbrev ASY_CMD_STAT_OP : Fld := ⟨0xa00020, 3, 0⟩
/-- ASY_CMD_STAT (R460). -/
abbrev ASY_CMD_STAT_RESULT : Fld := ⟨0xa00023, 5, 0⟩
/-- ASY_CMD_STAT (R460). -/
abbrev ASY_CMD_STAT_WAITING : Fld := ⟨0xa00028, 1, 0⟩
/-- ASY_CMD_STAT (R460). -/
abbrev ASY_CMD_STAT_VALID : Fld := ⟨0xa0003f, 1, 0⟩
/-- ASY_OPEN_CTL (R460). -/
abbrev ASY_OPEN_CTL_DIR : Fld := ⟨0xa00080, 1, 0⟩
/-- ASY_OPEN_CTL (R460). -/
abbrev ASY_OPEN_CTL_LAUNCH : Fld := ⟨0xa00081, 2, 0⟩
/-- ASY_OPEN_ID_LO (R459). -/
abbrev ASY_OPEN_ID : Fld := ⟨0xa000a0, 64, 0⟩
/-- ASY_OPEN_BODY (R459). -/
abbrev ASY_OPEN_BODY : Fld := ⟨0xa000e0, 24, 0⟩
/-- ASY_OPEN_XS_LO (R459). -/
abbrev ASY_OPEN_XS : Fld := ⟨0xa00100, 48, 0⟩
/-- ASY_OPEN_YS_LO (R459). -/
abbrev ASY_OPEN_YS : Fld := ⟨0xa00140, 48, 0⟩
/-- ASY_OPEN_DARN_LO (R459). -/
abbrev ASY_OPEN_DARN : Fld := ⟨0xa00180, 35, 0⟩
/-- ASY_OPEN_DARN_SIZE (R459). -/
abbrev ASY_OPEN_DARN_SIZE : Fld := ⟨0xa001c0, 28, 0⟩
/-- ASY_ARM_TMO (R459). -/
abbrev ASY_ARM_TMO : Fld := ⟨0xa00200, 16, 100⟩
/-- ASY_DARN_RESERVE (R459). -/
abbrev ASY_DARN_RESERVE : Fld := ⟨0xa00220, 28, 65536⟩
/-- ASY_MEND_CTL (R460). -/
abbrev ASY_MEND_CTL_UNCONF : Fld := ⟨0xa00240, 1, 0⟩
/-- ASY_MEND_CTL (R460). -/
abbrev ASY_MEND_CTL_PARENT_SLOT : Fld := ⟨0xa00250, 16, 0⟩
/-- ASY_CUR_ID_LO (R459). -/
abbrev ASY_CUR_ID : Fld := ⟨0xa00280, 64, 0⟩
/-- ASY_CUR_STAT (R460). -/
abbrev ASY_CUR_STAT_STATE : Fld := ⟨0xa002c0, 3, 0⟩
/-- ASY_CUR_STAT (R460). -/
abbrev ASY_CUR_STAT_QUEUED : Fld := ⟨0xa002c3, 3, 0⟩
/-- ASY_CUR_STAT (R460). -/
abbrev ASY_CUR_STAT_RESUMES : Fld := ⟨0xa002d0, 16, 0⟩
/-- ASY_STOP (R460). -/
abbrev ASY_STOP_CAUSE : Fld := ⟨0xa002e0, 4, 0⟩
/-- ASY_STOP (R460). -/
abbrev ASY_STOP_MORE : Fld := ⟨0xa002e4, 1, 0⟩
/-- ASY_STOP (R460). -/
abbrev ASY_STOP_VALID : Fld := ⟨0xa002ff, 1, 0⟩
/-- ASY_RESUME_SHOT_LO (R459). -/
abbrev ASY_RESUME_SHOT : Fld := ⟨0xa00300, 40, 0⟩
/-- ASY_DARN_COUNT_LO (R459). -/
abbrev ASY_DARN_COUNT : Fld := ⟨0xa00340, 64, 0⟩
/-- ASY_SDIG_LO (R459). -/
abbrev ASY_SDIG : Fld := ⟨0xa00380, 64, 0⟩
/-- ASY_HM_BASE_LO (R459). -/
abbrev ASY_HM_BASE : Fld := ⟨0xa00400, 35, 0⟩
/-- ASY_HM_SLOTS (R459). -/
abbrev ASY_HM_SLOTS : Fld := ⟨0xa00440, 16, 256⟩
/-- ASY_HM_SEQ (R459). -/
abbrev ASY_HM_SEQ : Fld := ⟨0xa00460, 32, 0⟩

/-! Fields of 12_koravin_fabric.md -/
/-- KOR_CTL (R509). -/
abbrev KOR_CTL_JOIN : Fld := ⟨0x900000, 1, 0⟩
/-- KOR_STAT (R509). -/
abbrev KOR_STAT_IN_RING : Fld := ⟨0x900020, 1, 0⟩
/-- KOR_STAT (R509). -/
abbrev KOR_STAT_ADMITTED : Fld := ⟨0x900021, 1, 0⟩
/-- KOR_STAT (R509). -/
abbrev KOR_STAT_DUP : Fld := ⟨0x900022, 1, 0⟩
/-- KOR_STAT (R509). -/
abbrev KOR_STAT_POSITION : Fld := ⟨0x900023, 6, 0⟩
/-- KOR_STAT (R509). -/
abbrev KOR_STAT_BROKEN : Fld := ⟨0x900029, 1, 0⟩
/-- KOR_DEV (R509). -/
abbrev KOR_DEV_DEVICE : Fld := ⟨0x900040, 6, 0⟩
/-- KOR_DEV (R509). -/
abbrev KOR_DEV_VALID : Fld := ⟨0x90005f, 1, 0⟩
/-- KOR_ROLE (R508). -/
abbrev KOR_ROLE : Fld := ⟨0x900060, 2, 0⟩
/-- KOR_TOPO_CTL (R509). -/
abbrev KOR_TOPO_CTL_DISCOVER : Fld := ⟨0x900080, 1, 0⟩
/-- KOR_TOPO_STAT (R509). -/
abbrev KOR_TOPO_STAT_COUNT : Fld := ⟨0x9000a0, 7, 0⟩
/-- KOR_TOPO_STAT (R509). -/
abbrev KOR_TOPO_STAT_BROKEN : Fld := ⟨0x9000a7, 1, 0⟩
/-- KOR_TOPO_STAT (R509). -/
abbrev KOR_TOPO_STAT_BREAK : Fld := ⟨0x9000a8, 6, 0⟩
/-- KOR_TOPO_STAT (R509). -/
abbrev KOR_TOPO_STAT_FULL : Fld := ⟨0x9000ae, 1, 0⟩
/-- KOR_TOPO_STAT (R509). -/
abbrev KOR_TOPO_STAT_MASTERS : Fld := ⟨0x9000af, 1, 0⟩
/-- KOR_TOPO_STAT (R509). -/
abbrev KOR_TOPO_STAT_TSEQ : Fld := ⟨0x9000b0, 16, 0⟩
/-- KOR_TOPO[i] (R509). -/
abbrev KOR_TOPO_DEVICE (i : Nat) : Fld := ⟨0x900200 + 32 * i, 6, 0⟩
/-- KOR_TOPO[i] (R509). -/
abbrev KOR_TOPO_ROLE (i : Nat) : Fld := ⟨0x900206 + 32 * i, 2, 0⟩
/-- KOR_TOPO[i] (R509). -/
abbrev KOR_TOPO_RA_UP (i : Nat) : Fld := ⟨0x900208 + 32 * i, 1, 0⟩
/-- KOR_TOPO[i] (R509). -/
abbrev KOR_TOPO_RB_UP (i : Nat) : Fld := ⟨0x900209 + 32 * i, 1, 0⟩
/-- KOR_TOPO[i] (R509). -/
abbrev KOR_TOPO_DUP (i : Nat) : Fld := ⟨0x90020a + 32 * i, 1, 0⟩
/-- KOR_TOPO[i] (R509). -/
abbrev KOR_TOPO_VALID (i : Nat) : Fld := ⟨0x90021f + 32 * i, 1, 0⟩
/-- KOR_LINK_CTL[p] (R509). -/
abbrev KOR_LINK_CTL_FOM_MIN (i : Nat) : Fld := ⟨0x900a00 + 128 * i, 8, 64⟩
/-- KOR_LINK_CTL[p] (R509). -/
abbrev KOR_LINK_CTL_RECOVER (i : Nat) : Fld := ⟨0x900a08 + 128 * i, 1, 0⟩
/-- KOR_LINK_STAT[p] (R509). -/
abbrev KOR_LINK_STAT_STATE (i : Nat) : Fld := ⟨0x900a20 + 128 * i, 2, 0⟩
/-- KOR_LINK_STAT[p] (R509). -/
abbrev KOR_LINK_STAT_FOM (i : Nat) : Fld := ⟨0x900a22 + 128 * i, 8, 0⟩
/-- KOR_LINK_STAT[p] (R509). -/
abbrev KOR_LINK_STAT_UP (i : Nat) : Fld := ⟨0x900a2a + 128 * i, 1, 0⟩
/-- KOR_PDELAY[p] (R508). -/
abbrev KOR_PDELAY (i : Nat) : Fld := ⟨0x900a40 + 128 * i, 32, 0⟩
/-- KOR_ASYM[p] (R508). -/
abbrev KOR_ASYM (i : Nat) : Fld := ⟨0x900a60 + 128 * i, 32, 0⟩
/-- KOR_TX_CTL[p] (R509). -/
abbrev KOR_TX_CTL_PRE (i : Nat) : Fld := ⟨0x900b00 + 32 * i, 5, 0⟩
/-- KOR_TX_CTL[p] (R509). -/
abbrev KOR_TX_CTL_POST (i : Nat) : Fld := ⟨0x900b08 + 32 * i, 5, 0⟩
/-- KOR_TX_CTL[p] (R509). -/
abbrev KOR_TX_CTL_SWING (i : Nat) : Fld := ⟨0x900b10 + 32 * i, 4, 0⟩
/-- KOR_RX_BAD (R508). -/
abbrev KOR_RX_BAD : Fld := ⟨0x900b80, 32, 0⟩
/-- KOR_DUP (R508). -/
abbrev KOR_DUP : Fld := ⟨0x900ba0, 32, 0⟩
/-- KOR_DROP (R508). -/
abbrev KOR_DROP : Fld := ⟨0x900bc0, 32, 0⟩
/-- KOR_UNREACH (R508). -/
abbrev KOR_UNREACH : Fld := ⟨0x900be0, 32, 0⟩
/-- KOR_LAUNCH_CMD (R509). -/
abbrev KOR_LAUNCH_CMD_GO : Fld := ⟨0x901000, 1, 0⟩
/-- KOR_LAUNCH_CMD (R509). -/
abbrev KOR_LAUNCH_CMD_KIND : Fld := ⟨0x901001, 1, 0⟩
/-- KOR_LAUNCH_LAYER (R508). -/
abbrev KOR_LAUNCH_LAYER : Fld := ⟨0x901040, 32, 0⟩
/-- KOR_LAUNCH_MEND (R508). -/
abbrev KOR_LAUNCH_MEND : Fld := ⟨0x901060, 8, 0⟩
/-- KOR_LAUNCH_POS_LO (R508). -/
abbrev KOR_LAUNCH_POS : Fld := ⟨0x901080, 64, 0⟩
/-- KOR_LAUNCH_FR (R508). -/
abbrev KOR_LAUNCH_FR : Fld := ⟨0x9010c0, 16, 0⟩
/-- KOR_LAUNCH_DL_LO (R508). -/
abbrev KOR_LAUNCH_DL : Fld := ⟨0x901100, 64, 0⟩
/-- KOR_LAUNCH_GRP_LO (R508). -/
abbrev KOR_LAUNCH_GRP : Fld := ⟨0x901140, 64, 0⟩
/-- KOR_LAUNCH_STRIPE[j] (R508). -/
abbrev KOR_LAUNCH_STRIPE_E (i : Nat) : Fld := ⟨0x901200 + 32 * i, 16, 0⟩
/-- KOR_LAUNCH_STRIPE[j] (R508). -/
abbrev KOR_LAUNCH_STRIPE_O (i : Nat) : Fld := ⟨0x901210 + 32 * i, 16, 0⟩
/-- KOR_LAUNCH_MIN (R508). -/
abbrev KOR_LAUNCH_MIN : Fld := ⟨0x901600, 16, 100⟩
/-- KOR_LAUNCH_STAT (R509). -/
abbrev KOR_LAUNCH_STAT_RESULT : Fld := ⟨0x901620, 3, 0⟩
/-- KOR_LAUNCH_STAT (R509). -/
abbrev KOR_LAUNCH_STAT_HELD : Fld := ⟨0x901623, 1, 0⟩
/-- KOR_LAUNCH_STAT (R509). -/
abbrev KOR_LAUNCH_STAT_INIT : Fld := ⟨0x901624, 3, 0⟩
/-- KOR_LAUNCH_STAT (R509). -/
abbrev KOR_LAUNCH_STAT_VALID : Fld := ⟨0x90163f, 1, 0⟩
/-- KOR_REP_ACC_LO (R508). -/
abbrev KOR_REP_ACC : Fld := ⟨0x901640, 64, 0⟩
/-- KOR_REP_REF_LO (R508). -/
abbrev KOR_REP_REF : Fld := ⟨0x901680, 64, 0⟩
/-- KOR_HALO_BASE_LO (R508). -/
abbrev KOR_HALO_BASE : Fld := ⟨0x901800, 35, 0⟩
/-- KOR_HALO_SLOTS (R508). -/
abbrev KOR_HALO_SLOTS : Fld := ⟨0x901840, 4, 4⟩
/-- KOR_HALO_TMO (R508). -/
abbrev KOR_HALO_TMO : Fld := ⟨0x901860, 16, 200⟩
/-- KOR_HALO_CMD (R509). -/
abbrev KOR_HALO_CMD_RESEND_YLO : Fld := ⟨0x901880, 1, 0⟩
/-- KOR_HALO_CMD (R509). -/
abbrev KOR_HALO_CMD_RESEND_YHI : Fld := ⟨0x901881, 1, 0⟩
/-- KOR_HALO_STAT (R509). -/
abbrev KOR_HALO_STAT_USED : Fld := ⟨0x9018a0, 4, 0⟩
/-- KOR_HALO_STAT (R509). -/
abbrev KOR_HALO_STAT_BUSY_YLO : Fld := ⟨0x9018a4, 1, 0⟩
/-- KOR_HALO_STAT (R509). -/
abbrev KOR_HALO_STAT_BUSY_YHI : Fld := ⟨0x9018a5, 1, 0⟩
/-- KOR_HALO_STAT (R509). -/
abbrev KOR_HALO_STAT_TX_FAIL_YLO : Fld := ⟨0x9018a6, 1, 0⟩
/-- KOR_HALO_STAT (R509). -/
abbrev KOR_HALO_STAT_TX_FAIL_YHI : Fld := ⟨0x9018a7, 1, 0⟩
/-- KOR_HALO_STAT (R509). -/
abbrev KOR_HALO_STAT_NOSLOT : Fld := ⟨0x9018a8, 1, 0⟩
/-- KOR_HALO_RETX (R508). -/
abbrev KOR_HALO_RETX : Fld := ⟨0x9018c0, 32, 0⟩
/-- KOR_SYNC_CTL (R509). -/
abbrev KOR_SYNC_CTL_OUT : Fld := ⟨0x901900, 2, 0⟩
/-- KOR_SYNC_CTL (R509). -/
abbrev KOR_SYNC_CTL_IN_EN : Fld := ⟨0x901902, 1, 0⟩
/-- TIM_CTL (R512). -/
abbrev TIM_CTL_AUTO : Fld := ⟨0x980000, 1, 1⟩
/-- TIM_CTL (R512). -/
abbrev TIM_CTL_KP : Fld := ⟨0x980001, 4, 1⟩
/-- TIM_CTL (R512). -/
abbrev TIM_CTL_KI : Fld := ⟨0x980005, 5, 6⟩
/-- TIM_CTL (R512). -/
abbrev TIM_CTL_PERIOD : Fld := ⟨0x98000a, 14, 10⟩
/-- TIM_STAT (R512). -/
abbrev TIM_STAT_VALID : Fld := ⟨0x980020, 1, 0⟩
/-- TIM_STAT (R512). -/
abbrev TIM_STAT_LOCKED : Fld := ⟨0x980021, 1, 0⟩
/-- TIM_STAT (R512). -/
abbrev TIM_STAT_HOLDOVER : Fld := ⟨0x980022, 1, 0⟩
/-- TIM_STAT (R512). -/
abbrev TIM_STAT_RING : Fld := ⟨0x980023, 1, 0⟩
/-- TIM_STAT (R512). -/
abbrev TIM_STAT_MASTER : Fld := ⟨0x980024, 1, 0⟩
/-- TIM_INC_LO (R511). -/
abbrev TIM_INC : Fld := ⟨0x980040, 64, 6663706835⟩
/-- TIM_INC_EFF_LO (R511). -/
abbrev TIM_INC_EFF : Fld := ⟨0x980080, 64, 6663706835⟩
/-- TIM_NOW_LO (R511). -/
abbrev TIM_NOW : Fld := ⟨0x980100, 64, 0⟩
/-- TIM_NOW_FR (R511). -/
abbrev TIM_NOW_FR : Fld := ⟨0x980140, 16, 0⟩
/-- TIM_SET_LO (R511). -/
abbrev TIM_SET : Fld := ⟨0x980180, 64, 0⟩
/-- TIM_SET_FR (R511). -/
abbrev TIM_SET_FR : Fld := ⟨0x9801c0, 16, 0⟩
/-- TIM_SET_CTL (R512). -/
abbrev TIM_SET_CTL_NOW : Fld := ⟨0x9801e0, 1, 0⟩
/-- TIM_SET_CTL (R512). -/
abbrev TIM_SET_CTL_AT_SYNC_IN : Fld := ⟨0x9801e1, 1, 0⟩
/-- TIM_ADJ (R511). -/
abbrev TIM_ADJ : Fld := ⟨0x980200, 32, 0⟩
/-- TIM_OFFSET (R511). -/
abbrev TIM_OFFSET : Fld := ⟨0x980280, 32, 0⟩
/-- TIM_OFFSET_MAX (R511). -/
abbrev TIM_OFFSET_MAX : Fld := ⟨0x9802a0, 32, 0⟩
/-- TIM_LOCK_WIN (R511). -/
abbrev TIM_LOCK_WIN : Fld := ⟨0x9802c0, 32, 131072⟩
/-- TIM_STEP_LIM (R511). -/
abbrev TIM_STEP_LIM : Fld := ⟨0x9802e0, 32, 65536000⟩
/-- TIM_SYNCIN_LO (R511). -/
abbrev TIM_SYNCIN : Fld := ⟨0x980300, 64, 0⟩
/-- TIM_SYNCIN_FR (R511). -/
abbrev TIM_SYNCIN_FR : Fld := ⟨0x980340, 16, 0⟩
/-- TIM_SYNCIN_CNT (R511). -/
abbrev TIM_SYNCIN_CNT : Fld := ⟨0x980360, 32, 0⟩
/-- TIM_MARK_PERIOD (R511). -/
abbrev TIM_MARK_PERIOD : Fld := ⟨0x980380, 32, 1000000⟩
/-- TIM_PTP_CTL (R512). -/
abbrev TIM_PTP_CTL_EN : Fld := ⟨0x980400, 1, 0⟩
/-- TIM_PTP_CTL (R512). -/
abbrev TIM_PTP_CTL_UDP : Fld := ⟨0x980401, 1, 0⟩
/-- TIM_PTP_CTL (R512). -/
abbrev TIM_PTP_CTL_P2P : Fld := ⟨0x980402, 1, 0⟩
/-- TIM_PTP_CTL (R512). -/
abbrev TIM_PTP_CTL_DOMAIN : Fld := ⟨0x980408, 8, 0⟩
/-- TIM_PTP_OFS_SEC_LO (R511). -/
abbrev TIM_PTP_OFS_SEC : Fld := ⟨0x980420, 48, 0⟩
/-- TIM_PTP_OFS_NS (R511). -/
abbrev TIM_PTP_OFS_NS : Fld := ⟨0x980460, 30, 0⟩
/-- TIM_PTP_LAT (R511). -/
abbrev TIM_PTP_LAT_RX : Fld := ⟨0x980480, 16, 0⟩
/-- TIM_PTP_LAT (R511). -/
abbrev TIM_PTP_LAT_TX : Fld := ⟨0x980490, 16, 0⟩
/-- TIM_PTP_RX_LO (R511). -/
abbrev TIM_PTP_RX : Fld := ⟨0x980500, 48, 0⟩
/-- TIM_PTP_RX_FR (R511). -/
abbrev TIM_PTP_RX_FR : Fld := ⟨0x980540, 16, 0⟩
/-- TIM_PTP_RX_ID (R512). -/
abbrev TIM_PTP_RX_ID_TYPE : Fld := ⟨0x980560, 4, 0⟩
/-- TIM_PTP_RX_ID (R512). -/
abbrev TIM_PTP_RX_ID_VALID : Fld := ⟨0x980568, 1, 0⟩
/-- TIM_PTP_RX_ID (R512). -/
abbrev TIM_PTP_RX_ID_SEQ_ID : Fld := ⟨0x980570, 16, 0⟩
/-- TIM_PTP_TX_LO (R511). -/
abbrev TIM_PTP_TX : Fld := ⟨0x980580, 48, 0⟩
/-- TIM_PTP_TX_FR (R511). -/
abbrev TIM_PTP_TX_FR : Fld := ⟨0x9805c0, 16, 0⟩
/-- TIM_PTP_TX_ID (R512). -/
abbrev TIM_PTP_TX_ID_TYPE : Fld := ⟨0x9805e0, 4, 0⟩
/-- TIM_PTP_TX_ID (R512). -/
abbrev TIM_PTP_TX_ID_VALID : Fld := ⟨0x9805e8, 1, 0⟩
/-- TIM_PTP_TX_ID (R512). -/
abbrev TIM_PTP_TX_ID_SEQ_ID : Fld := ⟨0x9805f0, 16, 0⟩

/-! Fields of 13_porter_host.md -/
/-- PRT_HL_STAT (R550). -/
abbrev PRT_HL_STAT_WIDTH : Fld := ⟨0x280000, 4, 0⟩
/-- PRT_HL_STAT (R550). -/
abbrev PRT_HL_STAT_SPEED : Fld := ⟨0x280004, 4, 0⟩
/-- PRT_HL_STAT (R550). -/
abbrev PRT_HL_STAT_DL_UP : Fld := ⟨0x280008, 1, 0⟩
/-- PRT_HL_STAT (R550). -/
abbrev PRT_HL_STAT_BME : Fld := ⟨0x280009, 1, 0⟩
/-- PRT_HL_CTO (R549). -/
abbrev PRT_HL_CTO : Fld := ⟨0x280020, 10, 50⟩
/-- PRT_GAL_WIN (R550). -/
abbrev PRT_GAL_WIN_BASE : Fld := ⟨0x280040, 5, 0⟩
/-- PRT_GAL_WIN (R550). -/
abbrev PRT_GAL_WIN_EN : Fld := ⟨0x280048, 1, 0⟩
/-- PRT_GAL_REFUSE (R549). -/
abbrev PRT_GAL_REFUSE : Fld := ⟨0x280060, 32, 0⟩
/-- PRT_IRQ_STAT_LO (R549). -/
abbrev PRT_IRQ_STAT : Fld := ⟨0x280080, 40, 0⟩
/-- PRT_IRQ_EN_LO (R549). -/
abbrev PRT_IRQ_EN : Fld := ⟨0x2800c0, 40, 0⟩
/-- PRT_CH_CTL[n] (R550). -/
abbrev PRT_CH_CTL_EN (i : Nat) : Fld := ⟨0x288000 + 512 * i, 1, 0⟩
/-- PRT_CH_CTL[n] (R550). -/
abbrev PRT_CH_CTL_PRIO (i : Nat) : Fld := ⟨0x288001 + 512 * i, 2, 0⟩
/-- PRT_CH_CTL[n] (R550). -/
abbrev PRT_CH_CTL_EVENT (i : Nat) : Fld := ⟨0x288003 + 512 * i, 2, 0⟩
/-- PRT_CH_HEAD_LO[n] (R549). -/
abbrev PRT_CH_HEAD (i : Nat) : Fld := ⟨0x288020 + 512 * i, 64, 0⟩
/-- PRT_CH_CMD[n] (R550). -/
abbrev PRT_CH_CMD_DOORBELL (i : Nat) : Fld := ⟨0x288060 + 512 * i, 1, 0⟩
/-- PRT_CH_CMD[n] (R550). -/
abbrev PRT_CH_CMD_ABORT (i : Nat) : Fld := ⟨0x288061 + 512 * i, 1, 0⟩
/-- PRT_CH_CMD[n] (R550). -/
abbrev PRT_CH_CMD_RESET (i : Nat) : Fld := ⟨0x288062 + 512 * i, 1, 0⟩
/-- PRT_CH_STAT[n] (R550). -/
abbrev PRT_CH_STAT_STATE (i : Nat) : Fld := ⟨0x288080 + 512 * i, 3, 0⟩
/-- PRT_CH_STAT[n] (R550). -/
abbrev PRT_CH_STAT_DB_PEND (i : Nat) : Fld := ⟨0x288083 + 512 * i, 1, 0⟩
/-- PRT_CH_CUR_LO[n] (R549). -/
abbrev PRT_CH_CUR (i : Nat) : Fld := ⟨0x2880a0 + 512 * i, 64, 0⟩
/-- PRT_CH_DONE[n] (R549). -/
abbrev PRT_CH_DONE (i : Nat) : Fld := ⟨0x2880e0 + 512 * i, 32, 0⟩
/-- PRT_CH_ERR[n] (R550). -/
abbrev PRT_CH_ERR_CODE (i : Nat) : Fld := ⟨0x288100 + 512 * i, 8, 0⟩
/-- PRT_CH_ERR[n] (R550). -/
abbrev PRT_CH_ERR_CAUSE (i : Nat) : Fld := ⟨0x288108 + 512 * i, 4, 0⟩
/-- PRT_CH_ERR[n] (R550). -/
abbrev PRT_CH_ERR_DETAIL (i : Nat) : Fld := ⟨0x28810c + 512 * i, 3, 0⟩
/-- PRT_CH_ERR[n] (R550). -/
abbrev PRT_CH_ERR_VALID (i : Nat) : Fld := ⟨0x28811f + 512 * i, 1, 0⟩
/-- PRT_CH_ERR_ADDR_LO[n] (R549). -/
abbrev PRT_CH_ERR_ADDR (i : Nat) : Fld := ⟨0x288120 + 512 * i, 64, 0⟩
/-- PRT_CH_RESIDUE[n] (R549). -/
abbrev PRT_CH_RESIDUE (i : Nat) : Fld := ⟨0x288160 + 512 * i, 24, 0⟩
/-- PRT_CH_LIMIT[n] (R549). -/
abbrev PRT_CH_LIMIT (i : Nat) : Fld := ⟨0x288180 + 512 * i, 25, 65536⟩
/-- PRT_CH_ERR_DESC_LO[n] (R549). -/
abbrev PRT_CH_ERR_DESC (i : Nat) : Fld := ⟨0x2881a0 + 512 * i, 64, 0⟩
/-- CHK_CTL[u] (R550). -/
abbrev CHK_CTL_WIDTH (i : Nat) : Fld := ⟨0x300000 + 512 * i, 1, 0⟩
/-- CHK_CMD[u] (R550). -/
abbrev CHK_CMD_INIT (i : Nat) : Fld := ⟨0x300020 + 512 * i, 1, 0⟩
/-- CHK_D8[u] (R549). -/
abbrev CHK_D8 (i : Nat) : Fld := ⟨0x300040 + 512 * i, 8, 0⟩
/-- CHK_D16[u] (R549). -/
abbrev CHK_D16 (i : Nat) : Fld := ⟨0x300060 + 512 * i, 16, 0⟩
/-- CHK_D32[u] (R549). -/
abbrev CHK_D32 (i : Nat) : Fld := ⟨0x300080 + 512 * i, 32, 0⟩
/-- CHK_FOLD_LO[u] (R549). -/
abbrev CHK_FOLD (i : Nat) : Fld := ⟨0x3000a0 + 512 * i, 64, 0⟩
/-- CHK_VAL_LO[u] (R549). -/
abbrev CHK_VAL (i : Nat) : Fld := ⟨0x300100 + 512 * i, 64, 4294967295⟩
/-- CHK_RES_LO[u] (R549). -/
abbrev CHK_RES (i : Nat) : Fld := ⟨0x300140 + 512 * i, 64, 0⟩
/-- CHK_COUNT[u] (R549). -/
abbrev CHK_COUNT (i : Nat) : Fld := ⟨0x300180 + 512 * i, 32, 0⟩
/-- MGT_CTL (R550). -/
abbrev MGT_CTL_EN : Fld := ⟨0xc00000, 1, 0⟩
/-- MGT_CTL (R550). -/
abbrev MGT_CTL_MODE : Fld := ⟨0xc00001, 1, 0⟩
/-- MGT_CTL (R550). -/
abbrev MGT_CTL_AN_EN : Fld := ⟨0xc00002, 1, 1⟩
/-- MGT_STAT (R550). -/
abbrev MGT_STAT_LINK : Fld := ⟨0xc00020, 1, 0⟩
/-- MGT_STAT (R550). -/
abbrev MGT_STAT_AN_DONE : Fld := ⟨0xc00021, 1, 0⟩
/-- MGT_STAT (R550). -/
abbrev MGT_STAT_REMOTE_FAULT : Fld := ⟨0xc00022, 1, 0⟩
/-- MGT_RX_DROP (R549). -/
abbrev MGT_RX_DROP : Fld := ⟨0xc00040, 32, 0⟩

/-! Fields of 14_loupe_gauger.md -/
/-- VIS_PORT_CTL[p] (R581). -/
abbrev VIS_PORT_CTL_EN (i : Nat) : Fld := ⟨0x880000 + 2048 * i, 1, 0⟩
/-- VIS_PORT_CTL[p] (R581). -/
abbrev VIS_PORT_CTL_LANES (i : Nat) : Fld := ⟨0x880001 + 2048 * i, 2, 3⟩
/-- VIS_PORT_CTL[p] (R581). -/
abbrev VIS_PORT_CTL_CCI_SPEED (i : Nat) : Fld := ⟨0x880003 + 2048 * i, 2, 0⟩
/-- VIS_PORT_STAT[p] (R581). -/
abbrev VIS_PORT_STAT_LANE_UP (i : Nat) : Fld := ⟨0x880020 + 2048 * i, 4, 0⟩
/-- VIS_PORT_STAT[p] (R581). -/
abbrev VIS_PORT_STAT_CCI_BUSY (i : Nat) : Fld := ⟨0x880024 + 2048 * i, 1, 0⟩
/-- VIS_PORT_UE[p] (R580). -/
abbrev VIS_PORT_UE (i : Nat) : Fld := ⟨0x880040 + 2048 * i, 32, 0⟩
/-- VIS_PORT_OTHER[p] (R580). -/
abbrev VIS_PORT_OTHER (i : Nat) : Fld := ⟨0x880060 + 2048 * i, 32, 0⟩
/-- VIS_DEF_BASE_LO[p] (R580). -/
abbrev VIS_DEF_BASE (i : Nat) : Fld := ⟨0x880080 + 2048 * i, 35, 0⟩
/-- VIS_DEF_N[p] (R580). -/
abbrev VIS_DEF_N (i : Nat) : Fld := ⟨0x8800c0 + 2048 * i, 17, 0⟩
/-- VIS_CTX_CTL[c] (R581). -/
abbrev VIS_CTX_CTL_EN (i : Nat) : Fld := ⟨0x888000 + 2048 * i, 1, 0⟩
/-- VIS_CTX_CTL[c] (R581). -/
abbrev VIS_CTX_CTL_DT (i : Nat) : Fld := ⟨0x888001 + 2048 * i, 2, 0⟩
/-- VIS_CTX_CTL[c] (R581). -/
abbrev VIS_CTX_CTL_STORE (i : Nat) : Fld := ⟨0x888003 + 2048 * i, 1, 0⟩
/-- VIS_CTX_CTL[c] (R581). -/
abbrev VIS_CTX_CTL_DEF_EN (i : Nat) : Fld := ⟨0x888004 + 2048 * i, 1, 0⟩
/-- VIS_CTX_CTL[c] (R581). -/
abbrev VIS_CTX_CTL_LSC_EN (i : Nat) : Fld := ⟨0x888005 + 2048 * i, 1, 0⟩
/-- VIS_CTX_CTL[c] (R581). -/
abbrev VIS_CTX_CTL_LSC_LOG2 (i : Nat) : Fld := ⟨0x888006 + 2048 * i, 3, 0⟩
/-- VIS_CTX_CTL[c] (R581). -/
abbrev VIS_CTX_CTL_MET_EN (i : Nat) : Fld := ⟨0x888009 + 2048 * i, 1, 0⟩
/-- VIS_CTX_CTL[c] (R581). -/
abbrev VIS_CTX_CTL_REG_EN (i : Nat) : Fld := ⟨0x88800a + 2048 * i, 1, 0⟩
/-- VIS_CTX_SIZE[c] (R581). -/
abbrev VIS_CTX_SIZE_WIDTH (i : Nat) : Fld := ⟨0x888020 + 2048 * i, 16, 0⟩
/-- VIS_CTX_SIZE[c] (R581). -/
abbrev VIS_CTX_SIZE_HEIGHT (i : Nat) : Fld := ⟨0x888030 + 2048 * i, 16, 0⟩
/-- VIS_CTX_BLACK[c] (R580). -/
abbrev VIS_CTX_BLACK (i : Nat) : Fld := ⟨0x888040 + 2048 * i, 16, 0⟩
/-- VIS_CTX_LAT[c] (R580). -/
abbrev VIS_CTX_LAT (i : Nat) : Fld := ⟨0x888060 + 2048 * i, 4, 1⟩
/-- VIS_CTX_BASE_LO[c] (R580). -/
abbrev VIS_CTX_BASE (i : Nat) : Fld := ⟨0x888080 + 2048 * i, 35, 0⟩
/-- VIS_CTX_SLOT[c] (R581). -/
abbrev VIS_CTX_SLOT_SLOTS (i : Nat) : Fld := ⟨0x8880c0 + 2048 * i, 8, 0⟩
/-- VIS_CTX_SLOT[c] (R581). -/
abbrev VIS_CTX_SLOT_SIZE (i : Nat) : Fld := ⟨0x8880c8 + 2048 * i, 16, 0⟩
/-- VIS_CTX_STRIDE[c] (R580). -/
abbrev VIS_CTX_STRIDE (i : Nat) : Fld := ⟨0x8880e0 + 2048 * i, 20, 0⟩
/-- VIS_CTX_REL[c] (R580). -/
abbrev VIS_CTX_REL (i : Nat) : Fld := ⟨0x888100 + 2048 * i, 8, 0⟩
/-- VIS_CTX_STAT[c] (R581). -/
abbrev VIS_CTX_STAT_FREE (i : Nat) : Fld := ⟨0x888120 + 2048 * i, 8, 0⟩
/-- VIS_CTX_STAT[c] (R581). -/
abbrev VIS_CTX_STAT_SET_ARMED (i : Nat) : Fld := ⟨0x888128 + 2048 * i, 1, 0⟩
/-- VIS_CTX_STAT[c] (R581). -/
abbrev VIS_CTX_STAT_CCI_NAK (i : Nat) : Fld := ⟨0x888129 + 2048 * i, 1, 0⟩
/-- VIS_CTX_STAT[c] (R581). -/
abbrev VIS_CTX_STAT_ADDR (i : Nat) : Fld := ⟨0x88812a + 2048 * i, 1, 0⟩
/-- VIS_CTX_STAT[c] (R581). -/
abbrev VIS_CTX_STAT_TAG (i : Nat) : Fld := ⟨0x888130 + 2048 * i, 16, 0⟩
/-- VIS_CTX_FRAME[c] (R580). -/
abbrev VIS_CTX_FRAME (i : Nat) : Fld := ⟨0x888140 + 2048 * i, 32, 0⟩
/-- VIS_CTX_MARKED[c] (R580). -/
abbrev VIS_CTX_MARKED (i : Nat) : Fld := ⟨0x888160 + 2048 * i, 32, 0⟩
/-- VIS_CTX_CRC[c] (R580). -/
abbrev VIS_CTX_CRC (i : Nat) : Fld := ⟨0x888180 + 2048 * i, 32, 0⟩
/-- VIS_CTX_ECC[c] (R580). -/
abbrev VIS_CTX_ECC (i : Nat) : Fld := ⟨0x8881a0 + 2048 * i, 32, 0⟩
/-- VIS_CTX_DROP[c] (R580). -/
abbrev VIS_CTX_DROP (i : Nat) : Fld := ⟨0x8881c0 + 2048 * i, 32, 0⟩
/-- VIS_LSC_BASE_LO[c] (R580). -/
abbrev VIS_LSC_BASE (i : Nat) : Fld := ⟨0x888200 + 2048 * i, 35, 0⟩
/-- VIS_MET_BASE_LO[c] (R580). -/
abbrev VIS_MET_BASE (i : Nat) : Fld := ⟨0x888240 + 2048 * i, 35, 0⟩
/-- VIS_REG_BASE_LO[c] (R580). -/
abbrev VIS_REG_BASE (i : Nat) : Fld := ⟨0x888280 + 2048 * i, 35, 0⟩
/-- VIS_SET_CTL[c] (R581). -/
abbrev VIS_SET_CTL_TAG (i : Nat) : Fld := ⟨0x888300 + 2048 * i, 16, 0⟩
/-- VIS_SET_CTL[c] (R581). -/
abbrev VIS_SET_CTL_N (i : Nat) : Fld := ⟨0x888310 + 2048 * i, 5, 0⟩
/-- VIS_SET_ARM[c] (R580). -/
abbrev VIS_SET_ARM_ARM (i : Nat) : Fld := ⟨0x888320 + 2048 * i, 1, 0⟩
/-- VIS_SET_A[c][i] (R581). -/
abbrev VIS_SET_A_DEV (i j : Nat) : Fld := ⟨0x888400 + 2048 * i + 64 * j, 7, 0⟩
/-- VIS_SET_A[c][i] (R581). -/
abbrev VIS_SET_A_ADDR16 (i j : Nat) : Fld := ⟨0x888407 + 2048 * i + 64 * j, 1, 0⟩
/-- VIS_SET_A[c][i] (R581). -/
abbrev VIS_SET_A_DLEN (i j : Nat) : Fld := ⟨0x888408 + 2048 * i + 64 * j, 2, 0⟩
/-- VIS_SET_A[c][i] (R581). -/
abbrev VIS_SET_A_REG (i j : Nat) : Fld := ⟨0x888410 + 2048 * i + 64 * j, 16, 0⟩
/-- VIS_SET_V[c][i] (R580). -/
abbrev VIS_SET_V (i j : Nat) : Fld := ⟨0x888420 + 2048 * i + 64 * j, 32, 0⟩
/-- GAU_RUN_CTL (R584). -/
abbrev GAU_RUN_CTL_KIND : Fld := ⟨0x800000, 3, 0⟩
/-- GAU_RUN_CTL (R584). -/
abbrev GAU_RUN_CTL_CTX : Fld := ⟨0x800003, 3, 0⟩
/-- GAU_RUN_CTL (R584). -/
abbrev GAU_RUN_CTL_BLOCK : Fld := ⟨0x800006, 6, 0⟩
/-- GAU_RUN_CTL (R584). -/
abbrev GAU_RUN_CTL_TRIES : Fld := ⟨0x80000c, 8, 8⟩
/-- GAU_RUN_CMD (R584). -/
abbrev GAU_RUN_CMD_START : Fld := ⟨0x800020, 1, 0⟩
/-- GAU_RUN_CMD (R584). -/
abbrev GAU_RUN_CMD_CANCEL : Fld := ⟨0x800021, 1, 0⟩
/-- GAU_RUN_STAT (R584). -/
abbrev GAU_RUN_STAT_STATE : Fld := ⟨0x800040, 2, 0⟩
/-- GAU_RUN_STAT (R584). -/
abbrev GAU_RUN_STAT_REFUSED : Fld := ⟨0x800042, 1, 0⟩
/-- GAU_RUN_STAT (R584). -/
abbrev GAU_RUN_STAT_FRAMES : Fld := ⟨0x800048, 8, 0⟩
/-- GAU_RUN_STAT (R584). -/
abbrev GAU_RUN_STAT_ACCEPTED : Fld := ⟨0x800050, 13, 0⟩
/-- GAU_RUN_TAG (R583). -/
abbrev GAU_RUN_TAG : Fld := ⟨0x800060, 16, 0⟩
/-- GAU_TOL (R584). -/
abbrev GAU_TOL_GAIN : Fld := ⟨0x800080, 16, 32⟩
/-- GAU_TOL (R584). -/
abbrev GAU_TOL_TRIM : Fld := ⟨0x800090, 16, 4⟩
/-- GAU_GAIN_REF (R583). -/
abbrev GAU_GAIN_REF : Fld := ⟨0x8000a0, 32, 1000000⟩
/-- GAU_PIX_CODE (R583). -/
abbrev GAU_PIX_CODE : Fld := ⟨0x8000c0, 24, 0⟩
/-- GAU_PIX_PU (R583). -/
abbrev GAU_PIX_PU : Fld := ⟨0x8000e0, 32, 0⟩
/-- GAU_SENS_DELTA (R583). -/
abbrev GAU_SENS_DELTA : Fld := ⟨0x800100, 32, 65536⟩
/-- GAU_SETTLE (R583). -/
abbrev GAU_SETTLE : Fld := ⟨0x800120, 8, 2⟩
/-- GAU_TGT_BASE_LO (R583). -/
abbrev GAU_TGT_BASE : Fld := ⟨0x800180, 35, 0⟩
/-- GAU_GAIN_CTL (R583). -/
abbrev GAU_GAIN_CTL : Fld := ⟨0x8001c0, 7, 1⟩
/-- GAU_GAIN_CMD (R584). -/
abbrev GAU_GAIN_CMD_STAGE : Fld := ⟨0x8001e0, 1, 0⟩
/-- GAU_GAIN_CMD (R584). -/
abbrev GAU_GAIN_CMD_UNSTAGE : Fld := ⟨0x8001e1, 1, 0⟩
/-- GAU_GAIN_STAT (R584). -/
abbrev GAU_GAIN_STAT_STEP : Fld := ⟨0x800200, 7, 0⟩
/-- GAU_GAIN_STAT (R584). -/
abbrev GAU_GAIN_STAT_STAGED : Fld := ⟨0x800207, 1, 0⟩
/-- GAU_GAIN_STAT (R584). -/
abbrev GAU_GAIN_STAT_K : Fld := ⟨0x800208, 7, 0⟩
/-- GAU_GAIN_STAT (R584). -/
abbrev GAU_GAIN_STAT_ADDR : Fld := ⟨0x80020f, 1, 0⟩
/-- GAU_GAIN_STAT (R584). -/
abbrev GAU_GAIN_STAT_POISON : Fld := ⟨0x800210, 1, 0⟩
/-- GAU_STALE_LO (R583). -/
abbrev GAU_STALE : Fld := ⟨0x800240, 64, 0⟩
/-- GAU_TRIM_TGT[t] (R583). -/
abbrev GAU_TRIM_TGT (i : Nat) : Fld := ⟨0x800280 + 32 * i, 32, 0⟩
/-- GAU_TRIM_CTL (R584). -/
abbrev GAU_TRIM_CTL_INTERVAL : Fld := ⟨0x800300, 16, 1000⟩
/-- GAU_TRIM_CTL (R584). -/
abbrev GAU_TRIM_CTL_EN : Fld := ⟨0x800310, 4, 0⟩
/-- GAU_TRIM_STAT (R584). -/
abbrev GAU_TRIM_STAT_STALE : Fld := ⟨0x800320, 4, 0⟩
/-- GAU_TRIM_STAT (R584). -/
abbrev GAU_TRIM_STAT_STEPPING : Fld := ⟨0x800324, 4, 0⟩
/-- GAU_RANGE (R583). -/
abbrev GAU_RANGE : Fld := ⟨0x800340, 32, 0⟩
/-- GAU_DISAGREE (R583). -/
abbrev GAU_DISAGREE : Fld := ⟨0x800360, 32, 0⟩

/-! Fields of 15_watch_daybook_ledger.md -/
/-- WCH_ESC_T (R624). -/
abbrev WCH_ESC_T : Fld := ⟨0x100000, 24, 10000⟩
/-- WCH_ACK (R624). -/
abbrev WCH_ACK : Fld := ⟨0x100020, 7, 0⟩
/-- WCH_FAULTN (R625). -/
abbrev WCH_FAULTN_RELEASE : Fld := ⟨0x100040, 1, 0⟩
/-- WCH_FAULTN (R625). -/
abbrev WCH_FAULTN_DRIVEN : Fld := ⟨0x100041, 1, 0⟩
/-- WCH_FAULTN (R625). -/
abbrev WCH_FAULTN_PIN : Fld := ⟨0x100042, 1, 0⟩
/-- WCH_FAULTN (R625). -/
abbrev WCH_FAULTN_REL_PEND : Fld := ⟨0x100043, 1, 0⟩
/-- WCH_FAULTN (R625). -/
abbrev WCH_FAULTN_REL_REFUSED : Fld := ⟨0x100044, 1, 0⟩
/-- WCH_LOST (R624). -/
abbrev WCH_LOST : Fld := ⟨0x100060, 32, 0⟩
/-- WCH_SEVERE[i] (R624). -/
abbrev WCH_SEVERE (i : Nat) : Fld := ⟨0x100080 + 32 * i, 32, 0⟩
/-- WCH_FIRST[i] (R624). -/
abbrev WCH_FIRST (i : Nat) : Fld := ⟨0x100100 + 32 * i, 32, 0⟩
/-- WCH_FIRST_STAT (R625). -/
abbrev WCH_FIRST_STAT_VALID : Fld := ⟨0x100180, 1, 0⟩
/-- WCH_RST_CAUSE[i] (R624). -/
abbrev WCH_RST_CAUSE (i : Nat) : Fld := ⟨0x100200 + 32 * i, 32, 0⟩
/-- WCH_RST_STAT (R625). -/
abbrev WCH_RST_STAT_VALID : Fld := ⟨0x100280, 1, 0⟩
/-- WCH_SRC_CTL[s] (R625). -/
abbrev WCH_SRC_CTL_N (i : Nat) : Fld := ⟨0x108000 + 256 * i, 8, srcN i⟩
/-- WCH_SRC_CTL[s] (R625). -/
abbrev WCH_SRC_CTL_REACT (i : Nat) : Fld := ⟨0x108008 + 256 * i, 3, srcReact i⟩
/-- WCH_SRC_CTL[s] (R625). -/
abbrev WCH_SRC_CTL_ESC (i : Nat) : Fld := ⟨0x10800c + 256 * i, 3, 0⟩
/-- WCH_SRC_CTL[s] (R625). -/
abbrev WCH_SRC_CTL_RING (i : Nat) : Fld := ⟨0x10800f + 256 * i, 1, 0⟩
/-- WCH_SRC_WIN[s] (R624). -/
abbrev WCH_SRC_WIN (i : Nat) : Fld := ⟨0x108020 + 256 * i, 30, srcW i⟩
/-- WCH_SRC_STAT[s] (R625). -/
abbrev WCH_SRC_STAT_SEVERE (i : Nat) : Fld := ⟨0x108040 + 256 * i, 1, 0⟩
/-- WCH_SRC_STAT[s] (R625). -/
abbrev WCH_SRC_STAT_ESCALATED (i : Nat) : Fld := ⟨0x108041 + 256 * i, 1, 0⟩
/-- WCH_SRC_STAT[s] (R625). -/
abbrev WCH_SRC_STAT_TIMER (i : Nat) : Fld := ⟨0x108042 + 256 * i, 1, 0⟩
/-- WCH_SRC_STAT[s] (R625). -/
abbrev WCH_SRC_STAT_CAUSE (i : Nat) : Fld := ⟨0x108043 + 256 * i, 1, 0⟩
/-- WCH_SRC_STAT[s] (R625). -/
abbrev WCH_SRC_STAT_CAUSE_GONE (i : Nat) : Fld := ⟨0x108044 + 256 * i, 1, 0⟩
/-- WCH_SRC_STAT[s] (R625). -/
abbrev WCH_SRC_STAT_CLEAR_REFUSED (i : Nat) : Fld := ⟨0x108045 + 256 * i, 1, 0⟩
/-- WCH_SRC_STAT[s] (R625). -/
abbrev WCH_SRC_STAT_LEVEL (i : Nat) : Fld := ⟨0x108046 + 256 * i, 1, 0⟩
/-- WCH_SRC_STAT[s] (R625). -/
abbrev WCH_SRC_STAT_OVF (i : Nat) : Fld := ⟨0x108047 + 256 * i, 1, 0⟩
/-- WCH_SRC_STAT[s] (R625). -/
abbrev WCH_SRC_STAT_WCOUNT (i : Nat) : Fld := ⟨0x108048 + 256 * i, 8, 0⟩
/-- WCH_SRC_CNT[s] (R624). -/
abbrev WCH_SRC_CNT (i : Nat) : Fld := ⟨0x108060 + 256 * i, 32, 0⟩
/-- WCH_SRC_MSG[s][i] (R624). -/
abbrev WCH_SRC_MSG (i j : Nat) : Fld := ⟨0x108080 + 256 * i + 32 * j, 32, 0⟩
/-- DBK_SEQ (R627). -/
abbrev DBK_SEQ : Fld := ⟨0x180000, 32, 0⟩
/-- DBK_RATE (R628). -/
abbrev DBK_RATE_N : Fld := ⟨0x180040, 8, 16⟩
/-- DBK_RATE (R628). -/
abbrev DBK_RATE_W : Fld := ⟨0x180048, 24, 1000⟩
/-- DBK_SUPP (R627). -/
abbrev DBK_SUPP : Fld := ⟨0x180060, 32, 0⟩
/-- DBK_WR_CODE[j] (R628). -/
abbrev DBK_WR_CODE_CODE (i : Nat) : Fld := ⟨0x180800 + 256 * i, 16, 32768⟩
/-- DBK_WR_ARG[j][i] (R627). -/
abbrev DBK_WR_ARG (i j : Nat) : Fld := ⟨0x180820 + 256 * i + 32 * j, 32, 0⟩
/-- DBK_WR_GO[j] (R628). -/
abbrev DBK_WR_GO_GO (i : Nat) : Fld := ⟨0x180880 + 256 * i, 1, 0⟩
/-- LGR_CTL (R628). -/
abbrev LGR_CTL_TC_LOW : Fld := ⟨0x200000, 8, 25⟩
/-- LGR_CTL (R628). -/
abbrev LGR_CTL_TC_HIGH : Fld := ⟨0x200008, 8, 85⟩
/-- LGR_STAT (R628). -/
abbrev LGR_STAT_CAL_VALID : Fld := ⟨0x200020, 1, 0⟩
/-- LGR_STAT (R628). -/
abbrev LGR_STAT_BUSY : Fld := ⟨0x200021, 1, 0⟩
/-- LGR_STAT (R628). -/
abbrev LGR_STAT_PENDING : Fld := ⟨0x200022, 1, 0⟩
/-- LGR_STAT (R628). -/
abbrev LGR_STAT_BAD : Fld := ⟨0x200023, 11, 0⟩
/-- LGR_CMD (R628). -/
abbrev LGR_CMD_WRITE : Fld := ⟨0x200040, 1, 0⟩
/-- LGR_CMD (R628). -/
abbrev LGR_CMD_CAL_SET : Fld := ⟨0x200041, 1, 0⟩
/-- LGR_CAL_LO (R627). -/
abbrev LGR_CAL : Fld := ⟨0x200080, 64, 0⟩
/-- LGR_CAL_SET_LO (R627). -/
abbrev LGR_CAL_SET : Fld := ⟨0x2000c0, 64, 0⟩
/-- LGR_WORK[w] (R627). -/
abbrev LGR_WORK (i : Nat) : Fld := ⟨0x240000 + 32 * i, 32, 0⟩

/-! Fields of 16_forme_security_power.md -/
/-- TOP_ID (R672). -/
abbrev TOP_ID_PART : Fld := ⟨0x0, 16, 1298⟩
/-- TOP_ID (R672). -/
abbrev TOP_ID_REV : Fld := ⟨0x10, 16, 1⟩
/-- TOP_SERIAL_LO (R672). -/
abbrev TOP_SERIAL : Fld := ⟨0x40, 64, 0⟩
/-- PWR_STATE_REQ (R672). -/
abbrev PWR_STATE_REQ : Fld := ⟨0x80000, 2, 0⟩
/-- PWR_STATE_STAT (R673). -/
abbrev PWR_STATE_STAT_STATE : Fld := ⟨0x80020, 2, 0⟩
/-- PWR_STATE_STAT (R673). -/
abbrev PWR_STATE_STAT_TRANS : Fld := ⟨0x80022, 1, 0⟩
/-- PWR_STATE_STAT (R673). -/
abbrev PWR_STATE_STAT_REFUSED : Fld := ⟨0x80023, 1, 0⟩
/-- PWR_STATE_STAT (R673). -/
abbrev PWR_STATE_STAT_NO_FORME : Fld := ⟨0x80024, 1, 0⟩
/-- PWR_DOM_REQ (R672). -/
abbrev PWR_DOM_REQ : Fld := ⟨0x80040, 2, 0⟩
/-- PWR_DOM_STAT (R673). -/
abbrev PWR_DOM_STAT_ON : Fld := ⟨0x80060, 12, 0⟩
/-- PWR_DOM_STAT (R673). -/
abbrev PWR_DOM_STAT_RST : Fld := ⟨0x8006c, 12, 0⟩
/-- PWR_BUDGET (R672). -/
abbrev PWR_BUDGET : Fld := ⟨0x80080, 12, 2000⟩
/-- PWR_SEQ_STAT (R673). -/
abbrev PWR_SEQ_STAT_QUEUED : Fld := ⟨0x800a0, 12, 0⟩
/-- PWR_SEQ_STAT (R673). -/
abbrev PWR_SEQ_STAT_NWIN : Fld := ⟨0x800ac, 5, 5⟩
/-- PWR_SEQ_STAT (R673). -/
abbrev PWR_SEQ_STAT_BURST : Fld := ⟨0x800b1, 1, 0⟩
/-- PWR_LAT_MAX (R672). -/
abbrev PWR_LAT_MAX : Fld := ⟨0x800c0, 32, 0⟩
/-- PWR_RST_CAUSE (R672). -/
abbrev PWR_RST_CAUSE : Fld := ⟨0x800e0, 3, 0⟩
/-- SEC_LIFE (R672). -/
abbrev SEC_LIFE : Fld := ⟨0xb00000, 2, 0⟩
/-- SEC_CMD (R673). -/
abbrev SEC_CMD_OP : Fld := ⟨0xb00020, 4, 0⟩
/-- SEC_CMD (R673). -/
abbrev SEC_CMD_SLOT : Fld := ⟨0xb00028, 5, 0⟩
/-- SEC_STAT (R673). -/
abbrev SEC_STAT_OP : Fld := ⟨0xb00040, 4, 0⟩
/-- SEC_STAT (R673). -/
abbrev SEC_STAT_RESULT : Fld := ⟨0xb00044, 4, 0⟩
/-- SEC_STAT (R673). -/
abbrev SEC_STAT_VALID : Fld := ⟨0xb0005f, 1, 0⟩
/-- SEC_SLOTS (R672). -/
abbrev SEC_SLOTS : Fld := ⟨0xb00060, 24, 0⟩
/-- SEC_ALARM (R672). -/
abbrev SEC_ALARM : Fld := ⟨0xb00080, 6, 0⟩
/-- SEC_AUTHFAIL (R672). -/
abbrev SEC_AUTHFAIL : Fld := ⟨0xb000a0, 8, 0⟩
/-- SEC_FORME_ADDR_LO (R672). -/
abbrev SEC_FORME_ADDR : Fld := ⟨0xb00100, 35, 0⟩
/-- SEC_FORME_LEN (R672). -/
abbrev SEC_FORME_LEN : Fld := ⟨0xb00140, 32, 0⟩
/-- SEC_FORME_CMD (R673). -/
abbrev SEC_FORME_CMD_LOAD : Fld := ⟨0xb00160, 1, 0⟩
/-- SEC_FORME_CMD (R673). -/
abbrev SEC_FORME_CMD_PERSIST : Fld := ⟨0xb00161, 1, 0⟩
/-- SEC_FORME_STAT (R673). -/
abbrev SEC_FORME_STAT_RESULT : Fld := ⟨0xb00180, 4, 0⟩
/-- SEC_FORME_STAT (R673). -/
abbrev SEC_FORME_STAT_BUSY : Fld := ⟨0xb00184, 1, 0⟩
/-- SEC_FORME_STAT (R673). -/
abbrev SEC_FORME_STAT_PERSIST_BUSY : Fld := ⟨0xb00185, 1, 0⟩
/-- SEC_FORME_STAT (R673). -/
abbrev SEC_FORME_STAT_FLASH_SLOT : Fld := ⟨0xb00186, 1, 0⟩
/-- SEC_FORME_STAT (R673). -/
abbrev SEC_FORME_STAT_SECTION : Fld := ⟨0xb00188, 3, 0⟩
/-- SEC_FORME_STAT (R673). -/
abbrev SEC_FORME_STAT_VALID : Fld := ⟨0xb0019f, 1, 0⟩
/-- SEC_FORME_OFS (R672). -/
abbrev SEC_FORME_OFS : Fld := ⟨0xb001a0, 32, 0⟩
/-- SEC_FORME_VER (R672). -/
abbrev SEC_FORME_VER : Fld := ⟨0xb001c0, 32, 0⟩
/-- SEC_ROLLBACK (R672). -/
abbrev SEC_ROLLBACK : Fld := ⟨0xb001e0, 8, 0⟩
/-- SEC_FORME_HASH[i], i = 0..11 (R672). -/
abbrev SEC_FORME_HASH (i : Nat) : Fld := ⟨0xb00200 + 32 * i, 32, 0⟩
/-- SEC_BLOB[i], i = 0..63 (R672). -/
abbrev SEC_BLOB (i : Nat) : Fld := ⟨0xb00800 + 32 * i, 32, 0⟩
/-- SEC_PUB[i], i = 0..23 (R672). -/
abbrev SEC_PUB (i : Nat) : Fld := ⟨0xb01000 + 32 * i, 32, 0⟩
/-- SEC_SIG[i], i = 0..23 (R672). -/
abbrev SEC_SIG (i : Nat) : Fld := ⟨0xb01300 + 32 * i, 32, 0⟩
/-- SEC_DBG_NONCE[i], i = 0..7 (R672). -/
abbrev SEC_DBG_NONCE (i : Nat) : Fld := ⟨0xb01800 + 32 * i, 32, 0⟩
/-- SEC_DBG_CTL (R673). -/
abbrev SEC_DBG_CTL_UNLOCK : Fld := ⟨0xb01900, 1, 0⟩
/-- SEC_DBG_CTL (R673). -/
abbrev SEC_DBG_CTL_LOCK : Fld := ⟨0xb01901, 1, 0⟩
/-- SEC_DBG_STAT (R673). -/
abbrev SEC_DBG_STAT_OPEN : Fld := ⟨0xb01920, 1, 0⟩
/-- SEC_DBG_STAT (R673). -/
abbrev SEC_DBG_STAT_SCOPE : Fld := ⟨0xb01921, 3, 0⟩
/-- SEC_DBG_STAT (R673). -/
abbrev SEC_DBG_STAT_RESULT : Fld := ⟨0xb01924, 4, 0⟩
/-- SEC_DBG_STAT (R673). -/
abbrev SEC_DBG_STAT_VALID : Fld := ⟨0xb0193f, 1, 0⟩
/-- SEC_TOKEN[i], i = 0..63 (R672). -/
abbrev SEC_TOKEN (i : Nat) : Fld := ⟨0xb02000 + 32 * i, 32, 0⟩
/-- JRN_STAT[j], j = 0..7 (R673). -/
abbrev JRN_STAT_STATE (i : Nat) : Fld := ⟨0xc80000 + 256 * i, 2, 0⟩
/-- JRN_STAT[j], j = 0..7 (R673). -/
abbrev JRN_STAT_TRAP (i : Nat) : Fld := ⟨0xc80008 + 256 * i, 8, 0⟩
/-- JRN_WDOG[j] (R672). -/
abbrev JRN_WDOG (i : Nat) : Fld := ⟨0xc80020 + 256 * i, 24, 0⟩
/-- JRN_KICK[j] (R672). -/
abbrev JRN_KICK (i : Nat) : Fld := ⟨0xc80040 + 256 * i, 1, 0⟩
/-- JRN_MB_POST[j] (R672). -/
abbrev JRN_MB_POST (i : Nat) : Fld := ⟨0xc80060 + 256 * i, 1, 0⟩
/-- JRN_MB_OUT[j][i], i = 0..7 (R672). -/
abbrev JRN_MB_OUT (i j : Nat) : Fld := ⟨0xc80800 + 512 * i + 32 * j, 32, 0⟩
/-- JRN_MB_IN[j][i], i = 0..7 (R672). -/
abbrev JRN_MB_IN (i j : Nat) : Fld := ⟨0xc80900 + 512 * i + 32 * j, 32, 0⟩

/-! Fields of 18_register_index.md -/
/-- TOP_REG_ERR (R710). -/
abbrev TOP_REG_ERR_KIND : Fld := ⟨0x1000, 3, 0⟩
/-- TOP_REG_ERR (R710). -/
abbrev TOP_REG_ERR_WRITE : Fld := ⟨0x1003, 1, 0⟩
/-- TOP_REG_ERR (R710). -/
abbrev TOP_REG_ERR_MASTER : Fld := ⟨0x1004, 4, 0⟩
/-- TOP_REG_ERR (R710). -/
abbrev TOP_REG_ERR_VALID : Fld := ⟨0x101f, 1, 0⟩
/-- TOP_REG_ERR_ADDR (R709). -/
abbrev TOP_REG_ERR_ADDR : Fld := ⟨0x1020, 26, 0⟩
/-- TOP_REG_ERR_CNT (R709). -/
abbrev TOP_REG_ERR_CNT : Fld := ⟨0x1040, 32, 0⟩

end Sys2Proof.Machine.F

namespace Sys2Proof.Machine

/-- Words of block ESC. -/
def rowsESC0 : List RegRow := [
  ⟨0xe0000, 0, 1, 0, 1, [⟨0, 3, .ro, fun _ _ => F.ESC_GEOM_M_LOG2, 0, false⟩, ⟨4, 2, .ro, fun _ _ => F.ESC_GEOM_P_LOG2, 0, false⟩, ⟨8, 1, .ro, fun _ _ => F.ESC_GEOM_LEAD_MODE, 0, false⟩]⟩,
  ⟨0xe0004, 0, 1, 0, 1, [⟨0, 17, .ro, fun _ _ => F.ESC_PITCH, 0, false⟩]⟩,
  ⟨0xe0008, 0, 1, 0, 1, [⟨0, 26, .ro, fun _ _ => F.ESC_SHOT_PITCH, 0, false⟩]⟩,
  ⟨0xe0010, 0, 1, 0, 1, [⟨0, 1, .ro, fun _ _ => F.ESC_CUR_CTL_DIR, 0, false⟩, ⟨1, 1, .ro, fun _ _ => F.ESC_CUR_CTL_OPEN, 0, false⟩]⟩,
  ⟨0xe0014, 0, 1, 0, 1, [⟨0, 24, .ro, fun _ _ => F.ESC_CUR_BODY, 0, false⟩]⟩,
  ⟨0xe0018, 0, 1, 0, 1, [⟨0, 25, .ro, fun _ _ => F.ESC_CUR_CYCLES, 0, false⟩]⟩,
  ⟨0xe0020, 0, 1, 0, 1, [⟨0, 32, .ro, fun _ _ => F.ESC_CUR_XS, 0, false⟩]⟩,
  ⟨0xe0024, 0, 1, 0, 1, [⟨0, 16, .ro, fun _ _ => F.ESC_CUR_XS, 32, false⟩, ⟨16, 16, .ro, fun _ _ => F.ESC_CUR_XS, 47, true⟩]⟩,
  ⟨0xe0028, 0, 1, 0, 1, [⟨0, 32, .ro, fun _ _ => F.ESC_CUR_YS, 0, false⟩]⟩,
  ⟨0xe002c, 0, 1, 0, 1, [⟨0, 16, .ro, fun _ _ => F.ESC_CUR_YS, 32, false⟩, ⟨16, 16, .ro, fun _ _ => F.ESC_CUR_YS, 47, true⟩]⟩,
  ⟨0xe0030, 0, 1, 0, 1, [⟨0, 32, .ro, fun _ _ => F.ESC_CUR_X0, 0, false⟩]⟩,
  ⟨0xe0034, 0, 1, 0, 1, [⟨0, 16, .ro, fun _ _ => F.ESC_CUR_X0, 32, false⟩, ⟨16, 16, .ro, fun _ _ => F.ESC_CUR_X0, 47, true⟩]⟩,
  ⟨0xe0100, 32, 3, 0, 1, [⟨0, 2, .rw, fun i _ => F.ESC_POS_CTL_ROLE i, 0, false⟩, ⟨2, 1, .rw, fun i _ => F.ESC_POS_CTL_QUAD i, 0, false⟩, ⟨3, 1, .rw, fun i _ => F.ESC_POS_CTL_AUX_CHECK i, 0, false⟩, ⟨4, 1, .rw, fun i _ => F.ESC_POS_CTL_IDX_HOME i, 0, false⟩, ⟨8, 8, .rw, fun i _ => F.ESC_POS_CTL_LINK_ID i, 0, false⟩, ⟨16, 8, .rw, fun i _ => F.ESC_POS_CTL_PERIOD i, 0, false⟩]⟩,
  ⟨0xe0104, 32, 3, 0, 1, [⟨0, 2, .ro, fun i _ => F.ESC_POS_STAT_STATE i, 0, false⟩, ⟨2, 1, .ro, fun i _ => F.ESC_POS_STAT_FROZEN i, 0, false⟩, ⟨3, 1, .ro, fun i _ => F.ESC_POS_STAT_HOMED i, 0, false⟩, ⟨8, 8, .ro, fun i _ => F.ESC_POS_STAT_SEQ i, 0, false⟩]⟩,
  ⟨0xe0108, 32, 3, 0, 1, [⟨0, 32, .rc, fun i _ => F.ESC_POS_BAD i, 0, false⟩]⟩,
  ⟨0xe010c, 32, 3, 0, 1, [⟨0, 32, .rc, fun i _ => F.ESC_POS_MISS i, 0, false⟩]⟩,
  ⟨0xe0110, 32, 3, 0, 1, [⟨0, 32, .rw, fun i _ => F.ESC_Q_SCALE i, 0, false⟩]⟩,
  ⟨0xe0114, 32, 3, 0, 1, [⟨0, 32, .ro, fun i _ => F.ESC_POS_VAL i, 0, false⟩]⟩,
  ⟨0xe0118, 32, 3, 0, 1, [⟨0, 16, .ro, fun i _ => F.ESC_POS_VAL i, 32, false⟩, ⟨16, 16, .ro, fun i _ => F.ESC_POS_VAL i, 47, true⟩]⟩,
  ⟨0xe0200, 0, 1, 0, 1, [⟨0, 3, .rw, fun _ _ => F.ESC_TRK_CTL_BW, 0, false⟩]⟩,
  ⟨0xe0204, 0, 1, 0, 1, [⟨0, 8, .rw, fun _ _ => F.ESC_FIX, 0, false⟩]⟩,
  ⟨0xe0208, 0, 1, 0, 1, [⟨0, 16, .rw, fun _ _ => F.ESC_SLIP_MAX, 0, false⟩]⟩,
  ⟨0xe0210, 0, 1, 0, 1, [⟨0, 32, .ro, fun _ _ => F.ESC_SHOT, 0, false⟩]⟩,
  ⟨0xe0214, 0, 1, 0, 1, [⟨0, 8, .ro, fun _ _ => F.ESC_SHOT, 32, false⟩]⟩]

/-- Words of block ESC. -/
def rowsESC1 : List RegRow := [
  ⟨0xe0218, 0, 1, 0, 1, [⟨0, 32, .ro, fun _ _ => F.ESC_TN, 0, false⟩]⟩,
  ⟨0xe021c, 0, 1, 0, 1, [⟨0, 32, .ro, fun _ _ => F.ESC_TN, 32, false⟩]⟩,
  ⟨0xe0220, 0, 1, 0, 1, [⟨0, 16, .ro, fun _ _ => F.ESC_TN_FR, 0, false⟩]⟩,
  ⟨0xe0224, 0, 1, 0, 1, [⟨0, 32, .rc, fun _ _ => F.ESC_INTV_MIN, 0, false⟩]⟩,
  ⟨0xe0228, 0, 1, 0, 1, [⟨0, 16, .rc, fun _ _ => F.ESC_SLIP_PEAK, 0, false⟩]⟩,
  ⟨0xe022c, 0, 1, 0, 1, [⟨0, 1, .w1c, fun _ _ => F.ESC_STAT_POSLOSS, 0, false⟩, ⟨1, 1, .w1c, fun _ _ => F.ESC_STAT_FROZEN, 0, false⟩, ⟨2, 1, .w1c, fun _ _ => F.ESC_STAT_OVERSPEED, 0, false⟩, ⟨3, 1, .ro, fun _ _ => F.ESC_STAT_TIME_LAUNCH, 0, false⟩, ⟨4, 2, .ro, fun _ _ => F.ESC_STAT_PORT, 0, false⟩]⟩,
  ⟨0xe0230, 0, 1, 0, 1, [⟨0, 32, .ro, fun _ _ => F.ESC_STOP_SHOT, 0, false⟩]⟩,
  ⟨0xe0234, 0, 1, 0, 1, [⟨0, 8, .ro, fun _ _ => F.ESC_STOP_SHOT, 32, false⟩]⟩]

/-- Words of block PRT. -/
def rowsPRT0 : List RegRow := [
  ⟨0x50800, 0, 1, 0, 1, [⟨0, 1, .rw, fun _ _ => F.PRT_ING_CTL_ENABLE, 0, false⟩, ⟨1, 4, .rw, fun _ _ => F.PRT_ING_CTL_RETRY, 0, false⟩]⟩,
  ⟨0x50804, 0, 1, 0, 1, [⟨0, 32, .rw, fun _ _ => F.PRT_ING_BUILD, 0, false⟩]⟩,
  ⟨0x50808, 0, 1, 0, 1, [⟨0, 32, .rw, fun _ _ => F.PRT_ING_BUILD, 32, false⟩]⟩,
  ⟨0x50810, 0, 1, 0, 1, [⟨0, 32, .rc, fun _ _ => F.PRT_ING_ACCEPT, 0, false⟩]⟩,
  ⟨0x50814, 0, 1, 0, 1, [⟨0, 32, .rc, fun _ _ => F.PRT_ING_REFETCH, 0, false⟩]⟩,
  ⟨0x50818, 0, 1, 0, 1, [⟨0, 32, .rc, fun _ _ => F.PRT_ING_REJECT, 0, false⟩]⟩,
  ⟨0x50820, 0, 1, 0, 1, [⟨0, 4, .ro, fun _ _ => F.PRT_ING_ERR_CAUSE, 0, false⟩, ⟨4, 4, .ro, fun _ _ => F.PRT_ING_ERR_KEY_SLOT, 0, false⟩, ⟨8, 5, .ro, fun _ _ => F.PRT_ING_ERR_TRIES, 0, false⟩, ⟨16, 15, .ro, fun _ _ => F.PRT_ING_ERR_CHANNEL, 0, false⟩, ⟨31, 1, .w1c, fun _ _ => F.PRT_ING_ERR_VALID, 0, false⟩]⟩,
  ⟨0x50824, 0, 1, 0, 1, [⟨0, 32, .ro, fun _ _ => F.PRT_ING_ERR_SEQ, 0, false⟩]⟩,
  ⟨0x50828, 0, 1, 0, 1, [⟨0, 32, .ro, fun _ _ => F.PRT_ING_ERR_SEQ, 32, false⟩]⟩,
  ⟨0x50000, 0, 1, 0, 1, [⟨0, 4, .ro, fun _ _ => F.PRT_HL_STAT_WIDTH, 0, false⟩, ⟨4, 4, .ro, fun _ _ => F.PRT_HL_STAT_SPEED, 0, false⟩, ⟨8, 1, .ro, fun _ _ => F.PRT_HL_STAT_DL_UP, 0, false⟩, ⟨9, 1, .ro, fun _ _ => F.PRT_HL_STAT_BME, 0, false⟩]⟩,
  ⟨0x50004, 0, 1, 0, 1, [⟨0, 10, .rw, fun _ _ => F.PRT_HL_CTO, 0, false⟩]⟩,
  ⟨0x50008, 0, 1, 0, 1, [⟨0, 5, .rw, fun _ _ => F.PRT_GAL_WIN_BASE, 0, false⟩, ⟨8, 1, .rw, fun _ _ => F.PRT_GAL_WIN_EN, 0, false⟩]⟩,
  ⟨0x5000c, 0, 1, 0, 1, [⟨0, 32, .rc, fun _ _ => F.PRT_GAL_REFUSE, 0, false⟩]⟩,
  ⟨0x50010, 0, 1, 0, 1, [⟨0, 32, .w1c, fun _ _ => F.PRT_IRQ_STAT, 0, false⟩]⟩,
  ⟨0x50014, 0, 1, 0, 1, [⟨0, 8, .w1c, fun _ _ => F.PRT_IRQ_STAT, 32, false⟩]⟩,
  ⟨0x50018, 0, 1, 0, 1, [⟨0, 32, .rw, fun _ _ => F.PRT_IRQ_EN, 0, false⟩]⟩,
  ⟨0x5001c, 0, 1, 0, 1, [⟨0, 8, .rw, fun _ _ => F.PRT_IRQ_EN, 32, false⟩]⟩,
  ⟨0x51000, 64, 16, 0, 1, [⟨0, 1, .rw, fun i _ => F.PRT_CH_CTL_EN i, 0, false⟩, ⟨1, 2, .rw, fun i _ => F.PRT_CH_CTL_PRIO i, 0, false⟩, ⟨3, 2, .rw, fun i _ => F.PRT_CH_CTL_EVENT i, 0, false⟩]⟩,
  ⟨0x51004, 64, 16, 0, 1, [⟨5, 27, .rw, fun i _ => F.PRT_CH_HEAD i, 5, false⟩]⟩,
  ⟨0x51008, 64, 16, 0, 1, [⟨0, 32, .rw, fun i _ => F.PRT_CH_HEAD i, 32, false⟩]⟩,
  ⟨0x5100c, 64, 16, 0, 1, [⟨0, 1, .wo, fun i _ => F.PRT_CH_CMD_DOORBELL i, 0, false⟩, ⟨1, 1, .wo, fun i _ => F.PRT_CH_CMD_ABORT i, 0, false⟩, ⟨2, 1, .wo, fun i _ => F.PRT_CH_CMD_RESET i, 0, false⟩]⟩,
  ⟨0x51010, 64, 16, 0, 1, [⟨0, 3, .ro, fun i _ => F.PRT_CH_STAT_STATE i, 0, false⟩, ⟨3, 1, .ro, fun i _ => F.PRT_CH_STAT_DB_PEND i, 0, false⟩]⟩,
  ⟨0x51014, 64, 16, 0, 1, [⟨0, 32, .ro, fun i _ => F.PRT_CH_CUR i, 0, false⟩]⟩,
  ⟨0x51018, 64, 16, 0, 1, [⟨0, 32, .ro, fun i _ => F.PRT_CH_CUR i, 32, false⟩]⟩]

/-- Words of block PRT. -/
def rowsPRT1 : List RegRow := [
  ⟨0x5101c, 64, 16, 0, 1, [⟨0, 32, .ro, fun i _ => F.PRT_CH_DONE i, 0, false⟩]⟩,
  ⟨0x51020, 64, 16, 0, 1, [⟨0, 8, .ro, fun i _ => F.PRT_CH_ERR_CODE i, 0, false⟩, ⟨8, 4, .ro, fun i _ => F.PRT_CH_ERR_CAUSE i, 0, false⟩, ⟨12, 3, .ro, fun i _ => F.PRT_CH_ERR_DETAIL i, 0, false⟩, ⟨31, 1, .w1c, fun i _ => F.PRT_CH_ERR_VALID i, 0, false⟩]⟩,
  ⟨0x51024, 64, 16, 0, 1, [⟨0, 32, .ro, fun i _ => F.PRT_CH_ERR_ADDR i, 0, false⟩]⟩,
  ⟨0x51028, 64, 16, 0, 1, [⟨0, 32, .ro, fun i _ => F.PRT_CH_ERR_ADDR i, 32, false⟩]⟩,
  ⟨0x5102c, 64, 16, 0, 1, [⟨0, 24, .ro, fun i _ => F.PRT_CH_RESIDUE i, 0, false⟩]⟩,
  ⟨0x51030, 64, 16, 0, 1, [⟨0, 25, .rw, fun i _ => F.PRT_CH_LIMIT i, 0, false⟩]⟩,
  ⟨0x51034, 64, 16, 0, 1, [⟨0, 32, .ro, fun i _ => F.PRT_CH_ERR_DESC i, 0, false⟩]⟩,
  ⟨0x51038, 64, 16, 0, 1, [⟨0, 32, .ro, fun i _ => F.PRT_CH_ERR_DESC i, 32, false⟩]⟩]

/-- Words of block CMP. -/
def rowsCMP0 : List RegRow := [
  ⟨0x80100, 0, 1, 0, 1, [⟨0, 2, .ro, fun _ _ => F.CMP_LUETH_LAYERS_N, 0, false⟩, ⟨2, 1, .ro, fun _ _ => F.CMP_LUETH_LAYERS_READY0, 0, false⟩, ⟨3, 1, .ro, fun _ _ => F.CMP_LUETH_LAYERS_READY1, 0, false⟩, ⟨4, 1, .ro, fun _ _ => F.CMP_LUETH_LAYERS_REJ0, 0, false⟩, ⟨5, 1, .ro, fun _ _ => F.CMP_LUETH_LAYERS_REJ1, 0, false⟩]⟩,
  ⟨0x80104, 0, 1, 0, 1, [⟨0, 32, .ro, fun _ _ => F.CMP_LUETH_READY, 0, false⟩]⟩,
  ⟨0x80108, 0, 1, 0, 1, [⟨0, 32, .rc, fun _ _ => F.CMP_LUETH_HINT, 0, false⟩]⟩,
  ⟨0x80110, 0, 1, 0, 1, [⟨0, 4, .ro, fun _ _ => F.CMP_LUETH_ERR_CAUSE, 0, false⟩, ⟨4, 1, .ro, fun _ _ => F.CMP_LUETH_ERR_LAYER, 0, false⟩, ⟨5, 1, .ro, fun _ _ => F.CMP_LUETH_ERR_OLDER, 0, false⟩, ⟨31, 1, .w1c, fun _ _ => F.CMP_LUETH_ERR_VALID, 0, false⟩]⟩,
  ⟨0x80114, 0, 1, 0, 1, [⟨0, 32, .ro, fun _ _ => F.CMP_LUETH_ERR_TAKE, 0, false⟩]⟩,
  ⟨0x80118, 0, 1, 0, 1, [⟨0, 20, .ro, fun _ _ => F.CMP_LUETH_ERR_OFF, 0, false⟩]⟩,
  ⟨0x80120, 0, 1, 0, 1, [⟨0, 32, .wo, fun _ _ => F.CMP_TAKE_RELEASE, 0, false⟩]⟩,
  ⟨0x80124, 0, 1, 0, 1, [⟨0, 1, .wo, fun _ _ => F.CMP_LAYER_RELEASE, 0, false⟩]⟩,
  ⟨0x80128, 0, 1, 0, 1, [⟨0, 32, .ro, fun _ _ => F.CMP_LUETH_ERR_SEQ, 0, false⟩]⟩,
  ⟨0x8012c, 0, 1, 0, 1, [⟨0, 32, .ro, fun _ _ => F.CMP_LUETH_ERR_SEQ, 32, false⟩]⟩,
  ⟨0x80200, 0, 1, 0, 1, [⟨0, 32, .ro, fun _ _ => F.CMP_RAS_X, 0, false⟩]⟩,
  ⟨0x80208, 0, 1, 0, 1, [⟨0, 32, .ro, fun _ _ => F.CMP_RAS_INST, 0, false⟩]⟩,
  ⟨0x8020c, 0, 1, 0, 1, [⟨0, 32, .ro, fun _ _ => F.CMP_RAS_INST, 32, false⟩]⟩,
  ⟨0x80210, 0, 1, 0, 1, [⟨0, 32, .ro, fun _ _ => F.CMP_RAS_PIX, 0, false⟩]⟩,
  ⟨0x80214, 0, 1, 0, 1, [⟨0, 32, .ro, fun _ _ => F.CMP_RAS_PIX, 32, false⟩]⟩,
  ⟨0x80220, 0, 1, 0, 1, [⟨0, 32, .ro, fun _ _ => F.CMP_LDIG, 0, false⟩]⟩,
  ⟨0x80224, 0, 1, 0, 1, [⟨0, 32, .ro, fun _ _ => F.CMP_LDIG, 32, false⟩]⟩,
  ⟨0x80228, 0, 1, 0, 1, [⟨0, 32, .ro, fun _ _ => F.CMP_LDIG_LAST, 0, false⟩]⟩,
  ⟨0x8022c, 0, 1, 0, 1, [⟨0, 32, .ro, fun _ _ => F.CMP_LDIG_LAST, 32, false⟩]⟩,
  ⟨0x80230, 0, 1, 0, 1, [⟨0, 32, .ro, fun _ _ => F.CMP_LDIG_COUNT, 0, false⟩]⟩,
  ⟨0x80240, 0, 1, 0, 1, [⟨0, 1, .rw, fun _ _ => F.CMP_TAP_CTL_ARM, 0, false⟩, ⟨1, 1, .ro, fun _ _ => F.CMP_TAP_CTL_BUSY, 0, false⟩]⟩,
  ⟨0x80244, 0, 1, 0, 1, [⟨0, 32, .rw, fun _ _ => F.CMP_TAP_X, 0, false⟩]⟩,
  ⟨0x80248, 0, 1, 0, 1, [⟨0, 13, .rw, fun _ _ => F.CMP_TAP_Y, 0, false⟩]⟩,
  ⟨0x8024c, 0, 1, 0, 1, [⟨0, 7, .rw, fun _ _ => F.CMP_TAP_SIZE_NX, 0, false⟩, ⟨16, 14, .rw, fun _ _ => F.CMP_TAP_SIZE_NY, 0, false⟩]⟩]

/-- Words of block CMP. -/
def rowsCMP1 : List RegRow := [
  ⟨0x80250, 0, 1, 0, 1, [⟨6, 26, .rw, fun _ _ => F.CMP_TAP_ADDR, 6, false⟩]⟩,
  ⟨0x80254, 0, 1, 0, 1, [⟨0, 3, .rw, fun _ _ => F.CMP_TAP_ADDR, 32, false⟩]⟩,
  ⟨0x80258, 0, 1, 0, 1, [⟨0, 1, .w1c, fun _ _ => F.CMP_TAP_STAT_DONE, 0, false⟩, ⟨1, 1, .w1c, fun _ _ => F.CMP_TAP_STAT_RANGE, 0, false⟩, ⟨2, 1, .w1c, fun _ _ => F.CMP_TAP_STAT_ADDR, 0, false⟩, ⟨3, 1, .w1c, fun _ _ => F.CMP_TAP_STAT_LOST, 0, false⟩]⟩,
  ⟨0x80260, 0, 1, 0, 1, [⟨0, 32, .ro, fun _ _ => F.CMP_TAP_CRC, 0, false⟩]⟩,
  ⟨0x80264, 0, 1, 0, 1, [⟨0, 32, .ro, fun _ _ => F.CMP_TAP_CRC, 32, false⟩]⟩,
  ⟨0x80300, 0, 1, 0, 1, [⟨0, 3, .st, fun _ _ => F.CMP_SR_CTL_HX, 0, false⟩, ⟨4, 3, .st, fun _ _ => F.CMP_SR_CTL_HY, 0, false⟩, ⟨8, 1, .st, fun _ _ => F.CMP_SR_CTL_EN, 0, false⟩]⟩,
  ⟨0x80304, 4, 15, 0, 1, [⟨0, 16, .st, fun i _ => F.CMP_SR_KX i, 0, false⟩]⟩,
  ⟨0x80340, 4, 15, 0, 1, [⟨0, 16, .st, fun i _ => F.CMP_SR_KY i, 0, false⟩]⟩,
  ⟨0x80380, 0, 1, 0, 1, [⟨0, 1, .st, fun _ _ => F.CMP_LR_CTL_EN, 0, false⟩, ⟨2, 6, .st, fun _ _ => F.CMP_LR_CTL_RADIUS, 0, false⟩, ⟨8, 2, .st, fun _ _ => F.CMP_LR_CTL_NC, 0, false⟩, ⟨10, 6, .st, fun _ _ => F.CMP_LR_CTL_SHIFT, 0, false⟩]⟩,
  ⟨0x80384, 0, 1, 0, 1, [⟨0, 16, .st, fun _ _ => F.CMP_LR_BASE, 0, false⟩]⟩,
  ⟨0x80388, 0, 1, 0, 1, [⟨0, 16, .st, fun _ _ => F.CMP_LR_LIMIT_MIN, 0, false⟩, ⟨16, 16, .st, fun _ _ => F.CMP_LR_LIMIT_MAX, 0, false⟩]⟩,
  ⟨0x8038c, 4, 3, 0, 1, [⟨0, 16, .st, fun i _ => F.CMP_LR_AMP i, 0, false⟩]⟩,
  ⟨0x80400, 68, 3, 4, 16, [⟨0, 16, .st, fun i j => F.CMP_LR_G_E (17 * i + j), 0, false⟩, ⟨16, 16, .st, fun i j => F.CMP_LR_G_O (17 * i + j), 0, false⟩]⟩,
  ⟨0x80440, 68, 3, 0, 1, [⟨0, 16, .st, fun i _ => F.CMP_LR_G_E (17 * i + 16), 0, false⟩]⟩,
  ⟨0x80500, 0, 1, 0, 1, [⟨0, 2, .st, fun _ _ => F.CMP_HALO_CTL_MODE_X, 0, false⟩, ⟨2, 2, .st, fun _ _ => F.CMP_HALO_CTL_MODE_YLO, 0, false⟩, ⟨4, 2, .st, fun _ _ => F.CMP_HALO_CTL_MODE_YHI, 0, false⟩, ⟨6, 6, .st, fun _ _ => F.CMP_HALO_CTL_DEV_YLO, 0, false⟩, ⟨12, 6, .st, fun _ _ => F.CMP_HALO_CTL_DEV_YHI, 0, false⟩]⟩,
  ⟨0x80504, 0, 1, 0, 1, [⟨0, 1, .ro, fun _ _ => F.CMP_HALO_STAT_PREPASS, 0, false⟩, ⟨1, 1, .ro, fun _ _ => F.CMP_HALO_STAT_YLO_OK, 0, false⟩, ⟨2, 1, .ro, fun _ _ => F.CMP_HALO_STAT_YHI_OK, 0, false⟩]⟩,
  ⟨0x80508, 0, 1, 0, 1, [⟨0, 16, .rc, fun _ _ => F.CMP_HALO_REJECT_SPAN, 0, false⟩, ⟨16, 16, .rc, fun _ _ => F.CMP_HALO_REJECT_DUP, 0, false⟩]⟩,
  ⟨0x80510, 0, 1, 0, 1, [⟨0, 32, .ro, fun _ _ => F.CMP_BIND_CFG, 0, false⟩]⟩,
  ⟨0x80514, 0, 1, 0, 1, [⟨0, 32, .ro, fun _ _ => F.CMP_BIND_GAIN, 0, false⟩]⟩,
  ⟨0x80518, 0, 1, 0, 1, [⟨0, 32, .rc, fun _ _ => F.CMP_EQ_SAT, 0, false⟩]⟩,
  ⟨0x80600, 0, 1, 0, 1, [⟨0, 1, .rw, fun _ _ => F.CMP_DPV_CTL_LIST_EN, 0, false⟩]⟩,
  ⟨0x80604, 0, 1, 0, 1, [⟨6, 26, .rw, fun _ _ => F.CMP_DPV_BASE, 6, false⟩]⟩,
  ⟨0x80608, 0, 1, 0, 1, [⟨0, 3, .rw, fun _ _ => F.CMP_DPV_BASE, 32, false⟩]⟩,
  ⟨0x8060c, 0, 1, 0, 1, [⟨0, 24, .rw, fun _ _ => F.CMP_DPV_SIZE, 0, false⟩]⟩,
  ⟨0x80610, 0, 1, 0, 1, [⟨0, 25, .ro, fun _ _ => F.CMP_DPV_WR, 0, false⟩]⟩]

/-- Words of block CMP. -/
def rowsCMP2 : List RegRow := [
  ⟨0x80614, 0, 1, 0, 1, [⟨0, 32, .ro, fun _ _ => F.CMP_DPV_BEAM, 0, false⟩]⟩,
  ⟨0x80618, 0, 1, 0, 1, [⟨0, 32, .ro, fun _ _ => F.CMP_DPV_SHOT, 0, false⟩]⟩,
  ⟨0x8061c, 0, 1, 0, 1, [⟨0, 1, .w1c, fun _ _ => F.CMP_DPV_STAT_OVF, 0, false⟩, ⟨1, 1, .w1c, fun _ _ => F.CMP_DPV_STAT_DONE, 0, false⟩, ⟨2, 1, .w1c, fun _ _ => F.CMP_DPV_STAT_ADDR, 0, false⟩]⟩,
  ⟨0x80700, 0, 1, 0, 1, [⟨0, 24, .ro, fun _ _ => F.CMP_LEAD, 0, false⟩]⟩,
  ⟨0x80704, 0, 1, 0, 1, [⟨0, 24, .rw, fun _ _ => F.CMP_LEAD_WARN, 0, false⟩]⟩,
  ⟨0x80708, 0, 1, 0, 1, [⟨0, 24, .rc, fun _ _ => F.CMP_LEAD_MIN, 0, false⟩]⟩,
  ⟨0x80800, 0, 1, 0, 1, [⟨0, 3, .st, fun _ _ => F.CMP_QUIRE_CTL_LEVEL, 0, false⟩]⟩,
  ⟨0x80804, 0, 1, 0, 1, [⟨0, 1, .w1c, fun _ _ => F.CMP_QUIRE_STAT_VFAIL, 0, false⟩, ⟨1, 1, .w1c, fun _ _ => F.CMP_QUIRE_STAT_UNPUB, 0, false⟩]⟩,
  ⟨0x80808, 0, 1, 0, 1, [⟨0, 32, .rc, fun _ _ => F.CMP_QUIRE_RAW, 0, false⟩]⟩,
  ⟨0x8080c, 0, 1, 0, 1, [⟨0, 32, .rc, fun _ _ => F.CMP_QUIRE_VFAIL, 0, false⟩]⟩,
  ⟨0x80810, 0, 1, 0, 1, [⟨0, 32, .ro, fun _ _ => F.CMP_QUIRE_IN, 0, false⟩]⟩,
  ⟨0x80814, 0, 1, 0, 1, [⟨0, 32, .ro, fun _ _ => F.CMP_QUIRE_IN, 32, false⟩]⟩,
  ⟨0x80818, 0, 1, 0, 1, [⟨0, 32, .ro, fun _ _ => F.CMP_QUIRE_OUT, 0, false⟩]⟩,
  ⟨0x8081c, 0, 1, 0, 1, [⟨0, 32, .ro, fun _ _ => F.CMP_QUIRE_OUT, 32, false⟩]⟩]

/-- Words of block PLT. -/
def rowsPLT0 : List RegRow := [
  ⟨0xc0800, 0, 1, 0, 1, [⟨6, 26, .rw, fun _ _ => F.PLT_CKPT_BASE, 6, false⟩]⟩,
  ⟨0xc0804, 0, 1, 0, 1, [⟨0, 3, .rw, fun _ _ => F.PLT_CKPT_BASE, 32, false⟩]⟩,
  ⟨0xc0808, 0, 1, 0, 1, [⟨0, 1, .w1c, fun _ _ => F.PLT_CKPT_STAT_WRITTEN, 0, false⟩, ⟨1, 1, .w1c, fun _ _ => F.PLT_CKPT_STAT_LOADED, 0, false⟩, ⟨2, 1, .w1c, fun _ _ => F.PLT_CKPT_STAT_BAD, 0, false⟩, ⟨3, 1, .w1c, fun _ _ => F.PLT_CKPT_STAT_ADDR, 0, false⟩]⟩,
  ⟨0xc0810, 0, 1, 0, 1, [⟨0, 4, .ro, fun _ _ => F.PLT_QDEC_ERR_CAUSE, 0, false⟩, ⟨4, 5, .ro, fun _ _ => F.PLT_QDEC_ERR_LANE, 0, false⟩, ⟨9, 1, .ro, fun _ _ => F.PLT_QDEC_ERR_TILE, 0, false⟩, ⟨31, 1, .w1c, fun _ _ => F.PLT_QDEC_ERR_VALID, 0, false⟩]⟩,
  ⟨0xc0814, 0, 1, 0, 1, [⟨0, 32, .ro, fun _ _ => F.PLT_QDEC_ERR_SHOT, 0, false⟩]⟩,
  ⟨0xc0818, 0, 1, 0, 1, [⟨0, 8, .ro, fun _ _ => F.PLT_QDEC_ERR_SHOT, 32, false⟩]⟩,
  ⟨0xc0820, 0, 1, 0, 1, [⟨0, 32, .rc, fun _ _ => F.PLT_QDEC_TFAIL, 0, false⟩]⟩,
  ⟨0xc0824, 0, 1, 0, 1, [⟨0, 32, .rc, fun _ _ => F.PLT_QDEC_LFAIL, 0, false⟩]⟩,
  ⟨0xc0000, 0, 1, 0, 1, [⟨0, 4, .rw, fun _ _ => F.PLT_CTL_DEPTH, 0, false⟩]⟩,
  ⟨0xc0004, 0, 1, 0, 1, [⟨0, 1, .ro, fun _ _ => F.PLT_STAT_RUN, 0, false⟩, ⟨1, 4, .ro, fun _ _ => F.PLT_STAT_AHEAD, 0, false⟩]⟩,
  ⟨0xc0008, 0, 1, 0, 1, [⟨0, 32, .rc, fun _ _ => F.PLT_LATE, 0, false⟩]⟩,
  ⟨0xc000c, 0, 1, 0, 1, [⟨0, 32, .ro, fun _ _ => F.PLT_LATE_SHOT, 0, false⟩]⟩,
  ⟨0xc0010, 0, 1, 0, 1, [⟨0, 8, .ro, fun _ _ => F.PLT_LATE_SHOT, 32, false⟩]⟩,
  ⟨0xc0014, 0, 1, 0, 1, [⟨0, 4, .rc, fun _ _ => F.PLT_AHEAD_MIN, 0, false⟩]⟩,
  ⟨0xc0100, 0, 1, 0, 1, [⟨6, 26, .rw, fun _ _ => F.PLT_TALLY_RING, 6, false⟩]⟩,
  ⟨0xc0104, 0, 1, 0, 1, [⟨0, 3, .rw, fun _ _ => F.PLT_TALLY_RING, 32, false⟩]⟩,
  ⟨0xc0108, 0, 1, 0, 1, [⟨0, 1, .ro, fun _ _ => F.PLT_TALLY_STAT_BYPASS, 0, false⟩, ⟨1, 1, .w1c, fun _ _ => F.PLT_TALLY_STAT_GUARD, 0, false⟩, ⟨2, 1, .w1c, fun _ _ => F.PLT_TALLY_STAT_STATE, 0, false⟩, ⟨3, 1, .w1c, fun _ _ => F.PLT_TALLY_STAT_ADDR, 0, false⟩]⟩,
  ⟨0xc010c, 0, 1, 0, 1, [⟨0, 32, .rc, fun _ _ => F.PLT_TALLY_GUARD, 0, false⟩]⟩,
  ⟨0xc0110, 0, 1, 0, 1, [⟨0, 32, .ro, fun _ _ => F.PLT_TALLY_HSUM, 0, false⟩]⟩,
  ⟨0xc0114, 0, 1, 0, 1, [⟨0, 14, .rc, fun _ _ => F.PLT_TALLY_BMAX, 0, false⟩]⟩]

/-- Words of block MEM. -/
def rowsMEM0 : List RegRow := [
  ⟨0xa0000, 0, 1, 0, 1, [⟨0, 1, .rw, fun _ _ => F.MEM_CTL_RUN, 0, false⟩]⟩,
  ⟨0xa0004, 0, 1, 0, 1, [⟨0, 1, .ro, fun _ _ => F.MEM_STAT_RUN_ACK, 0, false⟩, ⟨1, 1, .ro, fun _ _ => F.MEM_STAT_HASH_BAD, 0, false⟩, ⟨2, 1, .ro, fun _ _ => F.MEM_STAT_IN_SR, 0, false⟩]⟩,
  ⟨0xa0010, 8, 9, 0, 1, [⟨0, 32, .rw, fun i _ => F.MEM_HASH i, 0, false⟩]⟩,
  ⟨0xa0014, 8, 9, 0, 1, [⟨0, 8, .rw, fun i _ => F.MEM_HASH i, 32, false⟩]⟩,
  ⟨0xa0060, 0, 1, 0, 1, [⟨0, 8, .ro, fun _ _ => F.MEM_PART_COPY, 0, false⟩, ⟨8, 8, .ro, fun _ _ => F.MEM_PART_GALLEY, 0, false⟩, ⟨16, 5, .ro, fun _ _ => F.MEM_PART_DIR_LOG2, 0, false⟩]⟩,
  ⟨0xa0080, 0, 1, 0, 1, [⟨0, 9, .rw, fun _ _ => F.MEM_REF_CTL_TRFCPB, 0, false⟩]⟩,
  ⟨0xa0084, 0, 1, 0, 1, [⟨0, 32, .rc, fun _ _ => F.MEM_REF_FORCED, 0, false⟩]⟩,
  ⟨0xa0088, 0, 1, 0, 1, [⟨0, 4, .rc, fun _ _ => F.MEM_REF_DEBT_MAX, 0, false⟩]⟩,
  ⟨0xa0090, 0, 1, 0, 1, [⟨0, 8, .ro, fun _ _ => F.MEM_TEMP_T, 0, false⟩, ⟨8, 2, .ro, fun _ _ => F.MEM_TEMP_RATE, 0, false⟩]⟩,
  ⟨0xa00a0, 0, 1, 0, 1, [⟨0, 32, .rc, fun _ _ => F.MEM_POISON, 0, false⟩]⟩,
  ⟨0xa00a4, 0, 1, 0, 1, [⟨0, 32, .ro, fun _ _ => F.MEM_POISON_ADDR, 0, false⟩]⟩,
  ⟨0xa00a8, 0, 1, 0, 1, [⟨0, 3, .ro, fun _ _ => F.MEM_POISON_ADDR, 32, false⟩, ⟨8, 4, .ro, fun _ _ => F.MEM_POISON_ADDR_SRC, 0, false⟩]⟩,
  ⟨0xa00c0, 0, 1, 0, 1, [⟨0, 32, .ro, fun _ _ => F.MEM_GAL_PUB, 0, false⟩]⟩,
  ⟨0xa00c4, 0, 1, 0, 1, [⟨0, 32, .ro, fun _ _ => F.MEM_GAL_PUB, 32, false⟩]⟩,
  ⟨0xa00c8, 0, 1, 0, 1, [⟨0, 32, .rc, fun _ _ => F.MEM_GAL_STALL, 0, false⟩]⟩,
  ⟨0xa0100, 16, 16, 0, 1, [⟨0, 12, .rw, fun i _ => F.MEM_DLY_RD i, 0, false⟩]⟩,
  ⟨0xa0104, 16, 16, 0, 1, [⟨0, 12, .rw, fun i _ => F.MEM_DLY_WR i, 0, false⟩]⟩,
  ⟨0xa0108, 16, 16, 0, 1, [⟨0, 12, .rw, fun i _ => F.MEM_DLY_CA i, 0, false⟩]⟩]

/-- Words of block SRM. -/
def rowsSRM0 : List RegRow := [
  ⟨0x170000, 64, 4, 0, 1, [⟨0, 1, .rw, fun i _ => F.SRM_CTL_SCRUB_EN i, 0, false⟩]⟩,
  ⟨0x170004, 64, 4, 0, 1, [⟨0, 24, .rw, fun i _ => F.SRM_LAP_LIMIT i, 0, false⟩]⟩,
  ⟨0x170008, 64, 4, 0, 1, [⟨0, 24, .ro, fun i _ => F.SRM_LAP_LAST i, 0, false⟩]⟩,
  ⟨0x17000c, 64, 4, 0, 1, [⟨0, 24, .rc, fun i _ => F.SRM_LAP_MAX i, 0, false⟩]⟩,
  ⟨0x170010, 64, 4, 0, 1, [⟨0, 32, .rc, fun i _ => F.SRM_CE i, 0, false⟩]⟩,
  ⟨0x170014, 64, 4, 0, 1, [⟨0, 32, .rc, fun i _ => F.SRM_UE i, 0, false⟩]⟩,
  ⟨0x170018, 64, 4, 0, 1, [⟨0, 32, .rc, fun i _ => F.SRM_UNINIT i, 0, false⟩]⟩,
  ⟨0x17001c, 64, 4, 0, 1, [⟨0, 1, .w1c, fun i _ => F.SRM_ERR_CE i, 0, false⟩, ⟨1, 1, .w1c, fun i _ => F.SRM_ERR_UE i, 0, false⟩, ⟨2, 1, .w1c, fun i _ => F.SRM_ERR_UNINIT i, 0, false⟩, ⟨3, 1, .w1c, fun i _ => F.SRM_ERR_SLOW i, 0, false⟩, ⟨4, 3, .ro, fun i _ => F.SRM_ERR_WORD i, 0, false⟩, ⟨7, 6, .ro, fun i _ => F.SRM_ERR_BIT i, 0, false⟩, ⟨13, 1, .ro, fun i _ => F.SRM_ERR_PARITY i, 0, false⟩]⟩,
  ⟨0x170020, 64, 4, 0, 1, [⟨0, 32, .ro, fun i _ => F.SRM_ERR_ADDR i, 0, false⟩]⟩]

/-- Words of block HED. -/
def rowsHED0 : List RegRow := [
  ⟨0x150000, 0, 1, 0, 1, [⟨0, 1, .wo, fun _ _ => F.HED_AUTH_CTL_START, 0, false⟩]⟩,
  ⟨0x150004, 0, 1, 0, 1, [⟨0, 2, .ro, fun _ _ => F.HED_AUTH_STAT_STATE, 0, false⟩, ⟨2, 2, .ro, fun _ _ => F.HED_AUTH_STAT_CAUSE, 0, false⟩, ⟨4, 1, .ro, fun _ _ => F.HED_AUTH_STAT_LOST, 0, false⟩, ⟨8, 8, .ro, fun _ _ => F.HED_AUTH_STAT_FAILS, 0, false⟩]⟩,
  ⟨0x150010, 4, 4, 0, 1, [⟨0, 32, .ro, fun i _ => F.HED_ID i, 0, false⟩]⟩,
  ⟨0x150020, 0, 1, 0, 1, [⟨0, 1, .rw, fun _ _ => F.HED_BEAM_CTL_ENABLE, 0, false⟩]⟩,
  ⟨0x150024, 0, 1, 0, 1, [⟨0, 1, .ro, fun _ _ => F.HED_BEAM_STAT_ENABLE_OUT, 0, false⟩, ⟨1, 1, .ro, fun _ _ => F.HED_BEAM_STAT_INHIBIT_IN, 0, false⟩, ⟨2, 1, .w1c, fun _ _ => F.HED_BEAM_STAT_INHIBIT, 0, false⟩, ⟨3, 1, .w1c, fun _ _ => F.HED_BEAM_STAT_REFUSED, 0, false⟩, ⟨4, 1, .w1c, fun _ _ => F.HED_BEAM_STAT_TEMP_STOP, 0, false⟩, ⟨5, 1, .ro, fun _ _ => F.HED_BEAM_STAT_TELEM_STALE, 0, false⟩]⟩,
  ⟨0x150028, 0, 1, 0, 1, [⟨0, 32, .ro, fun _ _ => F.HED_INH_SHOT, 0, false⟩]⟩,
  ⟨0x15002c, 0, 1, 0, 1, [⟨0, 8, .ro, fun _ _ => F.HED_INH_SHOT, 32, false⟩]⟩,
  ⟨0x150030, 0, 1, 0, 1, [⟨0, 16, .rw, fun _ _ => F.HED_TEMP_LIM, 0, false⟩]⟩,
  ⟨0x150034, 0, 1, 0, 1, [⟨0, 16, .rc, fun _ _ => F.HED_TEMP_MAX, 0, false⟩]⟩,
  ⟨0x150040, 4, 16, 0, 1, [⟨0, 16, .ro, fun i _ => F.HED_TEMP i, 0, false⟩]⟩,
  ⟨0x150080, 4, 16, 0, 1, [⟨0, 16, .ro, fun i _ => F.HED_CUR i, 0, false⟩]⟩,
  ⟨0x150100, 8, 64, 0, 1, [⟨0, 32, .ro, fun i _ => F.HED_USAGE i, 0, false⟩]⟩,
  ⟨0x150104, 8, 64, 0, 1, [⟨0, 32, .ro, fun i _ => F.HED_USAGE i, 32, false⟩]⟩]

/-- Words of block BDL. -/
def rowsBDL0 : List RegRow := [
  ⟨0xd0000, 0, 1, 0, 1, [⟨0, 9, .st, fun _ _ => F.BDL_LEAD, 0, false⟩]⟩,
  ⟨0xd0004, 0, 1, 0, 1, [⟨0, 20, .rw, fun _ _ => F.BDL_ACK_TMO, 0, false⟩]⟩,
  ⟨0xd0008, 0, 1, 0, 1, [⟨0, 6, .ro, fun _ _ => F.BDL_DEVICE, 0, false⟩]⟩,
  ⟨0xd000c, 0, 1, 0, 1, [⟨0, 32, .ro, fun _ _ => F.BDL_CSEQ, 0, false⟩]⟩,
  ⟨0xd0010, 0, 1, 0, 1, [⟨0, 32, .rw, fun _ _ => F.BDL_TRAIN_MASK, 0, false⟩]⟩,
  ⟨0xd0014, 0, 1, 0, 1, [⟨0, 1, .wo, fun _ _ => F.BDL_TRAIN_CTL_START, 0, false⟩, ⟨1, 1, .ro, fun _ _ => F.BDL_TRAIN_CTL_BUSY, 0, false⟩, ⟨2, 1, .w1c, fun _ _ => F.BDL_TRAIN_CTL_DONE, 0, false⟩, ⟨3, 1, .w1c, fun _ _ => F.BDL_TRAIN_CTL_FAIL, 0, false⟩]⟩,
  ⟨0xd0020, 4, 16, 0, 1, [⟨0, 5, .rw, fun i _ => F.BDL_EQ_TAB_PRE i, 0, false⟩, ⟨8, 5, .rw, fun i _ => F.BDL_EQ_TAB_POST i, 0, false⟩]⟩,
  ⟨0xd0080, 4, 32, 0, 1, [⟨0, 9, .ro, fun i _ => F.BDL_MAP i, 0, false⟩]⟩,
  ⟨0xd0100, 16, 32, 0, 1, [⟨0, 4, .rw, fun i _ => F.BDL_CTL_PRESET i, 0, false⟩, ⟨4, 4, .rw, fun i _ => F.BDL_CTL_SWING i, 0, false⟩, ⟨8, 1, .rw, fun i _ => F.BDL_CTL_SLEEP i, 0, false⟩]⟩,
  ⟨0xd0104, 16, 32, 0, 1, [⟨0, 3, .ro, fun i _ => F.BDL_STAT_STATE i, 0, false⟩, ⟨4, 8, .ro, fun i _ => F.BDL_STAT_FOM i, 0, false⟩, ⟨12, 4, .ro, fun i _ => F.BDL_STAT_BEST i, 0, false⟩]⟩,
  ⟨0xd0108, 16, 32, 0, 1, [⟨0, 32, .rc, fun i _ => F.BDL_NAK i, 0, false⟩]⟩,
  ⟨0xd010c, 16, 32, 0, 1, [⟨0, 32, .rc, fun i _ => F.BDL_SILENT i, 0, false⟩]⟩,
  ⟨0xd0300, 16, 4, 0, 1, [⟨0, 8, .rw, fun i _ => F.BDL_RX_CTL_FOM_MIN i, 0, false⟩, ⟨8, 1, .wo, fun i _ => F.BDL_RX_CTL_RECOVER i, 0, false⟩]⟩,
  ⟨0xd0304, 16, 4, 0, 1, [⟨0, 2, .ro, fun i _ => F.BDL_RX_STAT_STATE i, 0, false⟩, ⟨2, 8, .ro, fun i _ => F.BDL_RX_STAT_FOM i, 0, false⟩, ⟨10, 4, .ro, fun i _ => F.BDL_RX_STAT_CTLE i, 0, false⟩, ⟨14, 1, .ro, fun i _ => F.BDL_RX_STAT_LOCK i, 0, false⟩]⟩,
  ⟨0xd0308, 16, 4, 0, 1, [⟨0, 32, .rc, fun i _ => F.BDL_RX_BAD i, 0, false⟩]⟩,
  ⟨0xd030c, 16, 4, 0, 1, [⟨0, 32, .rc, fun i _ => F.BDL_RX_STRAY i, 0, false⟩]⟩,
  ⟨0xd0400, 0, 1, 0, 1, [⟨0, 5, .ro, fun _ _ => F.BDL_ERR_LANE, 0, false⟩, ⟨5, 2, .ro, fun _ _ => F.BDL_ERR_KIND, 0, false⟩, ⟨7, 1, .ro, fun _ _ => F.BDL_ERR_FLAGGED, 0, false⟩, ⟨31, 1, .w1c, fun _ _ => F.BDL_ERR_VALID, 0, false⟩]⟩,
  ⟨0xd0404, 0, 1, 0, 1, [⟨0, 32, .ro, fun _ _ => F.BDL_ERR_SHOT, 0, false⟩]⟩,
  ⟨0xd0408, 0, 1, 0, 1, [⟨0, 8, .ro, fun _ _ => F.BDL_ERR_SHOT, 32, false⟩]⟩]

/-- Words of block GOV. -/
def rowsGOV0 : List RegRow := [
  ⟨0xf0000, 0, 1, 0, 1, [⟨0, 2, .rw, fun _ _ => F.GOV_MODE_REQ, 0, false⟩, ⟨2, 2, .rw, fun _ _ => F.GOV_MODE_AFTER, 0, false⟩]⟩,
  ⟨0xf0004, 0, 1, 0, 1, [⟨0, 2, .ro, fun _ _ => F.GOV_STAT_MODE, 0, false⟩, ⟨2, 1, .ro, fun _ _ => F.GOV_STAT_BLEND, 0, false⟩, ⟨3, 1, .ro, fun _ _ => F.GOV_STAT_SAT_X, 0, false⟩, ⟨4, 1, .ro, fun _ _ => F.GOV_STAT_SAT_Y, 0, false⟩, ⟨5, 1, .ro, fun _ _ => F.GOV_STAT_FREEZE, 0, false⟩, ⟨6, 1, .ro, fun _ _ => F.GOV_STAT_STOPPING, 0, false⟩, ⟨7, 1, .ro, fun _ _ => F.GOV_STAT_HV_BAD, 0, false⟩, ⟨8, 1, .ro, fun _ _ => F.GOV_STAT_VCLAMP, 0, false⟩, ⟨9, 1, .ro, fun _ _ => F.GOV_STAT_REQ_PEND, 0, false⟩]⟩,
  ⟨0xf0010, 4, 3, 0, 1, [⟨0, 24, .rw, fun i _ => F.GOV_SLEW i, 0, false⟩]⟩,
  ⟨0xf0020, 0, 1, 0, 1, [⟨0, 32, .rw, fun _ _ => F.GOV_PARK_X, 0, false⟩]⟩,
  ⟨0xf0024, 0, 1, 0, 1, [⟨0, 32, .rw, fun _ _ => F.GOV_PARK_Y, 0, false⟩]⟩,
  ⟨0xf0030, 4, 2, 0, 1, [⟨0, 20, .rw, fun i _ => F.GOV_DEF_SENS i, 0, false⟩]⟩,
  ⟨0xf0038, 0, 1, 0, 1, [⟨0, 8, .rw, fun _ _ => F.GOV_DEF_LAT, 0, false⟩]⟩,
  ⟨0xf003c, 0, 1, 0, 1, [⟨0, 24, .rw, fun _ _ => F.GOV_DEF_MARGIN, 0, false⟩]⟩,
  ⟨0xf0040, 0, 1, 0, 1, [⟨0, 16, .rw, fun _ _ => F.GOV_HV_NOM, 0, false⟩]⟩,
  ⟨0xf0044, 0, 1, 0, 1, [⟨0, 8, .rw, fun _ _ => F.GOV_HV_TOL, 0, false⟩]⟩,
  ⟨0xf0048, 0, 1, 0, 1, [⟨0, 16, .ro, fun _ _ => F.GOV_HV_MEAS, 0, false⟩]⟩,
  ⟨0xf0050, 4, 2, 0, 1, [⟨0, 16, .rw, fun i _ => F.GOV_TRIM_OFF i, 0, false⟩]⟩,
  ⟨0xf0058, 0, 1, 0, 1, [⟨0, 4, .rw, fun _ _ => F.GOV_RB_CTL_SHIFT, 0, false⟩, ⟨4, 1, .rw, fun _ _ => F.GOV_RB_CTL_EN, 0, false⟩]⟩,
  ⟨0xf0060, 4, 2, 0, 1, [⟨0, 18, .ro, fun i _ => F.GOV_DEF_OUT i, 0, false⟩, ⟨18, 14, .ro, fun i _ => F.GOV_DEF_OUT i, 17, true⟩]⟩,
  ⟨0xf0068, 4, 2, 0, 1, [⟨0, 18, .ro, fun i _ => F.GOV_DEF_RB i, 0, false⟩, ⟨18, 14, .ro, fun i _ => F.GOV_DEF_RB i, 17, true⟩]⟩,
  ⟨0xf0070, 0, 1, 0, 1, [⟨0, 32, .rc, fun _ _ => F.GOV_DEF_RANGE, 0, false⟩]⟩,
  ⟨0xf0074, 0, 1, 0, 1, [⟨0, 32, .ro, fun _ _ => F.GOV_SAT_SHOT, 0, false⟩]⟩,
  ⟨0xf0078, 0, 1, 0, 1, [⟨0, 8, .ro, fun _ _ => F.GOV_SAT_SHOT, 32, false⟩]⟩,
  ⟨0xf0100, 0, 1, 0, 1, [⟨0, 16, .rw, fun _ _ => F.GOV_PRF_VEL, 0, false⟩]⟩,
  ⟨0xf0104, 0, 1, 0, 1, [⟨0, 16, .rw, fun _ _ => F.GOV_PRF_ACC, 0, false⟩]⟩,
  ⟨0xf0108, 0, 1, 0, 1, [⟨0, 16, .rw, fun _ _ => F.GOV_PRF_JERK, 0, false⟩]⟩,
  ⟨0xf0110, 0, 1, 0, 1, [⟨0, 1, .rw, fun _ _ => F.GOV_SEG_KIND, 0, false⟩]⟩,
  ⟨0xf0114, 0, 1, 0, 1, [⟨0, 32, .rw, fun _ _ => F.GOV_SEG_X, 0, false⟩]⟩,
  ⟨0xf0118, 0, 1, 0, 1, [⟨0, 16, .rw, fun _ _ => F.GOV_SEG_X, 32, false⟩, ⟨16, 16, .ro, fun _ _ => F.GOV_SEG_X, 47, true⟩]⟩]

/-- Words of block GOV. -/
def rowsGOV1 : List RegRow := [
  ⟨0xf011c, 0, 1, 0, 1, [⟨0, 32, .rw, fun _ _ => F.GOV_SEG_Y, 0, false⟩]⟩,
  ⟨0xf0120, 0, 1, 0, 1, [⟨0, 16, .rw, fun _ _ => F.GOV_SEG_Y, 32, false⟩, ⟨16, 16, .ro, fun _ _ => F.GOV_SEG_Y, 47, true⟩]⟩,
  ⟨0xf0124, 0, 1, 0, 1, [⟨0, 32, .rw, fun _ _ => F.GOV_SEG_VEL, 0, false⟩]⟩,
  ⟨0xf0128, 0, 1, 0, 1, [⟨0, 1, .wo, fun _ _ => F.GOV_SEG_PUSH_PUSH, 0, false⟩, ⟨1, 1, .wo, fun _ _ => F.GOV_SEG_PUSH_FLUSH, 0, false⟩, ⟨2, 1, .wo, fun _ _ => F.GOV_SEG_PUSH_ABORT, 0, false⟩]⟩,
  ⟨0xf012c, 0, 1, 0, 1, [⟨0, 3, .ro, fun _ _ => F.GOV_SEG_STAT_QUEUED, 0, false⟩, ⟨3, 1, .ro, fun _ _ => F.GOV_SEG_STAT_RUNNING, 0, false⟩, ⟨4, 1, .ro, fun _ _ => F.GOV_SEG_STAT_REFUSED, 0, false⟩]⟩,
  ⟨0xf0140, 0, 1, 0, 1, [⟨0, 1, .rw, fun _ _ => F.GOV_SP_CTL_EN, 0, false⟩, ⟨8, 8, .rw, fun _ _ => F.GOV_SP_CTL_LINK_ID, 0, false⟩, ⟨16, 14, .rw, fun _ _ => F.GOV_SP_CTL_PERIOD, 0, false⟩]⟩]

/-- Words of block TOP. -/
def rowsTOP0 : List RegRow := [
  ⟨0x100, 0, 1, 0, 1, [⟨0, 1, .wo, fun _ _ => F.TOP_EPOCH_CMD_COMMIT, 0, false⟩]⟩,
  ⟨0x104, 0, 1, 0, 1, [⟨0, 1, .ro, fun _ _ => F.TOP_EPOCH_STAT_PENDING, 0, false⟩, ⟨1, 1, .ro, fun _ _ => F.TOP_EPOCH_STAT_BLOCKED, 0, false⟩, ⟨2, 1, .ro, fun _ _ => F.TOP_EPOCH_STAT_GAIN_STAGED, 0, false⟩, ⟨4, 3, .ro, fun _ _ => F.TOP_EPOCH_STAT_SLOT, 0, false⟩]⟩,
  ⟨0x108, 0, 1, 0, 1, [⟨0, 8, .rw, fun _ _ => F.TOP_EPOCH_HOLD, 0, false⟩]⟩,
  ⟨0x110, 0, 1, 0, 1, [⟨0, 32, .ro, fun _ _ => F.TOP_CFG_EPOCH, 0, false⟩]⟩,
  ⟨0x114, 0, 1, 0, 1, [⟨0, 32, .ro, fun _ _ => F.TOP_CFG_EPOCH, 32, false⟩]⟩,
  ⟨0x118, 0, 1, 0, 1, [⟨0, 32, .ro, fun _ _ => F.TOP_GAIN_EPOCH, 0, false⟩]⟩,
  ⟨0x11c, 0, 1, 0, 1, [⟨0, 32, .ro, fun _ _ => F.TOP_GAIN_EPOCH, 32, false⟩]⟩,
  ⟨0x120, 0, 1, 0, 1, [⟨0, 32, .ro, fun _ _ => F.TOP_FORME_EPOCH, 0, false⟩]⟩,
  ⟨0x124, 0, 1, 0, 1, [⟨0, 32, .ro, fun _ _ => F.TOP_FORME_EPOCH, 32, false⟩]⟩,
  ⟨0x140, 0, 1, 0, 1, [⟨0, 1, .wo, fun _ _ => F.TOP_SNAP_SNAP, 0, false⟩, ⟨1, 1, .wo, fun _ _ => F.TOP_SNAP_CLEAR, 0, false⟩]⟩,
  ⟨0x144, 0, 1, 0, 1, [⟨0, 1, .ro, fun _ _ => F.TOP_SNAP_STAT_BUSY, 0, false⟩, ⟨1, 1, .w1c, fun _ _ => F.TOP_SNAP_STAT_MISSED, 0, false⟩, ⟨16, 16, .ro, fun _ _ => F.TOP_SNAP_STAT_SEQ, 0, false⟩]⟩,
  ⟨0x148, 0, 1, 0, 1, [⟨0, 32, .ro, fun _ _ => F.TOP_SNAP_TIME, 0, false⟩]⟩,
  ⟨0x14c, 0, 1, 0, 1, [⟨0, 32, .ro, fun _ _ => F.TOP_SNAP_TIME, 32, false⟩]⟩,
  ⟨0x0, 0, 1, 0, 1, [⟨0, 16, .ro, fun _ _ => F.TOP_ID_PART, 0, false⟩, ⟨16, 16, .ro, fun _ _ => F.TOP_ID_REV, 0, false⟩]⟩,
  ⟨0x8, 0, 1, 0, 1, [⟨0, 32, .ro, fun _ _ => F.TOP_SERIAL, 0, false⟩]⟩,
  ⟨0xc, 0, 1, 0, 1, [⟨0, 32, .ro, fun _ _ => F.TOP_SERIAL, 32, false⟩]⟩,
  ⟨0x200, 0, 1, 0, 1, [⟨0, 3, .ro, fun _ _ => F.TOP_REG_ERR_KIND, 0, false⟩, ⟨3, 1, .ro, fun _ _ => F.TOP_REG_ERR_WRITE, 0, false⟩, ⟨4, 4, .ro, fun _ _ => F.TOP_REG_ERR_MASTER, 0, false⟩, ⟨31, 1, .w1c, fun _ _ => F.TOP_REG_ERR_VALID, 0, false⟩]⟩,
  ⟨0x204, 0, 1, 0, 1, [⟨0, 26, .ro, fun _ _ => F.TOP_REG_ERR_ADDR, 0, false⟩]⟩,
  ⟨0x208, 0, 1, 0, 1, [⟨0, 32, .rc, fun _ _ => F.TOP_REG_ERR_CNT, 0, false⟩]⟩]

/-- Words of block ASY. -/
def rowsASY0 : List RegRow := [
  ⟨0x140000, 0, 1, 0, 1, [⟨0, 3, .wo, fun _ _ => F.ASY_CMD_OP, 0, false⟩, ⟨3, 1, .wo, fun _ _ => F.ASY_CMD_NEWEST, 0, false⟩]⟩,
  ⟨0x140004, 0, 1, 0, 1, [⟨0, 3, .ro, fun _ _ => F.ASY_CMD_STAT_OP, 0, false⟩, ⟨3, 5, .ro, fun _ _ => F.ASY_CMD_STAT_RESULT, 0, false⟩, ⟨8, 1, .ro, fun _ _ => F.ASY_CMD_STAT_WAITING, 0, false⟩, ⟨31, 1, .w1c, fun _ _ => F.ASY_CMD_STAT_VALID, 0, false⟩]⟩,
  ⟨0x140010, 0, 1, 0, 1, [⟨0, 1, .rw, fun _ _ => F.ASY_OPEN_CTL_DIR, 0, false⟩, ⟨1, 2, .rw, fun _ _ => F.ASY_OPEN_CTL_LAUNCH, 0, false⟩]⟩,
  ⟨0x140014, 0, 1, 0, 1, [⟨0, 32, .rw, fun _ _ => F.ASY_OPEN_ID, 0, false⟩]⟩,
  ⟨0x140018, 0, 1, 0, 1, [⟨0, 32, .rw, fun _ _ => F.ASY_OPEN_ID, 32, false⟩]⟩,
  ⟨0x14001c, 0, 1, 0, 1, [⟨0, 24, .rw, fun _ _ => F.ASY_OPEN_BODY, 0, false⟩]⟩,
  ⟨0x140020, 0, 1, 0, 1, [⟨0, 32, .rw, fun _ _ => F.ASY_OPEN_XS, 0, false⟩]⟩,
  ⟨0x140024, 0, 1, 0, 1, [⟨0, 16, .rw, fun _ _ => F.ASY_OPEN_XS, 32, false⟩, ⟨16, 16, .ro, fun _ _ => F.ASY_OPEN_XS, 47, true⟩]⟩,
  ⟨0x140028, 0, 1, 0, 1, [⟨0, 32, .rw, fun _ _ => F.ASY_OPEN_YS, 0, false⟩]⟩,
  ⟨0x14002c, 0, 1, 0, 1, [⟨0, 16, .rw, fun _ _ => F.ASY_OPEN_YS, 32, false⟩, ⟨16, 16, .ro, fun _ _ => F.ASY_OPEN_YS, 47, true⟩]⟩,
  ⟨0x140030, 0, 1, 0, 1, [⟨6, 26, .rw, fun _ _ => F.ASY_OPEN_DARN, 6, false⟩]⟩,
  ⟨0x140034, 0, 1, 0, 1, [⟨0, 3, .rw, fun _ _ => F.ASY_OPEN_DARN, 32, false⟩]⟩,
  ⟨0x140038, 0, 1, 0, 1, [⟨0, 28, .rw, fun _ _ => F.ASY_OPEN_DARN_SIZE, 0, false⟩]⟩,
  ⟨0x140040, 0, 1, 0, 1, [⟨0, 16, .rw, fun _ _ => F.ASY_ARM_TMO, 0, false⟩]⟩,
  ⟨0x140044, 0, 1, 0, 1, [⟨0, 28, .rw, fun _ _ => F.ASY_DARN_RESERVE, 0, false⟩]⟩,
  ⟨0x140048, 0, 1, 0, 1, [⟨0, 1, .rw, fun _ _ => F.ASY_MEND_CTL_UNCONF, 0, false⟩, ⟨16, 16, .rw, fun _ _ => F.ASY_MEND_CTL_PARENT_SLOT, 0, false⟩]⟩,
  ⟨0x140050, 0, 1, 0, 1, [⟨0, 32, .ro, fun _ _ => F.ASY_CUR_ID, 0, false⟩]⟩,
  ⟨0x140054, 0, 1, 0, 1, [⟨0, 32, .ro, fun _ _ => F.ASY_CUR_ID, 32, false⟩]⟩,
  ⟨0x140058, 0, 1, 0, 1, [⟨0, 3, .ro, fun _ _ => F.ASY_CUR_STAT_STATE, 0, false⟩, ⟨3, 3, .ro, fun _ _ => F.ASY_CUR_STAT_QUEUED, 0, false⟩, ⟨16, 16, .ro, fun _ _ => F.ASY_CUR_STAT_RESUMES, 0, false⟩]⟩,
  ⟨0x14005c, 0, 1, 0, 1, [⟨0, 4, .ro, fun _ _ => F.ASY_STOP_CAUSE, 0, false⟩, ⟨4, 1, .ro, fun _ _ => F.ASY_STOP_MORE, 0, false⟩, ⟨31, 1, .w1c, fun _ _ => F.ASY_STOP_VALID, 0, false⟩]⟩,
  ⟨0x140060, 0, 1, 0, 1, [⟨0, 32, .ro, fun _ _ => F.ASY_RESUME_SHOT, 0, false⟩]⟩,
  ⟨0x140064, 0, 1, 0, 1, [⟨0, 8, .ro, fun _ _ => F.ASY_RESUME_SHOT, 32, false⟩]⟩,
  ⟨0x140068, 0, 1, 0, 1, [⟨0, 32, .ro, fun _ _ => F.ASY_DARN_COUNT, 0, false⟩]⟩,
  ⟨0x14006c, 0, 1, 0, 1, [⟨0, 32, .ro, fun _ _ => F.ASY_DARN_COUNT, 32, false⟩]⟩]

/-- Words of block ASY. -/
def rowsASY1 : List RegRow := [
  ⟨0x140070, 0, 1, 0, 1, [⟨0, 32, .ro, fun _ _ => F.ASY_SDIG, 0, false⟩]⟩,
  ⟨0x140074, 0, 1, 0, 1, [⟨0, 32, .ro, fun _ _ => F.ASY_SDIG, 32, false⟩]⟩,
  ⟨0x140080, 0, 1, 0, 1, [⟨6, 26, .rw, fun _ _ => F.ASY_HM_BASE, 6, false⟩]⟩,
  ⟨0x140084, 0, 1, 0, 1, [⟨0, 3, .rw, fun _ _ => F.ASY_HM_BASE, 32, false⟩]⟩,
  ⟨0x140088, 0, 1, 0, 1, [⟨0, 16, .rw, fun _ _ => F.ASY_HM_SLOTS, 0, false⟩]⟩,
  ⟨0x14008c, 0, 1, 0, 1, [⟨0, 32, .ro, fun _ _ => F.ASY_HM_SEQ, 0, false⟩]⟩]

/-- Words of block KOR. -/
def rowsKOR0 : List RegRow := [
  ⟨0x120000, 0, 1, 0, 1, [⟨0, 1, .rw, fun _ _ => F.KOR_CTL_JOIN, 0, false⟩]⟩,
  ⟨0x120004, 0, 1, 0, 1, [⟨0, 1, .ro, fun _ _ => F.KOR_STAT_IN_RING, 0, false⟩, ⟨1, 1, .ro, fun _ _ => F.KOR_STAT_ADMITTED, 0, false⟩, ⟨2, 1, .ro, fun _ _ => F.KOR_STAT_DUP, 0, false⟩, ⟨3, 6, .ro, fun _ _ => F.KOR_STAT_POSITION, 0, false⟩, ⟨9, 1, .ro, fun _ _ => F.KOR_STAT_BROKEN, 0, false⟩]⟩,
  ⟨0x120008, 0, 1, 0, 1, [⟨0, 6, .rw, fun _ _ => F.KOR_DEV_DEVICE, 0, false⟩, ⟨31, 1, .rw, fun _ _ => F.KOR_DEV_VALID, 0, false⟩]⟩,
  ⟨0x12000c, 0, 1, 0, 1, [⟨0, 2, .ro, fun _ _ => F.KOR_ROLE, 0, false⟩]⟩,
  ⟨0x120010, 0, 1, 0, 1, [⟨0, 1, .wo, fun _ _ => F.KOR_TOPO_CTL_DISCOVER, 0, false⟩]⟩,
  ⟨0x120014, 0, 1, 0, 1, [⟨0, 7, .ro, fun _ _ => F.KOR_TOPO_STAT_COUNT, 0, false⟩, ⟨7, 1, .ro, fun _ _ => F.KOR_TOPO_STAT_BROKEN, 0, false⟩, ⟨8, 6, .ro, fun _ _ => F.KOR_TOPO_STAT_BREAK, 0, false⟩, ⟨14, 1, .ro, fun _ _ => F.KOR_TOPO_STAT_FULL, 0, false⟩, ⟨15, 1, .ro, fun _ _ => F.KOR_TOPO_STAT_MASTERS, 0, false⟩, ⟨16, 16, .ro, fun _ _ => F.KOR_TOPO_STAT_TSEQ, 0, false⟩]⟩,
  ⟨0x120040, 4, 64, 0, 1, [⟨0, 6, .ro, fun i _ => F.KOR_TOPO_DEVICE i, 0, false⟩, ⟨6, 2, .ro, fun i _ => F.KOR_TOPO_ROLE i, 0, false⟩, ⟨8, 1, .ro, fun i _ => F.KOR_TOPO_RA_UP i, 0, false⟩, ⟨9, 1, .ro, fun i _ => F.KOR_TOPO_RB_UP i, 0, false⟩, ⟨10, 1, .ro, fun i _ => F.KOR_TOPO_DUP i, 0, false⟩, ⟨31, 1, .ro, fun i _ => F.KOR_TOPO_VALID i, 0, false⟩]⟩,
  ⟨0x120140, 16, 2, 0, 1, [⟨0, 8, .rw, fun i _ => F.KOR_LINK_CTL_FOM_MIN i, 0, false⟩, ⟨8, 1, .wo, fun i _ => F.KOR_LINK_CTL_RECOVER i, 0, false⟩]⟩,
  ⟨0x120144, 16, 2, 0, 1, [⟨0, 2, .ro, fun i _ => F.KOR_LINK_STAT_STATE i, 0, false⟩, ⟨2, 8, .ro, fun i _ => F.KOR_LINK_STAT_FOM i, 0, false⟩, ⟨10, 1, .ro, fun i _ => F.KOR_LINK_STAT_UP i, 0, false⟩]⟩,
  ⟨0x120148, 16, 2, 0, 1, [⟨0, 32, .ro, fun i _ => F.KOR_PDELAY i, 0, false⟩]⟩,
  ⟨0x12014c, 16, 2, 0, 1, [⟨0, 32, .rw, fun i _ => F.KOR_ASYM i, 0, false⟩]⟩,
  ⟨0x120160, 4, 2, 0, 1, [⟨0, 5, .rw, fun i _ => F.KOR_TX_CTL_PRE i, 0, false⟩, ⟨8, 5, .rw, fun i _ => F.KOR_TX_CTL_POST i, 0, false⟩, ⟨16, 4, .rw, fun i _ => F.KOR_TX_CTL_SWING i, 0, false⟩]⟩,
  ⟨0x120170, 0, 1, 0, 1, [⟨0, 32, .rc, fun _ _ => F.KOR_RX_BAD, 0, false⟩]⟩,
  ⟨0x120174, 0, 1, 0, 1, [⟨0, 32, .rc, fun _ _ => F.KOR_DUP, 0, false⟩]⟩,
  ⟨0x120178, 0, 1, 0, 1, [⟨0, 32, .rc, fun _ _ => F.KOR_DROP, 0, false⟩]⟩,
  ⟨0x12017c, 0, 1, 0, 1, [⟨0, 32, .rc, fun _ _ => F.KOR_UNREACH, 0, false⟩]⟩,
  ⟨0x120200, 0, 1, 0, 1, [⟨0, 1, .wo, fun _ _ => F.KOR_LAUNCH_CMD_GO, 0, false⟩, ⟨1, 1, .wo, fun _ _ => F.KOR_LAUNCH_CMD_KIND, 0, false⟩]⟩,
  ⟨0x120208, 0, 1, 0, 1, [⟨0, 32, .rw, fun _ _ => F.KOR_LAUNCH_LAYER, 0, false⟩]⟩,
  ⟨0x12020c, 0, 1, 0, 1, [⟨0, 8, .rw, fun _ _ => F.KOR_LAUNCH_MEND, 0, false⟩]⟩,
  ⟨0x120210, 0, 1, 0, 1, [⟨0, 32, .rw, fun _ _ => F.KOR_LAUNCH_POS, 0, false⟩]⟩,
  ⟨0x120214, 0, 1, 0, 1, [⟨0, 32, .rw, fun _ _ => F.KOR_LAUNCH_POS, 32, false⟩]⟩,
  ⟨0x120218, 0, 1, 0, 1, [⟨0, 16, .rw, fun _ _ => F.KOR_LAUNCH_FR, 0, false⟩]⟩,
  ⟨0x120220, 0, 1, 0, 1, [⟨0, 32, .rw, fun _ _ => F.KOR_LAUNCH_DL, 0, false⟩]⟩,
  ⟨0x120224, 0, 1, 0, 1, [⟨0, 32, .rw, fun _ _ => F.KOR_LAUNCH_DL, 32, false⟩]⟩]

/-- Words of block KOR. -/
def rowsKOR1 : List RegRow := [
  ⟨0x120228, 0, 1, 0, 1, [⟨0, 32, .rw, fun _ _ => F.KOR_LAUNCH_GRP, 0, false⟩]⟩,
  ⟨0x12022c, 0, 1, 0, 1, [⟨0, 32, .rw, fun _ _ => F.KOR_LAUNCH_GRP, 32, false⟩]⟩,
  ⟨0x120240, 4, 32, 0, 1, [⟨0, 16, .rw, fun i _ => F.KOR_LAUNCH_STRIPE_E i, 0, false⟩, ⟨16, 16, .rw, fun i _ => F.KOR_LAUNCH_STRIPE_O i, 0, false⟩]⟩,
  ⟨0x1202c0, 0, 1, 0, 1, [⟨0, 16, .rw, fun _ _ => F.KOR_LAUNCH_MIN, 0, false⟩]⟩,
  ⟨0x1202c4, 0, 1, 0, 1, [⟨0, 3, .ro, fun _ _ => F.KOR_LAUNCH_STAT_RESULT, 0, false⟩, ⟨3, 1, .ro, fun _ _ => F.KOR_LAUNCH_STAT_HELD, 0, false⟩, ⟨4, 3, .ro, fun _ _ => F.KOR_LAUNCH_STAT_INIT, 0, false⟩, ⟨31, 1, .w1c, fun _ _ => F.KOR_LAUNCH_STAT_VALID, 0, false⟩]⟩,
  ⟨0x1202c8, 0, 1, 0, 1, [⟨0, 32, .ro, fun _ _ => F.KOR_REP_ACC, 0, false⟩]⟩,
  ⟨0x1202cc, 0, 1, 0, 1, [⟨0, 32, .ro, fun _ _ => F.KOR_REP_ACC, 32, false⟩]⟩,
  ⟨0x1202d0, 0, 1, 0, 1, [⟨0, 32, .ro, fun _ _ => F.KOR_REP_REF, 0, false⟩]⟩,
  ⟨0x1202d4, 0, 1, 0, 1, [⟨0, 32, .ro, fun _ _ => F.KOR_REP_REF, 32, false⟩]⟩,
  ⟨0x120300, 0, 1, 0, 1, [⟨6, 26, .rw, fun _ _ => F.KOR_HALO_BASE, 6, false⟩]⟩,
  ⟨0x120304, 0, 1, 0, 1, [⟨0, 3, .rw, fun _ _ => F.KOR_HALO_BASE, 32, false⟩]⟩,
  ⟨0x120308, 0, 1, 0, 1, [⟨0, 4, .rw, fun _ _ => F.KOR_HALO_SLOTS, 0, false⟩]⟩,
  ⟨0x12030c, 0, 1, 0, 1, [⟨0, 16, .rw, fun _ _ => F.KOR_HALO_TMO, 0, false⟩]⟩,
  ⟨0x120310, 0, 1, 0, 1, [⟨0, 1, .wo, fun _ _ => F.KOR_HALO_CMD_RESEND_YLO, 0, false⟩, ⟨1, 1, .wo, fun _ _ => F.KOR_HALO_CMD_RESEND_YHI, 0, false⟩]⟩,
  ⟨0x120314, 0, 1, 0, 1, [⟨0, 4, .ro, fun _ _ => F.KOR_HALO_STAT_USED, 0, false⟩, ⟨4, 1, .ro, fun _ _ => F.KOR_HALO_STAT_BUSY_YLO, 0, false⟩, ⟨5, 1, .ro, fun _ _ => F.KOR_HALO_STAT_BUSY_YHI, 0, false⟩, ⟨6, 1, .w1c, fun _ _ => F.KOR_HALO_STAT_TX_FAIL_YLO, 0, false⟩, ⟨7, 1, .w1c, fun _ _ => F.KOR_HALO_STAT_TX_FAIL_YHI, 0, false⟩, ⟨8, 1, .w1c, fun _ _ => F.KOR_HALO_STAT_NOSLOT, 0, false⟩]⟩,
  ⟨0x120318, 0, 1, 0, 1, [⟨0, 32, .rc, fun _ _ => F.KOR_HALO_RETX, 0, false⟩]⟩,
  ⟨0x120320, 0, 1, 0, 1, [⟨0, 2, .rw, fun _ _ => F.KOR_SYNC_CTL_OUT, 0, false⟩, ⟨2, 1, .rw, fun _ _ => F.KOR_SYNC_CTL_IN_EN, 0, false⟩]⟩]

/-- Words of block TIM. -/
def rowsTIM0 : List RegRow := [
  ⟨0x130000, 0, 1, 0, 1, [⟨0, 1, .rw, fun _ _ => F.TIM_CTL_AUTO, 0, false⟩, ⟨1, 4, .rw, fun _ _ => F.TIM_CTL_KP, 0, false⟩, ⟨5, 5, .rw, fun _ _ => F.TIM_CTL_KI, 0, false⟩, ⟨10, 14, .rw, fun _ _ => F.TIM_CTL_PERIOD, 0, false⟩]⟩,
  ⟨0x130004, 0, 1, 0, 1, [⟨0, 1, .ro, fun _ _ => F.TIM_STAT_VALID, 0, false⟩, ⟨1, 1, .ro, fun _ _ => F.TIM_STAT_LOCKED, 0, false⟩, ⟨2, 1, .ro, fun _ _ => F.TIM_STAT_HOLDOVER, 0, false⟩, ⟨3, 1, .ro, fun _ _ => F.TIM_STAT_RING, 0, false⟩, ⟨4, 1, .ro, fun _ _ => F.TIM_STAT_MASTER, 0, false⟩]⟩,
  ⟨0x130008, 0, 1, 0, 1, [⟨0, 32, .rw, fun _ _ => F.TIM_INC, 0, false⟩]⟩,
  ⟨0x13000c, 0, 1, 0, 1, [⟨0, 32, .rw, fun _ _ => F.TIM_INC, 32, false⟩]⟩,
  ⟨0x130010, 0, 1, 0, 1, [⟨0, 32, .ro, fun _ _ => F.TIM_INC_EFF, 0, false⟩]⟩,
  ⟨0x130014, 0, 1, 0, 1, [⟨0, 32, .ro, fun _ _ => F.TIM_INC_EFF, 32, false⟩]⟩,
  ⟨0x130020, 0, 1, 0, 1, [⟨0, 32, .ro, fun _ _ => F.TIM_NOW, 0, false⟩]⟩,
  ⟨0x130024, 0, 1, 0, 1, [⟨0, 32, .ro, fun _ _ => F.TIM_NOW, 32, false⟩]⟩,
  ⟨0x130028, 0, 1, 0, 1, [⟨0, 16, .ro, fun _ _ => F.TIM_NOW_FR, 0, false⟩]⟩,
  ⟨0x130030, 0, 1, 0, 1, [⟨0, 32, .rw, fun _ _ => F.TIM_SET, 0, false⟩]⟩,
  ⟨0x130034, 0, 1, 0, 1, [⟨0, 32, .rw, fun _ _ => F.TIM_SET, 32, false⟩]⟩,
  ⟨0x130038, 0, 1, 0, 1, [⟨0, 16, .rw, fun _ _ => F.TIM_SET_FR, 0, false⟩]⟩,
  ⟨0x13003c, 0, 1, 0, 1, [⟨0, 1, .wo, fun _ _ => F.TIM_SET_CTL_NOW, 0, false⟩, ⟨1, 1, .wo, fun _ _ => F.TIM_SET_CTL_AT_SYNC_IN, 0, false⟩]⟩,
  ⟨0x130040, 0, 1, 0, 1, [⟨0, 32, .wo, fun _ _ => F.TIM_ADJ, 0, false⟩]⟩,
  ⟨0x130050, 0, 1, 0, 1, [⟨0, 32, .ro, fun _ _ => F.TIM_OFFSET, 0, false⟩]⟩,
  ⟨0x130054, 0, 1, 0, 1, [⟨0, 32, .rc, fun _ _ => F.TIM_OFFSET_MAX, 0, false⟩]⟩,
  ⟨0x130058, 0, 1, 0, 1, [⟨0, 32, .rw, fun _ _ => F.TIM_LOCK_WIN, 0, false⟩]⟩,
  ⟨0x13005c, 0, 1, 0, 1, [⟨0, 32, .rw, fun _ _ => F.TIM_STEP_LIM, 0, false⟩]⟩,
  ⟨0x130060, 0, 1, 0, 1, [⟨0, 32, .ro, fun _ _ => F.TIM_SYNCIN, 0, false⟩]⟩,
  ⟨0x130064, 0, 1, 0, 1, [⟨0, 32, .ro, fun _ _ => F.TIM_SYNCIN, 32, false⟩]⟩,
  ⟨0x130068, 0, 1, 0, 1, [⟨0, 16, .ro, fun _ _ => F.TIM_SYNCIN_FR, 0, false⟩]⟩,
  ⟨0x13006c, 0, 1, 0, 1, [⟨0, 32, .rc, fun _ _ => F.TIM_SYNCIN_CNT, 0, false⟩]⟩,
  ⟨0x130070, 0, 1, 0, 1, [⟨0, 32, .rw, fun _ _ => F.TIM_MARK_PERIOD, 0, false⟩]⟩,
  ⟨0x130080, 0, 1, 0, 1, [⟨0, 1, .rw, fun _ _ => F.TIM_PTP_CTL_EN, 0, false⟩, ⟨1, 1, .rw, fun _ _ => F.TIM_PTP_CTL_UDP, 0, false⟩, ⟨2, 1, .rw, fun _ _ => F.TIM_PTP_CTL_P2P, 0, false⟩, ⟨8, 8, .rw, fun _ _ => F.TIM_PTP_CTL_DOMAIN, 0, false⟩]⟩]

/-- Words of block TIM. -/
def rowsTIM1 : List RegRow := [
  ⟨0x130084, 0, 1, 0, 1, [⟨0, 32, .rw, fun _ _ => F.TIM_PTP_OFS_SEC, 0, false⟩]⟩,
  ⟨0x130088, 0, 1, 0, 1, [⟨0, 16, .rw, fun _ _ => F.TIM_PTP_OFS_SEC, 32, false⟩]⟩,
  ⟨0x13008c, 0, 1, 0, 1, [⟨0, 30, .rw, fun _ _ => F.TIM_PTP_OFS_NS, 0, false⟩]⟩,
  ⟨0x130090, 0, 1, 0, 1, [⟨0, 16, .rw, fun _ _ => F.TIM_PTP_LAT_RX, 0, false⟩, ⟨16, 16, .rw, fun _ _ => F.TIM_PTP_LAT_TX, 0, false⟩]⟩,
  ⟨0x1300a0, 0, 1, 0, 1, [⟨0, 32, .ro, fun _ _ => F.TIM_PTP_RX, 0, false⟩]⟩,
  ⟨0x1300a4, 0, 1, 0, 1, [⟨0, 16, .ro, fun _ _ => F.TIM_PTP_RX, 32, false⟩]⟩,
  ⟨0x1300a8, 0, 1, 0, 1, [⟨0, 16, .ro, fun _ _ => F.TIM_PTP_RX_FR, 0, false⟩]⟩,
  ⟨0x1300ac, 0, 1, 0, 1, [⟨0, 4, .rc, fun _ _ => F.TIM_PTP_RX_ID_TYPE, 0, false⟩, ⟨8, 1, .rc, fun _ _ => F.TIM_PTP_RX_ID_VALID, 0, false⟩, ⟨16, 16, .rc, fun _ _ => F.TIM_PTP_RX_ID_SEQ_ID, 0, false⟩]⟩,
  ⟨0x1300b0, 0, 1, 0, 1, [⟨0, 32, .ro, fun _ _ => F.TIM_PTP_TX, 0, false⟩]⟩,
  ⟨0x1300b4, 0, 1, 0, 1, [⟨0, 16, .ro, fun _ _ => F.TIM_PTP_TX, 32, false⟩]⟩,
  ⟨0x1300b8, 0, 1, 0, 1, [⟨0, 16, .ro, fun _ _ => F.TIM_PTP_TX_FR, 0, false⟩]⟩,
  ⟨0x1300bc, 0, 1, 0, 1, [⟨0, 4, .rc, fun _ _ => F.TIM_PTP_TX_ID_TYPE, 0, false⟩, ⟨8, 1, .rc, fun _ _ => F.TIM_PTP_TX_ID_VALID, 0, false⟩, ⟨16, 16, .rc, fun _ _ => F.TIM_PTP_TX_ID_SEQ_ID, 0, false⟩]⟩]

/-- Words of block CHK. -/
def rowsCHK0 : List RegRow := [
  ⟨0x60000, 64, 8, 0, 1, [⟨0, 1, .rw, fun i _ => F.CHK_CTL_WIDTH i, 0, false⟩]⟩,
  ⟨0x60004, 64, 8, 0, 1, [⟨0, 1, .wo, fun i _ => F.CHK_CMD_INIT i, 0, false⟩]⟩,
  ⟨0x60008, 64, 8, 0, 1, [⟨0, 8, .wo, fun i _ => F.CHK_D8 i, 0, false⟩]⟩,
  ⟨0x6000c, 64, 8, 0, 1, [⟨0, 16, .wo, fun i _ => F.CHK_D16 i, 0, false⟩]⟩,
  ⟨0x60010, 64, 8, 0, 1, [⟨0, 32, .wo, fun i _ => F.CHK_D32 i, 0, false⟩]⟩,
  ⟨0x60014, 64, 8, 0, 1, [⟨0, 32, .wo, fun i _ => F.CHK_FOLD i, 0, false⟩]⟩,
  ⟨0x60018, 64, 8, 0, 1, [⟨0, 32, .wo, fun i _ => F.CHK_FOLD i, 32, false⟩]⟩,
  ⟨0x60020, 64, 8, 0, 1, [⟨0, 32, .rw, fun i _ => F.CHK_VAL i, 0, false⟩]⟩,
  ⟨0x60024, 64, 8, 0, 1, [⟨0, 32, .rw, fun i _ => F.CHK_VAL i, 32, false⟩]⟩,
  ⟨0x60028, 64, 8, 0, 1, [⟨0, 32, .ro, fun i _ => F.CHK_RES i, 0, false⟩]⟩,
  ⟨0x6002c, 64, 8, 0, 1, [⟨0, 32, .ro, fun i _ => F.CHK_RES i, 32, false⟩]⟩,
  ⟨0x60030, 64, 8, 0, 1, [⟨0, 32, .ro, fun i _ => F.CHK_COUNT i, 0, false⟩]⟩]

/-- Words of block MGT. -/
def rowsMGT0 : List RegRow := [
  ⟨0x180000, 0, 1, 0, 1, [⟨0, 1, .rw, fun _ _ => F.MGT_CTL_EN, 0, false⟩, ⟨1, 1, .rw, fun _ _ => F.MGT_CTL_MODE, 0, false⟩, ⟨2, 1, .rw, fun _ _ => F.MGT_CTL_AN_EN, 0, false⟩]⟩,
  ⟨0x180004, 0, 1, 0, 1, [⟨0, 1, .ro, fun _ _ => F.MGT_STAT_LINK, 0, false⟩, ⟨1, 1, .ro, fun _ _ => F.MGT_STAT_AN_DONE, 0, false⟩, ⟨2, 1, .ro, fun _ _ => F.MGT_STAT_REMOTE_FAULT, 0, false⟩]⟩,
  ⟨0x180008, 0, 1, 0, 1, [⟨0, 32, .rc, fun _ _ => F.MGT_RX_DROP, 0, false⟩]⟩]

/-- Words of block VIS. -/
def rowsVIS0 : List RegRow := [
  ⟨0x110000, 256, 2, 0, 1, [⟨0, 1, .rw, fun i _ => F.VIS_PORT_CTL_EN i, 0, false⟩, ⟨1, 2, .rw, fun i _ => F.VIS_PORT_CTL_LANES i, 0, false⟩, ⟨3, 2, .rw, fun i _ => F.VIS_PORT_CTL_CCI_SPEED i, 0, false⟩]⟩,
  ⟨0x110004, 256, 2, 0, 1, [⟨0, 4, .ro, fun i _ => F.VIS_PORT_STAT_LANE_UP i, 0, false⟩, ⟨4, 1, .ro, fun i _ => F.VIS_PORT_STAT_CCI_BUSY i, 0, false⟩]⟩,
  ⟨0x110008, 256, 2, 0, 1, [⟨0, 32, .rc, fun i _ => F.VIS_PORT_UE i, 0, false⟩]⟩,
  ⟨0x11000c, 256, 2, 0, 1, [⟨0, 32, .rc, fun i _ => F.VIS_PORT_OTHER i, 0, false⟩]⟩,
  ⟨0x110010, 256, 2, 0, 1, [⟨6, 26, .rw, fun i _ => F.VIS_DEF_BASE i, 6, false⟩]⟩,
  ⟨0x110014, 256, 2, 0, 1, [⟨0, 3, .rw, fun i _ => F.VIS_DEF_BASE i, 32, false⟩]⟩,
  ⟨0x110018, 256, 2, 0, 1, [⟨0, 17, .rw, fun i _ => F.VIS_DEF_N i, 0, false⟩]⟩,
  ⟨0x111000, 256, 8, 0, 1, [⟨0, 1, .rw, fun i _ => F.VIS_CTX_CTL_EN i, 0, false⟩, ⟨1, 2, .rw, fun i _ => F.VIS_CTX_CTL_DT i, 0, false⟩, ⟨3, 1, .rw, fun i _ => F.VIS_CTX_CTL_STORE i, 0, false⟩, ⟨4, 1, .rw, fun i _ => F.VIS_CTX_CTL_DEF_EN i, 0, false⟩, ⟨5, 1, .rw, fun i _ => F.VIS_CTX_CTL_LSC_EN i, 0, false⟩, ⟨6, 3, .rw, fun i _ => F.VIS_CTX_CTL_LSC_LOG2 i, 0, false⟩, ⟨9, 1, .rw, fun i _ => F.VIS_CTX_CTL_MET_EN i, 0, false⟩, ⟨10, 1, .rw, fun i _ => F.VIS_CTX_CTL_REG_EN i, 0, false⟩]⟩,
  ⟨0x111004, 256, 8, 0, 1, [⟨0, 16, .rw, fun i _ => F.VIS_CTX_SIZE_WIDTH i, 0, false⟩, ⟨16, 16, .rw, fun i _ => F.VIS_CTX_SIZE_HEIGHT i, 0, false⟩]⟩,
  ⟨0x111008, 256, 8, 0, 1, [⟨0, 16, .rw, fun i _ => F.VIS_CTX_BLACK i, 0, false⟩]⟩,
  ⟨0x11100c, 256, 8, 0, 1, [⟨0, 4, .rw, fun i _ => F.VIS_CTX_LAT i, 0, false⟩]⟩,
  ⟨0x111010, 256, 8, 0, 1, [⟨6, 26, .rw, fun i _ => F.VIS_CTX_BASE i, 6, false⟩]⟩,
  ⟨0x111014, 256, 8, 0, 1, [⟨0, 3, .rw, fun i _ => F.VIS_CTX_BASE i, 32, false⟩]⟩,
  ⟨0x111018, 256, 8, 0, 1, [⟨0, 8, .rw, fun i _ => F.VIS_CTX_SLOT_SLOTS i, 0, false⟩, ⟨8, 16, .rw, fun i _ => F.VIS_CTX_SLOT_SIZE i, 0, false⟩]⟩,
  ⟨0x11101c, 256, 8, 0, 1, [⟨0, 20, .rw, fun i _ => F.VIS_CTX_STRIDE i, 0, false⟩]⟩,
  ⟨0x111020, 256, 8, 0, 1, [⟨0, 8, .wo, fun i _ => F.VIS_CTX_REL i, 0, false⟩]⟩,
  ⟨0x111024, 256, 8, 0, 1, [⟨0, 8, .ro, fun i _ => F.VIS_CTX_STAT_FREE i, 0, false⟩, ⟨8, 1, .ro, fun i _ => F.VIS_CTX_STAT_SET_ARMED i, 0, false⟩, ⟨9, 1, .w1c, fun i _ => F.VIS_CTX_STAT_CCI_NAK i, 0, false⟩, ⟨10, 1, .w1c, fun i _ => F.VIS_CTX_STAT_ADDR i, 0, false⟩, ⟨16, 16, .ro, fun i _ => F.VIS_CTX_STAT_TAG i, 0, false⟩]⟩,
  ⟨0x111028, 256, 8, 0, 1, [⟨0, 32, .ro, fun i _ => F.VIS_CTX_FRAME i, 0, false⟩]⟩,
  ⟨0x11102c, 256, 8, 0, 1, [⟨0, 32, .rc, fun i _ => F.VIS_CTX_MARKED i, 0, false⟩]⟩,
  ⟨0x111030, 256, 8, 0, 1, [⟨0, 32, .rc, fun i _ => F.VIS_CTX_CRC i, 0, false⟩]⟩,
  ⟨0x111034, 256, 8, 0, 1, [⟨0, 32, .rc, fun i _ => F.VIS_CTX_ECC i, 0, false⟩]⟩,
  ⟨0x111038, 256, 8, 0, 1, [⟨0, 32, .rc, fun i _ => F.VIS_CTX_DROP i, 0, false⟩]⟩,
  ⟨0x111040, 256, 8, 0, 1, [⟨6, 26, .rw, fun i _ => F.VIS_LSC_BASE i, 6, false⟩]⟩,
  ⟨0x111044, 256, 8, 0, 1, [⟨0, 3, .rw, fun i _ => F.VIS_LSC_BASE i, 32, false⟩]⟩]

/-- Words of block VIS. -/
def rowsVIS1 : List RegRow := [
  ⟨0x111048, 256, 8, 0, 1, [⟨6, 26, .rw, fun i _ => F.VIS_MET_BASE i, 6, false⟩]⟩,
  ⟨0x11104c, 256, 8, 0, 1, [⟨0, 3, .rw, fun i _ => F.VIS_MET_BASE i, 32, false⟩]⟩,
  ⟨0x111050, 256, 8, 0, 1, [⟨6, 26, .rw, fun i _ => F.VIS_REG_BASE i, 6, false⟩]⟩,
  ⟨0x111054, 256, 8, 0, 1, [⟨0, 3, .rw, fun i _ => F.VIS_REG_BASE i, 32, false⟩]⟩,
  ⟨0x111060, 256, 8, 0, 1, [⟨0, 16, .rw, fun i _ => F.VIS_SET_CTL_TAG i, 0, false⟩, ⟨16, 5, .rw, fun i _ => F.VIS_SET_CTL_N i, 0, false⟩]⟩,
  ⟨0x111064, 256, 8, 0, 1, [⟨0, 1, .wo, fun i _ => F.VIS_SET_ARM_ARM i, 0, false⟩]⟩,
  ⟨0x111080, 256, 8, 8, 16, [⟨0, 7, .rw, F.VIS_SET_A_DEV, 0, false⟩, ⟨7, 1, .rw, F.VIS_SET_A_ADDR16, 0, false⟩, ⟨8, 2, .rw, F.VIS_SET_A_DLEN, 0, false⟩, ⟨16, 16, .rw, F.VIS_SET_A_REG, 0, false⟩]⟩,
  ⟨0x111084, 256, 8, 8, 16, [⟨0, 32, .rw, F.VIS_SET_V, 0, false⟩]⟩]

/-- Words of block GAU. -/
def rowsGAU0 : List RegRow := [
  ⟨0x100000, 0, 1, 0, 1, [⟨0, 3, .rw, fun _ _ => F.GAU_RUN_CTL_KIND, 0, false⟩, ⟨3, 3, .rw, fun _ _ => F.GAU_RUN_CTL_CTX, 0, false⟩, ⟨6, 6, .rw, fun _ _ => F.GAU_RUN_CTL_BLOCK, 0, false⟩, ⟨12, 8, .rw, fun _ _ => F.GAU_RUN_CTL_TRIES, 0, false⟩]⟩,
  ⟨0x100004, 0, 1, 0, 1, [⟨0, 1, .wo, fun _ _ => F.GAU_RUN_CMD_START, 0, false⟩, ⟨1, 1, .wo, fun _ _ => F.GAU_RUN_CMD_CANCEL, 0, false⟩]⟩,
  ⟨0x100008, 0, 1, 0, 1, [⟨0, 2, .ro, fun _ _ => F.GAU_RUN_STAT_STATE, 0, false⟩, ⟨2, 1, .w1c, fun _ _ => F.GAU_RUN_STAT_REFUSED, 0, false⟩, ⟨8, 8, .ro, fun _ _ => F.GAU_RUN_STAT_FRAMES, 0, false⟩, ⟨16, 13, .ro, fun _ _ => F.GAU_RUN_STAT_ACCEPTED, 0, false⟩]⟩,
  ⟨0x10000c, 0, 1, 0, 1, [⟨0, 16, .rw, fun _ _ => F.GAU_RUN_TAG, 0, false⟩]⟩,
  ⟨0x100010, 0, 1, 0, 1, [⟨0, 16, .rw, fun _ _ => F.GAU_TOL_GAIN, 0, false⟩, ⟨16, 16, .rw, fun _ _ => F.GAU_TOL_TRIM, 0, false⟩]⟩,
  ⟨0x100014, 0, 1, 0, 1, [⟨0, 32, .rw, fun _ _ => F.GAU_GAIN_REF, 0, false⟩]⟩,
  ⟨0x100018, 0, 1, 0, 1, [⟨0, 24, .rw, fun _ _ => F.GAU_PIX_CODE, 0, false⟩]⟩,
  ⟨0x10001c, 0, 1, 0, 1, [⟨0, 32, .rw, fun _ _ => F.GAU_PIX_PU, 0, false⟩]⟩,
  ⟨0x100020, 0, 1, 0, 1, [⟨0, 32, .rw, fun _ _ => F.GAU_SENS_DELTA, 0, false⟩]⟩,
  ⟨0x100024, 0, 1, 0, 1, [⟨0, 8, .rw, fun _ _ => F.GAU_SETTLE, 0, false⟩]⟩,
  ⟨0x100030, 0, 1, 0, 1, [⟨6, 26, .rw, fun _ _ => F.GAU_TGT_BASE, 6, false⟩]⟩,
  ⟨0x100034, 0, 1, 0, 1, [⟨0, 3, .rw, fun _ _ => F.GAU_TGT_BASE, 32, false⟩]⟩,
  ⟨0x100038, 0, 1, 0, 1, [⟨0, 7, .rw, fun _ _ => F.GAU_GAIN_CTL, 0, false⟩]⟩,
  ⟨0x10003c, 0, 1, 0, 1, [⟨0, 1, .wo, fun _ _ => F.GAU_GAIN_CMD_STAGE, 0, false⟩, ⟨1, 1, .wo, fun _ _ => F.GAU_GAIN_CMD_UNSTAGE, 0, false⟩]⟩,
  ⟨0x100040, 0, 1, 0, 1, [⟨0, 7, .ro, fun _ _ => F.GAU_GAIN_STAT_STEP, 0, false⟩, ⟨7, 1, .ro, fun _ _ => F.GAU_GAIN_STAT_STAGED, 0, false⟩, ⟨8, 7, .ro, fun _ _ => F.GAU_GAIN_STAT_K, 0, false⟩, ⟨15, 1, .w1c, fun _ _ => F.GAU_GAIN_STAT_ADDR, 0, false⟩, ⟨16, 1, .w1c, fun _ _ => F.GAU_GAIN_STAT_POISON, 0, false⟩]⟩,
  ⟨0x100048, 0, 1, 0, 1, [⟨0, 32, .ro, fun _ _ => F.GAU_STALE, 0, false⟩]⟩,
  ⟨0x10004c, 0, 1, 0, 1, [⟨0, 32, .ro, fun _ _ => F.GAU_STALE, 32, false⟩]⟩,
  ⟨0x100050, 4, 4, 0, 1, [⟨0, 32, .ro, fun i _ => F.GAU_TRIM_TGT i, 0, false⟩]⟩,
  ⟨0x100060, 0, 1, 0, 1, [⟨0, 16, .rw, fun _ _ => F.GAU_TRIM_CTL_INTERVAL, 0, false⟩, ⟨16, 4, .rw, fun _ _ => F.GAU_TRIM_CTL_EN, 0, false⟩]⟩,
  ⟨0x100064, 0, 1, 0, 1, [⟨0, 4, .ro, fun _ _ => F.GAU_TRIM_STAT_STALE, 0, false⟩, ⟨4, 4, .ro, fun _ _ => F.GAU_TRIM_STAT_STEPPING, 0, false⟩]⟩,
  ⟨0x100068, 0, 1, 0, 1, [⟨0, 32, .rc, fun _ _ => F.GAU_RANGE, 0, false⟩]⟩,
  ⟨0x10006c, 0, 1, 0, 1, [⟨0, 32, .rc, fun _ _ => F.GAU_DISAGREE, 0, false⟩]⟩]

/-- Words of block WCH. -/
def rowsWCH0 : List RegRow := [
  ⟨0x20000, 0, 1, 0, 1, [⟨0, 24, .rw, fun _ _ => F.WCH_ESC_T, 0, false⟩]⟩,
  ⟨0x20004, 0, 1, 0, 1, [⟨0, 7, .wo, fun _ _ => F.WCH_ACK, 0, false⟩]⟩,
  ⟨0x20008, 0, 1, 0, 1, [⟨0, 1, .wo, fun _ _ => F.WCH_FAULTN_RELEASE, 0, false⟩, ⟨1, 1, .ro, fun _ _ => F.WCH_FAULTN_DRIVEN, 0, false⟩, ⟨2, 1, .ro, fun _ _ => F.WCH_FAULTN_PIN, 0, false⟩, ⟨3, 1, .ro, fun _ _ => F.WCH_FAULTN_REL_PEND, 0, false⟩, ⟨4, 1, .w1c, fun _ _ => F.WCH_FAULTN_REL_REFUSED, 0, false⟩]⟩,
  ⟨0x2000c, 0, 1, 0, 1, [⟨0, 32, .rc, fun _ _ => F.WCH_LOST, 0, false⟩]⟩,
  ⟨0x20010, 4, 4, 0, 1, [⟨0, 32, .ro, fun i _ => F.WCH_SEVERE i, 0, false⟩]⟩,
  ⟨0x20020, 4, 4, 0, 1, [⟨0, 32, .ro, fun i _ => F.WCH_FIRST i, 0, false⟩]⟩,
  ⟨0x20030, 0, 1, 0, 1, [⟨0, 1, .w1c, fun _ _ => F.WCH_FIRST_STAT_VALID, 0, false⟩]⟩,
  ⟨0x20040, 4, 4, 0, 1, [⟨0, 32, .ro, fun i _ => F.WCH_RST_CAUSE i, 0, false⟩]⟩,
  ⟨0x20050, 0, 1, 0, 1, [⟨0, 1, .w1c, fun _ _ => F.WCH_RST_STAT_VALID, 0, false⟩]⟩,
  ⟨0x21000, 32, 128, 0, 1, [⟨0, 8, .rw, fun i _ => F.WCH_SRC_CTL_N i, 0, false⟩, ⟨8, 3, .rw, fun i _ => F.WCH_SRC_CTL_REACT i, 0, false⟩, ⟨12, 3, .rw, fun i _ => F.WCH_SRC_CTL_ESC i, 0, false⟩, ⟨15, 1, .rw, fun i _ => F.WCH_SRC_CTL_RING i, 0, false⟩]⟩,
  ⟨0x21004, 32, 128, 0, 1, [⟨0, 30, .rw, fun i _ => F.WCH_SRC_WIN i, 0, false⟩]⟩,
  ⟨0x21008, 32, 128, 0, 1, [⟨0, 1, .w1c, fun i _ => F.WCH_SRC_STAT_SEVERE i, 0, false⟩, ⟨1, 1, .ro, fun i _ => F.WCH_SRC_STAT_ESCALATED i, 0, false⟩, ⟨2, 1, .ro, fun i _ => F.WCH_SRC_STAT_TIMER i, 0, false⟩, ⟨3, 1, .ro, fun i _ => F.WCH_SRC_STAT_CAUSE i, 0, false⟩, ⟨4, 1, .ro, fun i _ => F.WCH_SRC_STAT_CAUSE_GONE i, 0, false⟩, ⟨5, 1, .w1c, fun i _ => F.WCH_SRC_STAT_CLEAR_REFUSED i, 0, false⟩, ⟨6, 1, .ro, fun i _ => F.WCH_SRC_STAT_LEVEL i, 0, false⟩, ⟨7, 1, .w1c, fun i _ => F.WCH_SRC_STAT_OVF i, 0, false⟩, ⟨8, 8, .ro, fun i _ => F.WCH_SRC_STAT_WCOUNT i, 0, false⟩]⟩,
  ⟨0x2100c, 32, 128, 0, 1, [⟨0, 32, .rc, fun i _ => F.WCH_SRC_CNT i, 0, false⟩]⟩,
  ⟨0x21010, 32, 128, 4, 4, [⟨0, 32, .ro, F.WCH_SRC_MSG, 0, false⟩]⟩]

/-- Words of block DBK. -/
def rowsDBK0 : List RegRow := [
  ⟨0x30000, 0, 1, 0, 1, [⟨0, 32, .ro, fun _ _ => F.DBK_SEQ, 0, false⟩]⟩,
  ⟨0x30008, 0, 1, 0, 1, [⟨0, 8, .rw, fun _ _ => F.DBK_RATE_N, 0, false⟩, ⟨8, 24, .rw, fun _ _ => F.DBK_RATE_W, 0, false⟩]⟩,
  ⟨0x3000c, 0, 1, 0, 1, [⟨0, 32, .rc, fun _ _ => F.DBK_SUPP, 0, false⟩]⟩,
  ⟨0x30100, 32, 8, 0, 1, [⟨0, 16, .rw, fun i _ => F.DBK_WR_CODE_CODE i, 0, false⟩]⟩,
  ⟨0x30104, 32, 8, 4, 3, [⟨0, 32, .rw, F.DBK_WR_ARG, 0, false⟩]⟩,
  ⟨0x30110, 32, 8, 0, 1, [⟨0, 1, .wo, fun i _ => F.DBK_WR_GO_GO i, 0, false⟩]⟩]

/-- Words of block LGR. -/
def rowsLGR0 : List RegRow := [
  ⟨0x40000, 0, 1, 0, 1, [⟨0, 8, .rw, fun _ _ => F.LGR_CTL_TC_LOW, 0, false⟩, ⟨8, 8, .rw, fun _ _ => F.LGR_CTL_TC_HIGH, 0, false⟩]⟩,
  ⟨0x40004, 0, 1, 0, 1, [⟨0, 1, .ro, fun _ _ => F.LGR_STAT_CAL_VALID, 0, false⟩, ⟨1, 1, .ro, fun _ _ => F.LGR_STAT_BUSY, 0, false⟩, ⟨2, 1, .ro, fun _ _ => F.LGR_STAT_PENDING, 0, false⟩, ⟨3, 11, .ro, fun _ _ => F.LGR_STAT_BAD, 0, false⟩]⟩,
  ⟨0x40008, 0, 1, 0, 1, [⟨0, 1, .wo, fun _ _ => F.LGR_CMD_WRITE, 0, false⟩, ⟨1, 1, .wo, fun _ _ => F.LGR_CMD_CAL_SET, 0, false⟩]⟩,
  ⟨0x40010, 0, 1, 0, 1, [⟨0, 32, .ro, fun _ _ => F.LGR_CAL, 0, false⟩]⟩,
  ⟨0x40014, 0, 1, 0, 1, [⟨0, 32, .ro, fun _ _ => F.LGR_CAL, 32, false⟩]⟩,
  ⟨0x40018, 0, 1, 0, 1, [⟨0, 32, .rw, fun _ _ => F.LGR_CAL_SET, 0, false⟩]⟩,
  ⟨0x4001c, 0, 1, 0, 1, [⟨0, 32, .rw, fun _ _ => F.LGR_CAL_SET, 32, false⟩]⟩,
  ⟨0x48000, 4, 4096, 0, 1, [⟨0, 32, .ro, fun i _ => F.LGR_WORK i, 0, false⟩]⟩]

/-- Words of block PWR. -/
def rowsPWR0 : List RegRow := [
  ⟨0x10000, 0, 1, 0, 1, [⟨0, 2, .rw, fun _ _ => F.PWR_STATE_REQ, 0, false⟩]⟩,
  ⟨0x10004, 0, 1, 0, 1, [⟨0, 2, .ro, fun _ _ => F.PWR_STATE_STAT_STATE, 0, false⟩, ⟨2, 1, .ro, fun _ _ => F.PWR_STATE_STAT_TRANS, 0, false⟩, ⟨3, 1, .w1c, fun _ _ => F.PWR_STATE_STAT_REFUSED, 0, false⟩, ⟨4, 1, .ro, fun _ _ => F.PWR_STATE_STAT_NO_FORME, 0, false⟩]⟩,
  ⟨0x10008, 0, 1, 0, 1, [⟨0, 2, .rw, fun _ _ => F.PWR_DOM_REQ, 0, false⟩]⟩,
  ⟨0x1000c, 0, 1, 0, 1, [⟨0, 12, .ro, fun _ _ => F.PWR_DOM_STAT_ON, 0, false⟩, ⟨12, 12, .ro, fun _ _ => F.PWR_DOM_STAT_RST, 0, false⟩]⟩,
  ⟨0x10010, 0, 1, 0, 1, [⟨0, 12, .rw, fun _ _ => F.PWR_BUDGET, 0, false⟩]⟩,
  ⟨0x10014, 0, 1, 0, 1, [⟨0, 12, .ro, fun _ _ => F.PWR_SEQ_STAT_QUEUED, 0, false⟩, ⟨12, 5, .ro, fun _ _ => F.PWR_SEQ_STAT_NWIN, 0, false⟩, ⟨17, 1, .ro, fun _ _ => F.PWR_SEQ_STAT_BURST, 0, false⟩]⟩,
  ⟨0x10018, 0, 1, 0, 1, [⟨0, 32, .rc, fun _ _ => F.PWR_LAT_MAX, 0, false⟩]⟩,
  ⟨0x1001c, 0, 1, 0, 1, [⟨0, 3, .ro, fun _ _ => F.PWR_RST_CAUSE, 0, false⟩]⟩]

/-- Words of block SEC. -/
def rowsSEC0 : List RegRow := [
  ⟨0x160000, 0, 1, 0, 1, [⟨0, 2, .ro, fun _ _ => F.SEC_LIFE, 0, false⟩]⟩,
  ⟨0x160004, 0, 1, 0, 1, [⟨0, 4, .wo, fun _ _ => F.SEC_CMD_OP, 0, false⟩, ⟨8, 5, .wo, fun _ _ => F.SEC_CMD_SLOT, 0, false⟩]⟩,
  ⟨0x160008, 0, 1, 0, 1, [⟨0, 4, .ro, fun _ _ => F.SEC_STAT_OP, 0, false⟩, ⟨4, 4, .ro, fun _ _ => F.SEC_STAT_RESULT, 0, false⟩, ⟨31, 1, .w1c, fun _ _ => F.SEC_STAT_VALID, 0, false⟩]⟩,
  ⟨0x16000c, 0, 1, 0, 1, [⟨0, 24, .ro, fun _ _ => F.SEC_SLOTS, 0, false⟩]⟩,
  ⟨0x160010, 0, 1, 0, 1, [⟨0, 6, .w1c, fun _ _ => F.SEC_ALARM, 0, false⟩]⟩,
  ⟨0x160014, 0, 1, 0, 1, [⟨0, 8, .ro, fun _ _ => F.SEC_AUTHFAIL, 0, false⟩]⟩,
  ⟨0x160020, 0, 1, 0, 1, [⟨6, 26, .rw, fun _ _ => F.SEC_FORME_ADDR, 6, false⟩]⟩,
  ⟨0x160024, 0, 1, 0, 1, [⟨0, 3, .rw, fun _ _ => F.SEC_FORME_ADDR, 32, false⟩]⟩,
  ⟨0x160028, 0, 1, 0, 1, [⟨0, 32, .rw, fun _ _ => F.SEC_FORME_LEN, 0, false⟩]⟩,
  ⟨0x16002c, 0, 1, 0, 1, [⟨0, 1, .wo, fun _ _ => F.SEC_FORME_CMD_LOAD, 0, false⟩, ⟨1, 1, .wo, fun _ _ => F.SEC_FORME_CMD_PERSIST, 0, false⟩]⟩,
  ⟨0x160030, 0, 1, 0, 1, [⟨0, 4, .ro, fun _ _ => F.SEC_FORME_STAT_RESULT, 0, false⟩, ⟨4, 1, .ro, fun _ _ => F.SEC_FORME_STAT_BUSY, 0, false⟩, ⟨5, 1, .ro, fun _ _ => F.SEC_FORME_STAT_PERSIST_BUSY, 0, false⟩, ⟨6, 1, .ro, fun _ _ => F.SEC_FORME_STAT_FLASH_SLOT, 0, false⟩, ⟨8, 3, .ro, fun _ _ => F.SEC_FORME_STAT_SECTION, 0, false⟩, ⟨31, 1, .w1c, fun _ _ => F.SEC_FORME_STAT_VALID, 0, false⟩]⟩,
  ⟨0x160034, 0, 1, 0, 1, [⟨0, 32, .ro, fun _ _ => F.SEC_FORME_OFS, 0, false⟩]⟩,
  ⟨0x160038, 0, 1, 0, 1, [⟨0, 32, .ro, fun _ _ => F.SEC_FORME_VER, 0, false⟩]⟩,
  ⟨0x16003c, 0, 1, 0, 1, [⟨0, 8, .ro, fun _ _ => F.SEC_ROLLBACK, 0, false⟩]⟩,
  ⟨0x160040, 4, 12, 0, 1, [⟨0, 32, .ro, fun i _ => F.SEC_FORME_HASH i, 0, false⟩]⟩,
  ⟨0x160100, 4, 64, 0, 1, [⟨0, 32, .wo, fun i _ => F.SEC_BLOB i, 0, false⟩]⟩,
  ⟨0x160200, 4, 24, 0, 1, [⟨0, 32, .ro, fun i _ => F.SEC_PUB i, 0, false⟩]⟩,
  ⟨0x160260, 4, 24, 0, 1, [⟨0, 32, .ro, fun i _ => F.SEC_SIG i, 0, false⟩]⟩,
  ⟨0x160300, 4, 8, 0, 1, [⟨0, 32, .ro, fun i _ => F.SEC_DBG_NONCE i, 0, false⟩]⟩,
  ⟨0x160320, 0, 1, 0, 1, [⟨0, 1, .wo, fun _ _ => F.SEC_DBG_CTL_UNLOCK, 0, false⟩, ⟨1, 1, .wo, fun _ _ => F.SEC_DBG_CTL_LOCK, 0, false⟩]⟩,
  ⟨0x160324, 0, 1, 0, 1, [⟨0, 1, .ro, fun _ _ => F.SEC_DBG_STAT_OPEN, 0, false⟩, ⟨1, 3, .ro, fun _ _ => F.SEC_DBG_STAT_SCOPE, 0, false⟩, ⟨4, 4, .ro, fun _ _ => F.SEC_DBG_STAT_RESULT, 0, false⟩, ⟨31, 1, .w1c, fun _ _ => F.SEC_DBG_STAT_VALID, 0, false⟩]⟩,
  ⟨0x160400, 4, 64, 0, 1, [⟨0, 32, .wo, fun i _ => F.SEC_TOKEN i, 0, false⟩]⟩]

/-- Words of block JRN. -/
def rowsJRN0 : List RegRow := [
  ⟨0x190000, 32, 8, 0, 1, [⟨0, 2, .ro, fun i _ => F.JRN_STAT_STATE i, 0, false⟩, ⟨8, 8, .ro, fun i _ => F.JRN_STAT_TRAP i, 0, false⟩]⟩,
  ⟨0x190004, 32, 8, 0, 1, [⟨0, 24, .rw, fun i _ => F.JRN_WDOG i, 0, false⟩]⟩,
  ⟨0x190008, 32, 8, 0, 1, [⟨0, 1, .wo, fun i _ => F.JRN_KICK i, 0, false⟩]⟩,
  ⟨0x19000c, 32, 8, 0, 1, [⟨0, 1, .wo, fun i _ => F.JRN_MB_POST i, 0, false⟩]⟩,
  ⟨0x190100, 64, 8, 4, 8, [⟨0, 32, .ro, F.JRN_MB_OUT, 0, false⟩]⟩,
  ⟨0x190120, 64, 8, 4, 8, [⟨0, 32, .rw, F.JRN_MB_IN, 0, false⟩]⟩]

/-- Every register of the block registers (R700). -/
def regRows : List RegRow :=
  rowsESC0 ++ rowsESC1 ++ rowsPRT0 ++ rowsPRT1 ++ rowsCMP0 ++ rowsCMP1 ++ rowsCMP2 ++ rowsPLT0 ++ rowsMEM0 ++ rowsSRM0 ++ rowsHED0 ++ rowsBDL0 ++ rowsGOV0 ++ rowsGOV1 ++ rowsTOP0 ++ rowsASY0 ++ rowsASY1 ++ rowsKOR0 ++ rowsKOR1 ++ rowsTIM0 ++ rowsTIM1 ++ rowsCHK0 ++ rowsMGT0 ++ rowsVIS0 ++ rowsVIS1 ++ rowsGAU0 ++ rowsWCH0 ++ rowsDBK0 ++ rowsLGR0 ++ rowsPWR0 ++ rowsSEC0 ++ rowsJRN0

/-- The fields whose writes take effect at stripe start (R15). -/
def stripeStartFlds : List Fld := [F.PLT_CKPT_BASE, F.PLT_CTL_DEPTH, F.PLT_TALLY_RING, F.BDL_ACK_TMO, F.ESC_FIX, F.ESC_SLIP_MAX, F.GOV_DEF_LAT, F.GOV_DEF_MARGIN, F.ASY_DARN_RESERVE]

/-- The context registers whose writes take effect at the next start of frame (R15), of context c. -/
def frameFlds (c : Nat) : List Fld := [F.VIS_CTX_CTL_EN c, F.VIS_CTX_CTL_DT c, F.VIS_CTX_CTL_STORE c, F.VIS_CTX_CTL_DEF_EN c, F.VIS_CTX_CTL_LSC_EN c, F.VIS_CTX_CTL_LSC_LOG2 c, F.VIS_CTX_CTL_MET_EN c, F.VIS_CTX_CTL_REG_EN c, F.VIS_CTX_SIZE_WIDTH c, F.VIS_CTX_SIZE_HEIGHT c, F.VIS_CTX_BLACK c, F.VIS_CTX_BASE c, F.VIS_CTX_SLOT_SLOTS c, F.VIS_CTX_SLOT_SIZE c, F.VIS_CTX_STRIDE c, F.VIS_LSC_BASE c, F.VIS_MET_BASE c, F.VIS_REG_BASE c]

/-- The port registers whose writes take effect at the next start of frame (R15), of port p. -/
def framePortFlds (p : Nat) : List Fld := [F.VIS_DEF_BASE p, F.VIS_DEF_N p]

end Sys2Proof.Machine
end

