-- ==== Sys2Proof/Machine/State.lean ====
section
/-! DEFINITION. State: everything the spec gives the FX-512, as plain data, with the state after reset.
Register fields live in the stores regs, force and strip, through the map of RegMap.lean; what the registers do not
show lives in one sub-structure per block.  Times are in units of 1/1320 ns (log entry 1). -/

namespace Sys2Proof.Machine
open Sys2Proof

/-- The reasons a step can stop as a fault: none.  Every command of this block has an effect the spec gives. -/
inductive Fault where
  deriving DecidableEq, Repr

/-- The reasons a step can be refused.  notModelled is raised by an arm of exec that has no meaning yet (safe: it stops). -/
inductive Refusal where
  | notModelled (mnemonic : String)
  deriving DecidableEq, Repr

/-! ## Machine time and free values -/

/-- A stretch of machine time that has ended (R713): before the instant till, it ran from the value of a tick with the effective
increment of that tick. -/
structure TimeLaw where
  till : Nat
  tick : Nat
  value : Nat
  inc : Nat
  deriving DecidableEq, Repr

/-- Machine time (R481, R713) and the time of the model. -/
structure Clk where
  /-- The present instant in 1/1320 ns. -/
  now : Nat
  /-- Machine time at the last CK_RING tick, in 2^-32 ns (96 bits). -/
  mtime : Nat
  /-- The instant of that tick, and its effective increment. -/
  tickAt : Nat
  tickInc : Nat
  /-- Since when the present law of machine time holds, and the laws before it, newest first, at most 64. -/
  since : Nat
  past : List TimeLaw
  /-- The instants of the last periodic events, by their code in Ops. -/
  beats : SMap Nat
  /-- Free values taken so far: the argument of the next Config.free. -/
  freeN : Nat
  deriving DecidableEq, Repr

/-! ## Pins and supplies (chapter 17) -/

/-- Levels on the lands and supplies that rules read. -/
structure Pins where
  vinOk : Bool
  vinLow : Bool
  /-- VIN is at or above 4.5 V and feeds PD_AON (R677). -/
  vinFeeds : Bool
  vbakOk : Bool
  /-- VBAK is gone: PD_AON has nothing to live on but VIN (R652, R677). -/
  vbakGone : Bool
  refclk : Bool
  /-- The instant from which REFCLK has been present for 100 µs (R683). -/
  refclkAt : Nat
  /-- The PLL of CK_RING is locked: the ring transmitters send (R464). -/
  ringPll : Bool
  resetN : Bool
  perstN : Bool
  /-- BEAM_INHIBIT_N: the time of its last rise while high, none while low. -/
  inhHighSince : Option Nat
  /-- FAULT_N pulled low by another part on the line. -/
  faultOther : Bool
  /-- EXTEST, CLAMP or HIGHZ selected (R659). -/
  extest : Bool
  dieTemp : Int
  deriving DecidableEq, Repr

/-! ## Watch, Daybook, Ledger (chapter 15) -/

/-- An event waiting in a source's synchroniser queue (R588). -/
structure WEv where
  kind : Nat
  addr : Nat
  deriving DecidableEq, Repr

/-- What the Watch keeps of one source beyond its registers (R591, R603). -/
structure WSrc where
  queue : List WEv
  wopen : Bool
  wstart : Nat
  /-- W at the opening of the window, ns. -/
  wlen : Nat
  deadline : Option Nat
  /-- The highest code applied by the reaction or an escalation since the source became SEVERE. -/
  applied : Nat
  deriving DecidableEq, Repr

/-- An idle source. -/
def WSrc.idle : WSrc := ⟨[], false, 0, 0, none, 0⟩

/-- A 128-bit fault message (R586). -/
structure FMsg where
  source : Nat
  sev : Nat
  sub : Nat
  kind : Nat
  addr : Nat
  time : Nat
  seq : Nat
  deriving DecidableEq, Repr

/-- A block reset that waits for its stripe to stop (R599): the domains, the latest time. -/
structure BlkRst where
  doms : List Dom
  latest : Nat
  deriving DecidableEq, Repr

/-- The Watch (R586 to R610). -/
structure Watch where
  src : SMap WSrc
  /-- Messages issued since the reset of PD_CTRL. -/
  msgs : Nat
  /-- The end of the FAULT_N minimum, which outlives a reset of PD_CTRL (R600, R608). -/
  faultMinEnd : Nat
  /-- The instant of the last assertion of FAULT_N (R609). -/
  faultAt : Option Nat
  /-- The source that asserted FAULT_N last (R614). -/
  faultSrc : Nat
  blockResets : List BlkRst
  /-- The time at which a CHIP_RESET falls due (R600). -/
  chipReset : Option Nat
  deriving DecidableEq, Repr

/-- A Daybook record (R612). -/
structure DRec where
  seq : Nat
  code : Nat
  source : Nat
  flags : Nat
  time : Nat
  arg0 : Nat
  arg1 : Nat
  arg2 : Nat
  deriving DecidableEq, Repr

/-- The rate limit state of one record code (R615). -/
structure DRate where
  opened : Bool
  start : Nat
  len : Nat
  count : Nat
  supp : Nat
  deriving DecidableEq, Repr

/-- The Daybook: records by slot, rate limits by code (a FAULT code by source: 0x10000 + source). -/
structure Daybook where
  slots : SMap DRec
  rates : SMap DRate
  deriving DecidableEq, Repr

/-- A Head record of the Ledger (R620, R621). -/
structure HeadRec where
  id : Nat
  shots : Nat
  lastSeen : Nat
  usage : SMap Nat
  deriving DecidableEq, Repr

/-- The Ledger's working copy (R617, R621). -/
structure LCopy where
  calendar : Nat
  powerOn : Nat
  vinEnergy : Nat
  laneOn : Nat
  memCe : Nat
  thermal : Nat
  formeLoads : Nat
  tamper : Nat
  starts : Nat
  cfgEpoch : Nat
  gainEpoch : Nat
  formeEpoch : Nat
  shots : Nat
  heads : SMap HeadRec
  deriving DecidableEq, Repr

/-- A journal entry in flash (R621): its fields, and whether the slot holds it whole (R680). -/
structure JEntry where
  reason : Nat
  jseq : Nat
  calValid : Bool
  copy : LCopy
  whole : Bool
  deriving DecidableEq, Repr

/-- The Ledger (R617 to R623). -/
structure Ledger where
  copy : LCopy
  /-- VIN energy below one joule, in microwatt milliseconds (nJ). -/
  energyFrac : Nat
  /-- Thermal cycle counting is primed by a reading at or below TC_LOW. -/
  thermArmed : Bool
  journal : SMap JEntry
  badSlots : List Nat
  lastSlot : Option Nat
  jseq : Nat
  /-- The calendar second of the previous entry's POWER-ON clock, in model time. -/
  lastEntry : Option Nat
  /-- POWER_ON_S at the last periodic entry. -/
  lastPeriodic : Nat
  deriving DecidableEq, Repr

/-! ## Power, Forme, security, cores (chapter 16) -/

/-- A stage of a burst (R667): domain index, mA, last of its domain. -/
structure PStage where
  dom : Nat
  mA : Nat
  last : Bool
  deriving DecidableEq, Repr

/-- The power sequencer and the power state machine (R664 to R669). -/
structure Pwr where
  /-- Requests waiting: domain index and time of request. -/
  reqs : SMap Nat
  /-- Stages of the burst not yet admitted. -/
  stages : List PStage
  /-- Stages admitted in the open window. -/
  admitted : List PStage
  /-- Budget of the burst. -/
  budget : Nat
  /-- End of the open window. -/
  windowEnd : Nat
  /-- Domains of the burst with their request times. -/
  burst : SMap Nat
  /-- Domains to be switched off once their admitted stages complete. -/
  offAfter : List Nat
  /-- Domains on and still in reset: when they leave it, and when they were requested. -/
  leaving : SMap (Nat × Nat)
  /-- Domains held off and when they are requested again. -/
  again : SMap Nat
  /-- Target of the transition in progress. -/
  target : Option Nat
  /-- The domains that the transition powers up and that have not left reset since it began (R664, R665). -/
  needs : List Nat
  /-- A state request written during a transition (R665), with the failing slots of its journal entry (R622). -/
  waiting : Option (Nat × Nat)
  /-- The part is in BACKUP. -/
  backup : Bool
  deriving DecidableEq, Repr

/-- A sparse byte image: unlisted bytes are 0. -/
abbrev Image := List Host.Cell

/-- Module flash: two resident Forme slots, the characterised HBM delays (R263, R642). -/
structure Flash where
  slotA : Image
  slotB : Image
  delays : SMap Nat
  trfc : Nat
  deriving DecidableEq, Repr

/-- A slot of the Strongbox (R652). -/
inductive SboxSlot where
  | layout (key : Nat)
  | wrap (priv : Nat)
  | head (key : Nat)
  deriving DecidableEq, Repr

/-- Locksmith and the Strongbox. -/
structure Sec where
  slots : SMap SboxSlot
  seed : Option Nat
  /-- Key hashes KH0..KH3 (fused) and their revocation bits. -/
  keyHash : SMap Nat
  revoked : List Nat
  /-- Time of a first ADVANCE waiting for its second. -/
  advanceAt : Option Nat
  /-- AUTH class window: start, open. -/
  authOpen : Bool
  authStart : Nat
  /-- Alarms latched in BACKUP: class to the slots erased plus 2^24 times the level. -/
  backupAlarms : SMap Nat
  /-- Conditions of the level classes MESH and TAMP that hold now. -/
  levels : List Nat
  /-- The image being persisted. -/
  persist : Option Image
  /-- The nonce of debug tokens is still to be drawn since the last reset of PD_AON (R672). -/
  nonceDue : Bool
  deriving DecidableEq, Repr

/-- One Journeyman core (R648). -/
structure Core where
  entry : Nat
  nmi : Bool
  nmiCount : Nat
  lastKick : Nat
  mbEvents : Nat
  /-- Bus errors taken (R258, R275). -/
  busErrors : Nat
  deriving DecidableEq, Repr

/-- A core in reset. -/
def Core.idle : Core := ⟨0, false, 0, 0, 0, 0⟩

/-! ## HBM and SRAM (chapter 7) -/

/-- A tile in the Galley (R248 to R254). -/
structure Tile where
  stripe : Nat
  cycle : Nat
  lane : Nat
  addr : Nat
  len : Nat
  deriving DecidableEq, Repr

/-- A published cycle (R253): its publish sequence, stripe and cycle. -/
structure PubCycle where
  seq : Nat
  stripe : Nat
  cycle : Nat
  deriving DecidableEq, Repr

/-- The HBM stack, its controller and the Galley. -/
structure Mem where
  /-- Bytes that differ from 0, by rising address. -/
  cells : List Host.Cell
  /-- Units left poisoned by a part write whose merge read was poisoned (R716), by unit number. -/
  poison : List Nat
  /-- Reads delivered poisoned that their source has not taken yet (R257, R264): source code and unit. -/
  hurt : List (Nat × Nat)
  /-- Writes not accepted yet, oldest first (R263): source code, address, bytes. -/
  waiting : List (Nat × Nat × List Byte)
  /-- Refresh debt by bank. -/
  debt : SMap Nat
  /-- The instant RUN_ACK rose; the instant to which the tREFI of a bank has been counted; the end of its last refresh; the
  last temperature reading (R259, R260, R262). -/
  runAt : Nat
  refAt : SMap Nat
  refEnd : SMap Nat
  tempAt : Option Nat
  /-- Write pointer of each lane ring. -/
  wptr : SMap Nat
  /-- Tiles in the Galley not yet released, oldest first. -/
  tiles : List Tile
  /-- Cycles published and not yet released. -/
  published : List PubCycle
  deriving DecidableEq, Repr

/-- One SRAM array (R268 to R278).  A stored bit is the bit as written, flipped where an upset stands: the row parity of
a byte and the column parity of a block are those of the words as written. -/
structure Sram where
  /-- The words written, by word index; an unlisted word is 0.  Used for arrays 0 and 1: array 2 holds the values of the
  shot buffers, array 3 the Journeyman memories. -/
  words : SMap Nat
  /-- Armed blocks as (first, count) ranges. -/
  armed : List (Nat × Nat)
  /-- Written masks of blocks not armed. -/
  masks : SMap Nat
  /-- Upsets standing in a block. -/
  upsets : SMap (List Upset)
  /-- The block the scrubber visits next. -/
  nextBlk : Nat
  /-- Start of the running lap. -/
  lapStart : Option Nat
  /-- SCRUB_SLOW raised for the running lap. -/
  slowRaised : Bool
  deriving DecidableEq, Repr

/-- An array after the reset of its domain. -/
def Sram.fresh : Sram := ⟨[], [], [], [], 0, none, false⟩

/-! ## Stripes (chapter 11) -/

/-- States of a stripe in the open queue (R421); terminal stripes have left the queue. -/
inductive StripeSt where
  | opened | armed | running | stopped | ended
  deriving DecidableEq, Repr

/-- The scope of a darn entry (R443). -/
inductive DScope where
  | beam | lane | shot
  deriving DecidableEq, Repr

/-- A darn entry, bytes 0..11 (R443). -/
structure DarnE where
  shot : Nat
  scope : DScope
  row : Nat
  col : Nat
  cause : Nat
  value : Nat
  deriving DecidableEq, Repr

/-- What a mend pass takes from its parent (R448 to R450): the mended entries and the cycles. -/
structure MendInfo where
  entries : List DarnE
  kFirst : Nat
  kLast : Nat
  parentIncomplete : Bool
  deriving DecidableEq, Repr

/-- The Compositor's running state of one stripe (R418, R419, R718). -/
structure CompSt where
  /-- The ST values in force bound at the opening (R167, R186), and the gain image slot bound. -/
  bound : Regs
  gainSlot : Nat
  prepass : Bool
  /-- The HBM address of the halo body taken for each side (R503, R505). -/
  ylo : Option Nat
  yhi : Option Nat
  /-- A side is complete (R190). -/
  yloOk : Bool
  yhiOk : Bool
  /-- The coarse sums that the pre-pass stored (R156, R163): cell and the part's own sum over it. -/
  sums : List (Int × Int × Nat)
  /-- RING sides (true for YHI) whose halo is still to be sent (R163). -/
  owes : List Bool
  /-- Next cycle to publish. -/
  nextCycle : Nat
  /-- Tiles of that cycle written, by lane. -/
  tilesOf : SMap Tile
  /-- The lane whose tile waits for space for its RAW form (R219, R250). -/
  rewrite : Option Nat
  /-- Defined values of the 1,023 shots before that cycle and of the shots of that cycle, the latest first (R175). -/
  hist : List (SMap Nat)
  outs : List (SMap Nat)
  /-- Composition is held at that cycle (R182, R219, R258). -/
  held : Bool
  /-- Next column to fold and the CRC-64 folded so far (with the final exclusive OR). -/
  nextCol : Int
  ldig : Nat
  ldigDone : Bool
  inst : Nat
  pix : Nat
  eqSat : Nat
  /-- Cycles whose equalisation was counted (R170) and shots whose preview entries were written and counted (R179). -/
  eqNext : Nat
  dpvNext : Nat
  dpvWr : Nat
  dpvBeam : Nat
  dpvShot : Nat
  quireIn : Nat
  quireOut : Nat
  /-- The preview list of the stripe: base and size when one is written (R178, R192), and whether it overflowed. -/
  list : Option (Nat × Nat)
  listOvf : Bool
  /-- The preview rebuild of the present attempt is complete (R177). -/
  rebuilt : Bool
  /-- The next cycle has been counted as delayed for space (R250). -/
  stalled : Bool
  deriving DecidableEq, Repr

/-- A stripe of the stripe table (R419). -/
structure Stripe where
  id : Nat
  st : StripeSt
  dir : Nat
  body : Nat
  cyc : Nat
  xs : Int
  ys : Int
  x0 : Int
  launch : Nat
  timeLaunch : Bool
  /-- BDL_LEAD in force as the stripe was launched (R334). -/
  lead : Option Nat
  cfgEpoch : Nat
  gainEpoch : Nat
  formeEpoch : Nat
  formeHash : Nat
  slot : Nat
  darnBase : Nat
  darnSize : Nat
  darnNext : Nat
  darnCount : Nat
  ddig : Nat
  wdig : Nat
  sdig : Nat
  incomplete : Bool
  resume : Option Nat
  resumes : Nat
  mend : Option MendInfo
  tStart : Option (Nat × Nat)
  tEnd : Option (Nat × Nat)
  headId : Nat
  comp : CompSt
  deriving DecidableEq, Repr

/-- A stop in progress or done (R438). -/
structure StopRec where
  cause : Nat
  ns : Nat
  more : Bool
  /-- A block reset came before the stop completed: no checkpoint is written (R599). -/
  noCkpt : Bool
  deriving DecidableEq, Repr

/-- Assay and the stripe control (R422 to R457). -/
structure Assay where
  queue : List Stripe
  /-- The time of the ARM that waits. -/
  arm : Option Nat
  /-- The time of the last ARM accepted (R499). -/
  armAt : Nat
  /-- The stop whose sequence runs (R439). -/
  stop : Option StopRec
  /-- A SYNC_IN or ring launch still to come for the armed stripe. -/
  awaitLaunch : Bool
  /-- The attempt has made its DARN_FULL stop. -/
  darnFull : Bool
  /-- A MEND that waits for the HBM controller to accept its reads (R263, R448). -/
  mendWait : Bool
  deriving DecidableEq, Repr

/-! ## Platen, Tally, lanes, Head (chapters 8 and 9) -/

/-- Values of one shot: key 8192·lane + value index, unlisted 0. -/
abbrev Vals := SMap Nat

/-- A decoded shot in a shot buffer (R291) with the marks its leaves carry. -/
structure ShotBuf where
  shot : Nat
  /-- Its buffer of SRAM array 2, 0..11. -/
  slot : Nat
  vals : Vals
  /-- Beams marked by the preview: key, cause, value before zeroing. -/
  marks : List (Nat × Nat × Nat)
  /-- WHOLE cause of a valid leaf. -/
  whole : Option Nat
  /-- Lanes whose tile or leaf of the shot failed (R223, R224). -/
  bad : List Nat
  /-- Tally's result once evaluated: zeroed beams (key, cause, value, guard) and whole cause with guard. -/
  tally : Option (List (Nat × Nat × Nat × Bool) × Option (Nat × Bool))
  deriving DecidableEq, Repr

/-- The Platen's decode state and Tally (R291 to R306). -/
structure Platen where
  bufs : List ShotBuf
  onAir : Option Nat
  /-- The draining buffer (R291). -/
  draining : Option ShotBuf
  /-- Next shot to decode. -/
  nextDec : Nat
  /-- History leaf of each lane: values of the last decoded shot. -/
  hist : Vals
  /-- Lanes whose history is missing (R224). -/
  histBad : List Nat
  /-- Lanes whose tile of the cycle being decoded has failed (R223). -/
  tileBad : List Nat
  /-- The checkpoint buffer: shot, values, lanes without a usable leaf (R211, R228). -/
  ckpt : Option (Nat × Vals × List Nat)
  wsum : SMap Nat
  hsum : Nat
  /-- Shots evaluated: next shot for Tally. -/
  nextTally : Nat
  /-- Shots passed over whose leaving slot is still to be read, oldest first (R263, R304). -/
  owed : List Nat
  rebuilt : Bool
  /-- The stripe whose attempt the Platen serves. -/
  serving : Option Nat
  deriving DecidableEq, Repr

/-- A sent shot with lane-shots outstanding (R351). -/
structure ShotOut where
  shot : Nat
  /-- t_n, in model time units. -/
  tn : Nat
  blank : Bool
  mask : Bool
  open_ : List Nat
  naks : List Nat
  silents : List Nat
  /-- Per-beam darns: row, column, cause, value, guard. -/
  beams : List (Nat × Nat × Nat × Nat × Bool)
  /-- Whole-shot darn: cause, guard. -/
  whole : Option (Nat × Bool)
  /-- Usage by 64·lane + block. -/
  use : SMap Nat
  deriving DecidableEq, Repr

/-- A preset sweep (R361). -/
structure Sweep where
  mask : Nat
  preset : Nat
  holdStart : Nat
  /-- Last FOM of the present hold, by lane. -/
  cur : SMap Nat
  /-- FOM by 16·lane + preset. -/
  fom : SMap Nat
  deriving DecidableEq, Repr

/-- A return receiver (R362). -/
structure Bsr where
  mseq : Option Nat
  ctle : Nat
  best : Option (Nat × Nat)
  adapting : Bool
  /-- Since when the present hold, the adaptation or SERVICE has lasted. -/
  since : Nat
  deriving DecidableEq, Repr

/-- A receiver entering START. -/
def Bsr.start : Bsr := ⟨none, 0, none, false, 0⟩

/-- The lanes (R332 to R363). -/
structure Lanes where
  /-- End of WAKE by lane. -/
  wakeEnd : SMap Nat
  pllLocked : Bool
  /-- Shot number of the previous frame by lane. -/
  lastFrame : SMap Nat
  /-- The seed and the field bits of the last frame sent by a lane since it left electrical idle (R341). -/
  lastSent : SMap (Nat × Nat)
  sweep : Option Sweep
  bsr : SMap Bsr
  /-- Sent shots not yet settled, oldest first. -/
  out : List ShotOut
  deriving DecidableEq, Repr

/-- The Head interface (R309 to R323). -/
structure Head where
  nonce : Nat
  deadline : Option Nat
  /-- An authentication is to start once no stripe is armed and none is BUSY (R347). -/
  want : Bool
  /-- Last Head authenticated since the last reset of PD_BDLB. -/
  lastId : Option Nat
  /-- A Head has passed authentication since the last reset of PD_BDLB and not been lost. -/
  passed : Bool
  lastTelem : Nat
  telemSeen : Bool
  lastHot : Bool
  /-- ENABLE must be written with 1 again since the inhibit latch set (R312). -/
  reen : Bool
  deriving DecidableEq, Repr

/-! ## Escapement and Governor (chapters 2 and 10) -/

/-- A position port (R371 to R382). -/
structure Port where
  lastSeq : Option Nat
  /-- The end of the last slot. -/
  slotEnd : Nat
  /-- Slots declared bad or missing since the last accepted word. -/
  declared : Nat
  /-- Consecutive accepted words (in SEEK or LOST, counted as R382 says). -/
  good : Nat
  /-- Consecutive slots not accepted. -/
  bad : Nat
  /-- Consecutive accepted words with equal POS and a nonzero velocity set-point at each. -/
  same : Nat
  lastPos : Int
  /-- The POS at which the port froze, until a word differs. -/
  frozenPos : Option Int
  /-- Quadrature count, A/B state, an illegal transition in the period, A or B lost. -/
  count : Int
  phA : Bool
  phB : Bool
  illegal : Bool
  sigLost : Bool
  /-- The CK_SHOT clock of the last edge: its number, A, B and the count as it began, and whether A and B have changed in it
  (R378). -/
  qClk : Nat
  qA : Bool
  qB : Bool
  qCount : Int
  movA : Bool
  movB : Bool
  deriving DecidableEq, Repr

/-- A port in SEEK. -/
def Port.seek : Port := ⟨none, 0, 0, 0, 0, 0, 0, none, 0, false, false, false, false, 0, false, false, 0, false, false⟩

/-- A port that starts again: the levels of its lines stay. -/
def Port.again (p : Port) : Port := { Port.seek with phA := p.phA, phB := p.phB, sigLost := p.sigLost, illegal := p.sigLost }

/-- A tracking loop (R383): position in 2^-16 pu, velocity in 2^-32 pu per 50 ps, time in 50 ps. -/
structure Loop where
  xh : Int
  vh : Int
  tl : Int
  deriving DecidableEq, Repr

/-- A fixed shot that has not fallen due (R387). -/
structure FixShot where
  shot : Nat
  /-- t_n in 50 ps. -/
  tn : Int
  outRange : Bool
  deriving DecidableEq, Repr

/-- The attempt of the stripe that is ARMED or RUNNING. -/
structure Attempt where
  /-- First shot n_a, the first shot not masked n_s, the last shot of the stripe. -/
  na : Nat
  ns : Nat
  last : Nat
  /-- Next shot to fix. -/
  next : Nat
  /-- t of the last fixed shot, 50 ps, and the CK_SHOT clock in which it was fixed (R387). -/
  tPrev : Option Int
  fixClk : Option Nat
  fixed : List FixShot
  /-- The launch position is set and shots may be fixed. -/
  launched : Bool
  /-- The launch time of R391, 50 ps. -/
  t0 : Option Int
  /-- Shot most recently due in this attempt, and its t_n in 50 ps. -/
  due : Option (Nat × Int)
  /-- The last four shots to fall due, oldest first. -/
  recent : List FixShot
  /-- A stop bars every shot from this one on. -/
  bar : Option Nat
  /-- BDL_DEVICE as bound when the stripe was armed (R336). -/
  device : Nat
  deriving DecidableEq, Repr

/-- The Escapement. -/
structure Esc where
  ports : SMap Port
  lx : Loop
  ly : Loop
  att : Option Attempt
  deriving DecidableEq, Repr

/-- One axis of the Governor; deflections in units of 1/(2^32 · 390625) pu (R399, exact), codes as integers. -/
structure Axis where
  h : Int
  c : Int
  tprev : Int
  /-- Output deflection y of the last tick. -/
  y : Int
  wEntry : Int
  sEntry : Int
  /-- The estimate of the last tick. -/
  sLast : Int
  sat : Bool
  /-- The code from which the output moves over the tick under way (R398). -/
  from_ : Int
  deriving DecidableEq, Repr

/-- A motion segment (R393). -/
structure Seg where
  run : Bool
  x : Int
  y : Int
  vel : Nat
  deriving DecidableEq, Repr

/-- A seven-phase profile of one axis (R395): start, signed distance in 10^-6 pu, ticks of its jerk, acceleration and
velocity phases. -/
structure SCurve where
  p0 : Int
  dist : Int
  n1 : Nat
  n2 : Nat
  n3 : Nat
  deriving DecidableEq, Repr

/-- A set-point of one axis: position in pu, velocity in 2^-16 pu/us, acceleration in 2^-16 pu/us². -/
structure SetPt where
  pos : Int
  vel : Int
  acc : Int
  deriving DecidableEq, Repr

/-- A stop of one axis under R396: the set-point from which it starts, the ticks in which the acceleration goes to 0, and those
of the jerk and acceleration phases that then bring the velocity to 0. -/
structure StopCurve where
  q : SetPt
  n1 : Nat
  n2 : Nat
  n3 : Nat
  deriving DecidableEq, Repr

/-- The stop in progress: its profiles, the ticks run and the set-point period. -/
structure StopRun where
  cx : StopCurve
  cy : StopCurve
  tick : Nat
  period : Nat
  deriving DecidableEq, Repr

/-- The running segment: its profiles and the ticks run. -/
structure RunSeg where
  seg : Seg
  cx : SCurve
  cy : SCurve
  tick : Nat
  /-- A and J sampled at its start (R394), and its set-point period. -/
  acc : Nat
  jerk : Nat
  period : Nat
  deriving DecidableEq, Repr

/-- The Governor. -/
structure Gov where
  ax : Axis
  ay : Axis
  hvRun : Nat
  /-- Pending mode request (R407). -/
  pend : Option Nat
  /-- The mode changed and its first tick presets h (R408). -/
  entered : Bool
  queue : List Seg
  run : Option RunSeg
  /-- A stop under R396 in progress. -/
  stop : Option StopRun
  sx : SetPt
  sy : SetPt
  /-- Set-points of the last 16 ticks with their instants, newest first. -/
  spHist : List (Nat × SetPt × SetPt)
  spTick : Nat
  spSeq : Nat
  /-- SEQ of the last set-point word sent (R374). -/
  spSent : Option Nat
  deriving DecidableEq, Repr

/-! ## Outputs -/

/-- Payloads of ring frames sent (R470). -/
inductive RPay where
  | sync (ns fr : Nat) (corr : Int)
  | pdReq
  | pdResp (reqSeq : Nat) (turn : Int)
  | launch (m : LaunchMsg)
  | report (m : ReportMsg)
  | haloData (id block nblk : Nat) (data : List Byte)
  | haloAck (done refused : Bool) (id next : Nat)
  | fault (m : FMsg)
  | topo (m : TopoMsg)
  | topoResult (m : TopoMsg)
  | link (lflags : Nat)
  | mail (port mlen : Nat) (data : List Byte)
  deriving DecidableEq, Repr

/-- What the part has put on its ports: the model's own record of outputs, oldest first (log entry 3). -/
inductive Tx where
  /-- A ring frame on a ring; forwarded frames keep their source. -/
  | ring (r src dst seq : Nat) (bcast : Bool) (hops : Nat) (p : RPay)
  /-- A control frame on BDL[0]: type, CSEQ, body (R345). -/
  | ctrl (typ cseq : Nat) (body : List Byte)
  /-- The header of lane l's frame and its payload: the nonzero emitted values of the lane by value index (R335 to R337). -/
  | frame (lane header : Nat) (vals : Vals)
  /-- A write to host memory. -/
  | hostWr (addr : Nat) (data : List Byte)
  /-- A read of host memory. -/
  | hostRd (ch addr len : Nat)
  /-- An MSI-X message of a vector. -/
  | msix (vec : Nat)
  /-- A set-point word on SETP. -/
  | setp (word : Nat)
  /-- A pulse on SYNC_OUT from an instant. -/
  | syncOut (t : Nat)
  /-- A CCI write (R552): port, 7-bit device address, whether the register address goes out as 16 bits, the register address,
  value, data bytes. -/
  | cci (p dev : Nat) (addr16 : Bool) (reg val len : Nat)
  /-- A transmitted PTP message as the MAC completed it: message, sequenceId, the seconds and ns it wrote (0 where it wrote
  none), correctionField. -/
  | ptp (f : PtpFrame) (seqId sec ns : Nat) (corr : Int)
  /-- Data given to a read through WIN_GAL; none for Completer Abort. -/
  | galRd (data : Option (List Byte))
  deriving DecidableEq, Repr

/-! ## Koravin ring and machine time (chapter 12) -/

/-- The duplicate window of one source (R474): highest SEQ and the marked SEQ values. -/
structure DupWin where
  hi : Nat
  marks : List Nat
  deriving DecidableEq, Repr

/-- A ring receiver (R466). -/
structure RingIn where
  rx : Bsr
  badRun : Nat
  /-- Last measurements of the delay, newest first, at most 16 (R484), in 2^-16 ns. -/
  meas : List Int
  /-- The request in flight: SEQ, and its departure t1 in 2^-16 ns. -/
  req : Option (Nat × Nat)
  /-- The instant of the last request (R484). -/
  asked : Option Nat
  deriving DecidableEq, Repr

/-- A frame that waits for a ring transmitter: its class, its payload's length, its scrambler seed, and the record of it. -/
structure RingWait where
  cls : Nat
  len : Nat
  seed : Nat
  tx : Tx
  deriving DecidableEq, Repr

/-- The transmitter of a ring output (R470, R475): when the next frame's reference point can be, in fifths of the model's unit;
the frames that wait, in order of arrival; the seed and the field bits of the last frame (R467). -/
structure RingOut where
  free : Nat
  queue : List RingWait
  sent : Option (Nat × Nat)
  deriving DecidableEq, Repr

/-- A discovery in progress (R478). -/
structure Disc where
  start : Nat
  ringA : Option TopoMsg
  ringB : Option TopoMsg
  deriving DecidableEq, Repr

/-- A LAUNCH held until its deadline (R496). -/
structure HeldLaunch where
  src : Nat
  lseq : Nat
  msg : LaunchMsg
  deriving DecidableEq, Repr

/-- A halo body being sent (R500 to R502). -/
structure HaloTx where
  id : Nat
  /-- The body of side YHI. -/
  hi : Bool
  dst : Nat
  stripe : Nat
  body : List Byte
  next : Nat
  sent : Nat
  lastAdv : Nat
  tmos : Nat
  active : Bool
  /-- Blocks sent at least once: one sent again counts in KOR_HALO_RETX. -/
  top : Nat
  deriving DecidableEq, Repr

/-- A halo slot in use (R503 to R505). -/
structure HaloSlot where
  slot : Nat
  src : Nat
  id : Nat
  nblk : Nat
  /-- Bytes of the last block's length, kept with the blocks held. -/
  have_ : List Nat
  lastLen : Nat
  accepted : Bool
  /-- Stripe identities that took the body. -/
  takers : List Nat
  /-- The header of an accepted body, its first 64 bytes (R500). -/
  head : List Byte
  deriving DecidableEq, Repr

/-- A PTP stamp (R493, R512). -/
structure PtpStamp where
  typ : Nat
  seqId : Nat
  sec : Nat
  ns : Nat
  fr : Nat
  deriving DecidableEq, Repr

/-- The ring, machine time's servo and the time edges. -/
structure Kor where
  seq : Nat
  haloId : Nat
  dups : SMap DupWin
  ins : SMap RingIn
  tseq : Nat
  disc : Option Disc
  /-- A discovery is owed since this time (R477). -/
  discDue : Option Nat
  mastersSeen : Bool
  /-- The ring-A order of the last result adopted. -/
  order : List TopoEntry
  /-- Last SYNC accepted on each ring. -/
  lastSync : SMap Nat
  isum : Int
  inWin : Nat
  outWin : Nat
  /-- A SYNC has been taken by the servo since the reset (R487). -/
  stepped : Bool
  /-- The instant of the last SYNC of the master (R483). -/
  lastOwn : Option Nat
  /-- The transmitters of the two rings. -/
  outs : SMap RingOut
  held : Option HeldLaunch
  haloTx : List HaloTx
  slots : List HaloSlot
  /-- (source, HALO_ID) of bodies accepted. -/
  haloDone : List (Nat × Nat)
  lastEdge : Option Nat
  setArmed : Bool
  ptpRx : List PtpStamp
  ptpTx : List PtpStamp
  /-- Mail delivered to J6: port and data. -/
  mail : List (Nat × List Byte)
  deriving DecidableEq, Repr

/-! ## Porter, MSI-X (chapter 13) -/

/-- A descriptor as read (R526). -/
structure Desc where
  addr : Nat
  host : Nat
  arg : Nat
  len64 : Nat
  kind : Nat
  irq : Bool
  layer : Nat
  ctlRaw : Nat
  deriving DecidableEq, Repr

/-- What a channel in RUN is waiting for (R528). -/
inductive ChPh where
  | none
  /-- A descriptor read; counted is false for a read of a parked descriptor. -/
  | rdDesc (addr : Nat)
  /-- A read of the LINK word of the descriptor at addr. -/
  | rdLink (addr : Nat)
  /-- The transfer of the descriptor. -/
  | move (d : Desc)
  /-- The fetch of a Lueth segment: fetches made. -/
  | lueth (d : Desc) (tries : Nat)
  /-- The segment's check is done: code, cause, tries. -/
  | checked (d : Desc) (code cause tries : Nat)
  deriving DecidableEq, Repr

/-- A Porter channel beyond its registers. -/
structure Chan where
  ph : ChPh
  /-- Descriptors read since the last doorbell (R539). -/
  count : Nat
  /-- The descriptor parked at. -/
  parked : Nat
  /-- The bursts of the transfer that the arbiter has not granted yet: offset and length (R524). -/
  todo : List (Nat × Nat)
  /-- Since when the channel has waited for its present read or transfer (R540). -/
  since : Nat
  deriving DecidableEq, Repr

/-- Porter and the host link. -/
structure Porter where
  ch : SMap Chan
  /-- The channel granted last at each level (R525). -/
  last : SMap Nat
  /-- Width and speed of the link's first training. -/
  first : Option (Nat × Nat)
  /-- Frames received on MGMT and passed to J6. -/
  frames : List (List Byte)
  /-- Event pulses sent to the Compositor and to Gauger (R523). -/
  pulseCmp : Nat
  pulseGau : Nat
  deriving DecidableEq, Repr

/-- MSI-X state (R516, R517, R522): table words by index, PBA, enable and function mask. -/
structure MsixSt where
  tbl : SMap Nat
  pba : Nat
  enable : Bool
  fmask : Bool
  deriving DecidableEq, Repr

/-! ## Loupe and Gauger (chapter 14) -/

/-- A frame being received or waiting for its record (R554 to R558). -/
structure VFrame where
  fn : Nat
  sensorFn : Nat
  slot : Nat
  /-- Machine time in ns at Frame Start and at close. -/
  tFs : Nat
  tFe : Nat
  /-- Instant of the Frame Start. -/
  at_ : Nat
  dropped : Bool
  lastPkt : Nat
  /-- Received lines, oldest first: raw pixels. -/
  lines : List (List Nat)
  marks : Nat
  crcErr : Nat
  eccErr : Nat
  tag : Nat
  /-- The context's registers as they apply to the frame (R15). -/
  cfg : Regs
  defMap : List (Nat × Nat)
  /-- The shading grid, the metrology block and the registration block with its template, where they passed. -/
  lsc : Option (List Byte)
  met : Option (List Byte)
  reg : Option (List Byte)
  deriving DecidableEq, Repr

/-- A settings set (R559): tag and entries (A, V). -/
structure VSet where
  tag : Nat
  entries : List (Nat × Nat)
  deriving DecidableEq, Repr

/-- A set being written on a CCI bus (R560). -/
structure CciRun where
  ctx : Nat
  set : VSet
  idx : Nat
  k : Nat
  lat : Nat
  deriving DecidableEq, Repr

/-- Loupe. -/
structure Vis where
  frames : SMap VFrame
  /-- Frames closed whose record is still to be written, oldest first. -/
  closed : SMap (List VFrame)
  armed : SMap VSet
  cci : SMap CciRun
  /-- A set whose last write is acknowledged and whose frame j is still to come: context to (k, L, tag). -/
  acked : SMap (Nat × Nat × Nat)
  /-- Tags by context (R560): from which frame which tag, in frame order; 0xFFFF where the settings are not known. -/
  tags : SMap (List (Nat × Nat))
  /-- Next slot and slots taken and not released, by context. -/
  nextSlot : SMap Nat
  taken : SMap Nat
  /-- Defect map registers last checked, by port, and whether the map stands refused. -/
  defSeen : SMap (Nat × Nat)
  defBad : List Nat
  deriving DecidableEq, Repr

/-- One output of a run (R571). -/
structure GOut where
  prev : Option Int
  accepted : Bool
  inRange : Bool
  deriving DecidableEq, Repr

/-- A Gauger run (R569 to R573). -/
structure GRun where
  kind : Nat
  ctx : Nat
  block : Nat
  tries : Nat
  start : Nat
  used : Nat
  /-- Outputs: the beam r·512 + c for GAIN, else the trim. -/
  outs : SMap GOut
  /-- The park value at START, whether it stands displaced, and serving frames of the present hold. -/
  park : Int
  moved : Bool
  held : Nat
  /-- Centroids by beam in the last frame of the hold before. -/
  prevC : Option (SMap Int)
  deriving DecidableEq, Repr

/-- Gauger. -/
structure Gau where
  run : Option GRun
  /-- Beams STALE, by r·512 + c. -/
  stale : List Nat
  /-- Trims with a stepping target. -/
  targets : List Nat
  deriving DecidableEq, Repr

/-! ## The Copy buffer (chapters 3 and 4) -/

/-- A segment accepted into the Copy buffer and its segment table entry (R105, R107): header fields of use, the CRC-64
stored, the Copy address and the plaintext records. -/
structure CSeg where
  seq : Nat
  crc : Nat
  addr : Nat
  keySlot : Nat
  layerSeg : Bool
  take : Nat
  records : Nat
  plain : List Byte
  /-- Its place in the order of acceptance within the layer. -/
  ord : Nat
  deriving DecidableEq, Repr

/-- A released take whose STRIPE_HINT was accepted (R94, R162, R717): its SEQ range and its rectangle. -/
structure PastTake where
  take : Nat
  lo : Nat
  segs : Nat
  x0 : Int
  x1 : Int
  y0 : Int
  y1 : Int
  deriving DecidableEq, Repr

/-- A resident layer (R106, R113, R114). -/
structure CLayer where
  layer : Nat
  /-- Segments held, by rising SEQ. -/
  segs : List CSeg
  rejected : Bool
  rejTakes : List Nat
  /-- Takes whose release waits (R117), and a layer release that waits (R126). -/
  relTakes : List Nat
  relLayer : Bool
  past : List PastTake
  /-- Segments accepted so far. -/
  count : Nat
  deriving DecidableEq, Repr

/-- The tap of an opened stripe (R149). -/
structure TapRun where
  stripe : Nat
  x : Int
  y : Nat
  nx : Nat
  ny : Nat
  addr : Nat
  deriving DecidableEq, Repr

/-- The Copy buffer, the older layer first, and the tap in use. -/
structure CopySt where
  layers : List CLayer
  tap : Option TapRun
  deriving DecidableEq, Repr

/-- The whole machine. -/
structure State where
  /-- Field values held (pending values of ST fields). -/
  regs : Regs
  /-- ST values in force. -/
  force : Regs
  /-- Stripe-start and start-of-frame registers as applied (R15). -/
  strip : Regs
  /-- The snapshot bank: captured fields, captured ST values in force, captured LGR_WORK words (R435). -/
  snapRegs : Regs
  snapForce : Regs
  snapWork : List Nat
  /-- Data returned by the last register read. -/
  rdata : BitVec 32
  clk : Clk
  pins : Pins
  watch : Watch
  dbk : Daybook
  lgr : Ledger
  pwr : Pwr
  flash : Flash
  sec : Sec
  cores : SMap Core
  /-- Journeyman memories: array-3 byte address, unlisted bytes 0. -/
  jmem : List Host.Cell
  /-- The Forme in force: its image and length. -/
  forme : Option (Image × Nat)
  mem : Mem
  sram : SMap Sram
  asy : Assay
  plt : Platen
  bdl : Lanes
  hed : Head
  esc : Esc
  gov : Gov
  kor : Kor
  prt : Porter
  msix : MsixSt
  copy : CopySt
  vis : Vis
  gau : Gau
  out : List Tx
  pending : List Instr
  deriving DecidableEq, Repr

/-- A Ledger working copy that counts from nothing. -/
def LCopy.zero : LCopy := ⟨0, 0, 0, 0, 0, 0, 0, 0, 0, 0, 0, 0, 0, []⟩

/-- The Watch after a reset of PD_CTRL. -/
def Watch.fresh : Watch := ⟨[], 0, 0, none, 0, [], none⟩

/-- The sequencer with nothing in hand. -/
def Pwr.fresh : Pwr := ⟨[], [], [], 0, 0, [], [], [], [], none, [], none, false⟩

/-- Module flash of a blank part. -/
def Flash.blank : Flash := ⟨[], [], [], 0⟩

/-- The security block of a blank part. -/
def Sec.blank : Sec := ⟨[], none, [], [], none, false, 0, [], [], none, true⟩

/-- The memory controller and Galley after a reset of PD_HBM. -/
def Mem.fresh : Mem := ⟨[], [], [], [], [], 0, [], [], none, [], [], []⟩

/-- Assay with an empty open queue. -/
def Assay.fresh : Assay := ⟨[], none, 0, none, false, false, false⟩

/-- The Platen after a reset of PD_PLAT. -/
def Platen.fresh : Platen := ⟨[], none, none, 0, [], [], [], none, [], 0, 0, [], false, none⟩

/-- The lanes after a reset of PD_BDLA and PD_BDLB. -/
def Lanes.fresh : Lanes := ⟨[], true, [], [], none, [], []⟩

/-- The Head interface with no Head authenticated. -/
def Head.fresh : Head := ⟨0, none, false, none, false, 0, false, false, false⟩

/-- The Escapement after a reset of PD_MOTION. -/
def Esc.fresh : Esc := ⟨[], ⟨0, 0, 0⟩, ⟨0, 0, 0⟩, none⟩

/-- An axis at rest. -/
def Axis.rest : Axis := ⟨0, 0, 0, 0, 0, 0, 0, false, 0⟩

/-- The Governor after a reset of PD_MOTION. -/
def Gov.fresh : Gov := ⟨.rest, .rest, 0, none, false, [], none, none, ⟨0, 0, 0⟩, ⟨0, 0, 0⟩, [], 0, 0, none⟩

/-- The ring port after a reset of PD_RING. -/
def Kor.fresh : Kor :=
  ⟨0, 0, [], [], 0, none, none, false, [], [], 0, 0, 0, false, none, [], none, [], [], [], none, false, [], [], []⟩

/-- Porter after a reset of PD_HOST. -/
def Porter.fresh : Porter := ⟨[], [], none, [], 0, 0⟩

/-- MSI-X after a reset of PD_HOST. -/
def MsixSt.fresh : MsixSt := ⟨[], 0, false, false⟩

/-- An empty Copy buffer. -/
def CopySt.fresh : CopySt := ⟨[], none⟩

/-- Loupe after a reset of PD_VISION. -/
def Vis.fresh : Vis := ⟨[], [], [], [], [], [], [], [], [], []⟩

/-- Gauger with no run. -/
def Gau.fresh : Gau := ⟨none, [], []⟩

/-- The machine right after power-on reset (R14): every register at its reset value, nothing started, no command waiting.
START_UP takes the part on from here (log entry 2). -/
def State.reset : State where
  regs := []
  force := []
  strip := []
  snapRegs := []
  snapForce := []
  snapWork := []
  rdata := 0
  clk := ⟨0, 0, 0, 0x18D3018D3, 0, [], [], 0⟩
  pins := ⟨true, false, true, true, false, true, 0, true, true, true, some 0, false, false, 0⟩
  watch := .fresh
  dbk := ⟨[], []⟩
  lgr := ⟨.zero, 0, false, [], [], none, 0, none, 0⟩
  pwr := .fresh
  flash := .blank
  sec := .blank
  cores := []
  jmem := []
  forme := none
  mem := .fresh
  sram := []
  asy := .fresh
  plt := .fresh
  bdl := .fresh
  hed := .fresh
  esc := .fresh
  gov := .fresh
  kor := .fresh
  prt := .fresh
  msix := .fresh
  copy := .fresh
  vis := .fresh
  gau := .fresh
  out := []
  pending := []

end Sys2Proof.Machine
end

