-- ==== Sys2Proof/Machine/Operands.lean ====
section
/-! DEFINITION. The forms in which commands carry data: little-endian byte strings and the check values over them. -/

namespace Sys2Proof.Machine
open Sys2Proof

/-- The n bytes of v, little-endian (R2). -/
def leBytes : Nat → Nat → List Byte
  | 0, _ => []
  | n + 1, v => BitVec.ofNat 8 v :: leBytes n (v / 256)

/-- The value of little-endian bytes (R2). -/
def leVal : List Byte → Nat
  | [] => 0
  | b :: r => b.toNat + 256 * leVal r

/-- The little-endian value of the n bytes at offset o of a string. -/
def leAt (l : List Byte) (o n : Nat) : Nat := leVal ((l.drop o).take n)

/-- The signed little-endian value of the n bytes at offset o. -/
def leSAt (l : List Byte) (o n : Nat) : Int := sx (8 * n) (leAt l o n)

/-- n zero bytes. -/
def zeros (n : Nat) : List Byte := List.replicate n 0

/-- The string cut or filled with zeros to n bytes. -/
def padTo (n : Nat) (l : List Byte) : List Byte := (l ++ zeros (n - l.length)).take n

/-- x rounded up to a multiple of m. -/
def upTo (m x : Nat) : Nat := (x + m - 1) / m * m

/-- One step of a reflected CRC register: k bits shifted out. -/
def crcShift (poly : Nat) : Nat → Nat → Nat
  | 0, c => c
  | k + 1, c => crcShift poly k (if c % 2 = 1 then (c / 2) ^^^ poly else c / 2)

/-- A reflected CRC register after a byte string. -/
def crcFold (poly : Nat) (c : Nat) (l : List Byte) : Nat :=
  l.foldl (fun c b => crcShift poly 8 (c ^^^ b.toNat)) c

/-- All ones of width w. -/
def ones (w : Nat) : Nat := 2 ^ w - 1

/-- CRC-64 (R84) continued from a register value that includes the final exclusive OR. -/
def crc64From (c : Nat) (l : List Byte) : Nat := (crcFold 0xc96c5795d7870f42 (c ^^^ ones 64) l) ^^^ ones 64

/-- CRC-64 (R84). -/
def crc64 (l : List Byte) : Nat := crc64From 0 l

/-- CRC-32C (R199) continued from a register value that includes the final exclusive OR. -/
def crc32cFrom (c : Nat) (l : List Byte) : Nat := (crcFold 0x82f63b78 (c ^^^ ones 32) l) ^^^ ones 32

/-- CRC-32C (R199). -/
def crc32c (l : List Byte) : Nat := crc32cFrom 0 l

/-- The 128 bits of a fault message (R586). -/
def FMsg.word (m : FMsg) : Nat :=
  m.source % 128 + m.sev % 4 * 2 ^ 7 + m.sub % 128 * 2 ^ 9 + m.kind % 256 * 2 ^ 16 + m.addr % 2 ^ 48 * 2 ^ 24
    + m.time % 2 ^ 48 * 2 ^ 72 + m.seq % 256 * 2 ^ 120

/-- Bytes 0..27 of a Daybook record (R612). -/
def DRec.head (r : DRec) : List Byte :=
  leBytes 4 r.seq ++ leBytes 2 r.code ++ leBytes 1 r.source ++ leBytes 1 r.flags ++ leBytes 8 r.time
    ++ leBytes 4 r.arg0 ++ leBytes 4 r.arg1 ++ leBytes 4 r.arg2

/-- The 32 bytes of a Daybook record, DCRC included (R612). -/
def DRec.bytes (r : DRec) : List Byte := r.head ++ leBytes 4 (crc32c r.head)

/-- The whole-nanosecond part of a PTP stamp and its fraction (R493). -/
def PtpStamp.idWord (p : PtpStamp) : Nat := p.typ % 16 + p.seqId % 2 ^ 16 * 2 ^ 16

end Sys2Proof.Machine
end

