-- ==== Sys2Proof/Machine/Crypto.lean ====
section
/-! DEFINITION. The ciphers, digests and signatures that rules name: SHA-256 and SHA-384 (FIPS 180-4), HMAC (FIPS 198-1),
AES-256-GCM (FIPS 197, SP 800-38D), and ECDSA and ECDH on P-384 (FIPS 186-5, SP 800-56A), of R82, R314, R455, R631, R653
and R655.  The spec cites the algorithms by name; their steps are PRESUMED from those standards (log entry 6). -/

namespace Sys2Proof.Machine
open Sys2Proof

/-! ## Bytes most significant first -/

/-- The n bytes of v, the most significant first. -/
def beBytes (n v : Nat) : List Byte := (leBytes n v).reverse

/-- The value of bytes, the most significant first. -/
def beVal (l : List Byte) : Nat := leVal l.reverse

/-- The pieces of n elements of a list; a shorter rest is the last piece. -/
def pieces {α : Type} (n : Nat) (l : List α) : List (List α) :=
  (List.range ((l.length + n - 1) / n)).map (fun i => (l.drop (n * i)).take n)

/-! ## SHA-2 -/

/-- The largest root r with r^k at most n, found bit by bit from r's lowest b bits upward of a start. -/
def rootFrom (k n : Nat) : Nat → Nat → Nat
  | 0, r => r
  | b + 1, r => rootFrom k n b (if (r + 2 ^ b) ^ k ≤ n then r + 2 ^ b else r)

/-- The first 64 bits of the fraction of the k-th root of p. -/
def rootFrac (k p : Nat) : Nat := rootFrom k (p * 2 ^ (64 * k)) 72 0 % 2 ^ 64

/-- The first 80 primes. -/
def primes80 : List Nat := ((List.range 410).filter (fun n => decide (2 ≤ n) && (List.range n).all (fun d => decide (d < 2) || n % d != 0)))

/-- A SHA-2 variant: its word in bits, its rotations (big sigma 0 and 1, small sigma 0 and 1), its rounds. -/
structure Sha where
  w : Nat
  b0 : Nat × Nat × Nat
  b1 : Nat × Nat × Nat
  s0 : Nat × Nat × Nat
  s1 : Nat × Nat × Nat
  rounds : Nat
  deriving DecidableEq, Repr

/-- The functions of SHA-256. -/
def sha32 : Sha := ⟨32, (2, 13, 22), (6, 11, 25), (7, 18, 3), (17, 19, 10), 64⟩

/-- The functions of SHA-384. -/
def sha64 : Sha := ⟨64, (28, 34, 39), (14, 18, 41), (1, 8, 7), (19, 61, 6), 80⟩

/-- A word rotated right. -/
def rotR (w n x : Nat) : Nat := x / 2 ^ n + x % 2 ^ n * 2 ^ (w - n)

/-- A big sigma: three rotations. -/
def bigSigma (w : Nat) (t : Nat × Nat × Nat) (x : Nat) : Nat := rotR w t.1 x ^^^ rotR w t.2.1 x ^^^ rotR w t.2.2 x

/-- A small sigma: two rotations and a shift. -/
def smallSigma (w : Nat) (t : Nat × Nat × Nat) (x : Nat) : Nat := rotR w t.1 x ^^^ rotR w t.2.1 x ^^^ x / 2 ^ t.2.2

/-- The message schedule, latest word first, n words further. -/
def Sha.expand (h : Sha) : Nat → List Nat → List Nat
  | 0, l => l
  | n + 1, l =>
    h.expand n (((smallSigma h.w h.s1 (l.getD 1 0) + l.getD 6 0 + smallSigma h.w h.s0 (l.getD 14 0) + l.getD 15 0) % 2 ^ h.w) :: l)

/-- One round on the eight working words, with its constant and its schedule word. -/
def Sha.round (h : Sha) (v : List Nat) (kw : Nat × Nat) : List Nat :=
  match v with
  | [a, b, c, d, e, f, g, x] =>
    let t1 := x + bigSigma h.w h.b1 e + ((e &&& f) ^^^ ((e ^^^ ones h.w) &&& g)) + kw.1 + kw.2
    let t2 := bigSigma h.w h.b0 a + ((a &&& b) ^^^ (a &&& c) ^^^ (b &&& c))
    [(t1 + t2) % 2 ^ h.w, a, b, c, (d + t1) % 2 ^ h.w, e, f, g]
  | _ => v

/-- The round constants: fractions of the cube roots of the first primes. -/
def Sha.consts (h : Sha) : List Nat := (primes80.take h.rounds).map (fun p => rootFrac 3 p / 2 ^ (64 - h.w))

/-- The hash value after one block. -/
def Sha.block (h : Sha) (v : List Nat) (b : List Byte) : List Nat :=
  let ws := (h.expand (h.rounds - 16) ((pieces (h.w / 8) b).map beVal).reverse).reverse
  (v.zip ((h.consts.zip ws).foldl h.round v)).map (fun p => (p.1 + p.2) % 2 ^ h.w)

/-- The padded message: a 1 bit, zeros, and the length in bits. -/
def Sha.pad (h : Sha) (m : List Byte) : List Byte :=
  let n := 2 * h.w
  let used := m.length + 1 + h.w / 4
  m ++ [0x80] ++ zeros (upTo n used - used) ++ beBytes (h.w / 4) (8 * m.length)

/-- The digest words from the first hash value. -/
def Sha.words (h : Sha) (v : List Nat) (m : List Byte) : List Nat := (pieces (2 * h.w) (h.pad m)).foldl h.block v

/-- SHA-256. -/
def sha256 (m : List Byte) : List Byte :=
  (sha32.words ((primes80.take 8).map (fun p => rootFrac 2 p / 2 ^ 32)) m).flatMap (beBytes 4)

/-- SHA-384. -/
def sha384 (m : List Byte) : List Byte :=
  ((sha64.words (((primes80.drop 8).take 8).map (rootFrac 2)) m).take 6).flatMap (beBytes 8)

/-- HMAC-SHA-256 under a key of at most 64 bytes. -/
def hmac256 (key m : List Byte) : List Byte :=
  let k := padTo 64 key
  let pad (x : Byte) : List Byte := k.map (fun b => b ^^^ x)
  sha256 (pad 0x5C ++ sha256 (pad 0x36 ++ m))

/-! ## AES-256 -/

/-- The product of n steps in GF(2^8). -/
def gf8Mul : Nat → Nat → Nat → Nat
  | 0, _, _ => 0
  | n + 1, a, b => (if b % 2 = 1 then a else 0) ^^^ gf8Mul n (if a < 128 then 2 * a else (2 * a) ^^^ 0x11B) (b / 2)

/-- The power 254 in GF(2^8): the inverse, 0 of 0. -/
def gf8Inv (x : Nat) : Nat :=
  ((List.range 7).foldl (fun (p : Nat × Nat) _ => let q := gf8Mul 8 p.2 p.2; (gf8Mul 8 p.1 q, q)) (1, x)).1

/-- The S-box. -/
def subByte (x : Nat) : Nat :=
  let i := gf8Inv x
  let rot (n : Nat) : Nat := i * 2 ^ n % 256 + i / 2 ^ (8 - n)
  i ^^^ rot 1 ^^^ rot 2 ^^^ rot 3 ^^^ rot 4 ^^^ 0x63

/-- Bytes exclusive-ORed pairwise. -/
def xorL (a b : List Nat) : List Nat := (a.zip b).map (fun p => p.1 ^^^ p.2)

/-- The key schedule of AES-256, latest word first: n further words from word i. -/
def keyExpand : Nat → Nat → List (List Nat) → List (List Nat)
  | 0, _, l => l
  | n + 1, i, l =>
    let t := l.getD 0 []
    let t := if i % 8 = 0 then
        xorL ((t.drop 1 ++ t.take 1).map subByte) [2 ^ (i / 8 - 1), 0, 0, 0]
      else if i % 8 = 4 then t.map subByte else t
    keyExpand n (i + 1) (xorL (l.getD 7 []) t :: l)

/-- The 15 round keys of AES-256. -/
def roundKeys (key : List Byte) : List (List Nat) :=
  (pieces 4 (keyExpand 52 8 (pieces 4 (key.map BitVec.toNat)).reverse).reverse).map List.flatten

/-- ShiftRows. -/
def shiftRows (s : List Nat) : List Nat :=
  (List.range 16).map (fun i => s.getD (4 * ((i / 4 + i % 4) % 4) + i % 4) 0)

/-- MixColumns. -/
def mixColumns (s : List Nat) : List Nat :=
  (List.range 16).map (fun i =>
    let x (k : Nat) : Nat := s.getD (i / 4 * 4 + (i + k) % 4) 0
    gf8Mul 8 2 (x 0) ^^^ gf8Mul 8 3 (x 1) ^^^ x 2 ^^^ x 3)

/-- AES-256 encryption of a block of 16 bytes. -/
def aes256 (key : List Byte) (b : List Byte) : List Byte :=
  let ks := roundKeys key
  let s := xorL (b.map BitVec.toNat) (ks.getD 0 [])
  let s := ((ks.drop 1).take 13).foldl (fun s k => xorL (mixColumns (shiftRows (s.map subByte))) k) s
  (xorL (shiftRows (s.map subByte)) (ks.getD 14 [])).map (BitVec.ofNat 8)

/-! ## GCM -/

/-- The product in GF(2^128) of GCM, n steps: bit 0 is the most significant. -/
def ghashMul : Nat → Nat → Nat → Nat
  | 0, _, _ => 0
  | n + 1, x, v =>
    (if bitOf x n then v else 0) ^^^ ghashMul n x (if v % 2 = 1 then (v / 2) ^^^ (0xE1 * 2 ^ 120) else v / 2)

/-- GHASH of whole blocks under the hash key h. -/
def ghash (h : Nat) (l : List Byte) : Nat := (pieces 16 l).foldl (fun y b => ghashMul 128 (y ^^^ beVal b) h) 0

/-- The bytes filled with zeros to whole blocks. -/
def pad16 (l : List Byte) : List Byte := l ++ zeros (upTo 16 l.length - l.length)

/-- The counter block n of a 96-bit IV. -/
def ctrBlock (iv : List Byte) (n : Nat) : List Byte := iv ++ beBytes 4 n

/-- Encryption or decryption in counter mode. -/
def gcmCrypt (key iv d : List Byte) : List Byte :=
  (((pieces 16 d).zipIdx).map (fun p =>
    (p.1.zip (aes256 key (ctrBlock iv (p.2 + 2)))).map (fun q => q.1 ^^^ q.2))).flatten

/-- The tag over additional data and ciphertext. -/
def gcmTag (key iv aad ct : List Byte) : List Byte :=
  let h := beVal (aes256 key (zeros 16))
  let y := ghash h (pad16 aad ++ pad16 ct ++ beBytes 8 (8 * aad.length) ++ beBytes 8 (8 * ct.length))
  beBytes 16 (y ^^^ beVal (aes256 key (ctrBlock iv 1)))

/-- AES-256-GCM decryption: the plaintext, none where the tag does not verify. -/
def gcmOpen (key iv aad ct tag : List Byte) : Option (List Byte) :=
  if gcmTag key iv aad ct = tag then some (gcmCrypt key iv ct) else none

/-! ## P-384 -/

/-- The field prime. -/
def p384p : Nat := 2 ^ 384 - 2 ^ 128 - 2 ^ 96 + 2 ^ 32 - 1

/-- The order of the base point. -/
def p384n : Nat := 0xffffffffffffffffffffffffffffffffffffffffffffffffc7634d81f4372ddf581a0db248b0a77aecec196accc52973

/-- The coefficient b. -/
def p384b : Nat := 0xb3312fa7e23ee7e4988e056be3f82d19181d9c6efe8141120314088f5013875ac656398d8a2ed19d2a85c8edd3ec2aef

/-- The base point. -/
def p384g : Nat × Nat :=
  (0xaa87ca22be8b05378eb1c71ef320ad746e1d3b628ba79b9859f741e082542a385502f25dbf55296c3a545e3872760ab7,
   0x3617de4a96262c6f5d9e98bf9292dc29f8f41dbd289a147ce9da3113b5f0b8c00a60b1ce1d7e819d7a431d7c90ea0e5f)

/-- b to the power of the low n bits of e, modulo m. -/
def powMod (m : Nat) : Nat → Nat → Nat → Nat
  | 0, _, _ => 1 % m
  | n + 1, b, e =>
    let r := powMod m n (b * b % m) (e / 2)
    if e % 2 = 1 then r * b % m else r

/-- The inverse modulo a prime of at most 384 bits. -/
def invMod (m x : Nat) : Nat := powMod m 384 (x % m) (m - 2)

/-- A point, none the point at infinity. -/
abbrev Pt := Option (Nat × Nat)

/-- The third point of a line of slope l through (x1, y1) and x2, mirrored. -/
def ptSlope (l x1 y1 x2 : Nat) : Nat × Nat :=
  let p := p384p
  let x := (l * l + 2 * p - x1 - x2) % p
  (x, (l * (x1 + p - x) + p - y1) % p)

/-- The sum of two points. -/
def ptAdd (a b : Pt) : Pt :=
  let p := p384p
  match a, b with
  | none, b => b
  | a, none => a
  | some (x1, y1), some (x2, y2) =>
    if x1 ≠ x2 then some (ptSlope ((y2 + p - y1) * invMod p (x2 + p - x1) % p) x1 y1 x2)
    else if y1 = y2 ∧ y1 ≠ 0 then some (ptSlope ((3 * x1 * x1 + p - 3) * invMod p (2 * y1) % p) x1 y1 x1)
    else none

/-- The low n bits of k times a point. -/
def ptMul : Nat → Nat → Pt → Pt
  | 0, _, _ => none
  | n + 1, k, a =>
    let r := ptMul n (k / 2) (ptAdd a a)
    if k % 2 = 1 then ptAdd r a else r

/-- A point lies on the curve (R655). -/
def onCurve (x y : Nat) : Bool :=
  decide (x < p384p ∧ y < p384p) && (y * y) % p384p == (x * x * x + (p384p - 3) * x + p384b) % p384p

/-- The 96 bytes of a point, 48 a coordinate, little-endian (R2). -/
def ptBytes (a : Pt) : List Byte := leBytes 48 (a.getD (0, 0)).1 ++ leBytes 48 (a.getD (0, 0)).2

/-- The coordinates that 96 bytes hold. -/
def ptOf (b : List Byte) : Nat × Nat := (leAt b 0 48, leAt b 48 48)

/-- A private scalar of a random value. -/
def scalarOf (r : Nat) : Nat := r % (p384n - 1) + 1

/-- The public point of a private scalar. -/
def ecPublic (d : Nat) : List Byte := ptBytes (ptMul 384 d (some p384g))

/-- The x coordinate of a private scalar times a public point. -/
def ecdh (d : Nat) (pub : List Byte) : Nat := ((ptMul 384 d (some (ptOf pub))).getD (0, 0)).1

/-- The number that ECDSA takes from the SHA-384 of a byte string. -/
def ecHash (m : List Byte) : Nat := beVal (sha384 m)

/-- The signature (r, s) of a byte string under a private scalar with a secret number k. -/
def ecdsaSign (d k : Nat) (m : List Byte) : List Byte :=
  let r := ((ptMul 384 k (some p384g)).getD (0, 0)).1 % p384n
  leBytes 48 r ++ leBytes 48 (invMod p384n k * (ecHash m + r * d) % p384n)

/-- A signature verifies under a public key. -/
def ecdsaVerify (pub m sig : List Byte) : Bool :=
  let q := ptOf pub
  let r := leAt sig 0 48
  let s := leAt sig 48 48
  let w := invMod p384n s
  match ptAdd (ptMul 384 (ecHash m * w % p384n) (some p384g)) (ptMul 384 (r * w % p384n) (some q)) with
  | some (x, _) => onCurve q.1 q.2 && decide (0 < r ∧ r < p384n ∧ 0 < s ∧ s < p384n) && x % p384n == r
  | none => false

end Sys2Proof.Machine
end

