-- ==== Sys2Proof/Machine/Ops.lean ====
section
/-! DEFINITION. The named operations over registers, machine time, domains and HBM that every command shares. -/

namespace Sys2Proof.Machine
open Sys2Proof

/-! ## Registers -/

/-- The byte offset of the 32-bit register that holds the lowest bit of a field (R699). -/
def Fld.off (f : Fld) : Nat := f.bit / 32 * 4

/-- The value a field holds. -/
def State.get (s : State) (f : Fld) : Nat := s.regs.get f

/-- Hold a value in a field. -/
def State.set (s : State) (f : Fld) (v : Nat) : State := { s with regs := s.regs.set f v }

/-- Add n to a counter field, which saturates at its width's maximum. -/
def State.addN (s : State) (f : Fld) (n : Nat) : State := s.set f (min (s.get f + n) (2 ^ f.width - 1))

/-- Count one event in a saturating counter field. -/
def State.inc (s : State) (f : Fld) : State := s.addN f 1

/-- A one-bit field as a flag. -/
def State.flag (s : State) (f : Fld) : Bool := s.get f != 0

/-- Hold a flag. -/
def State.setB (s : State) (f : Fld) (b : Bool) : State := s.set f (b2n b)

/-- The signed value of a field. -/
def State.getS (s : State) (f : Fld) : Int := sx f.width (s.get f)

/-- Hold a signed value. -/
def State.setS (s : State) (f : Fld) (v : Int) : State := s.set f (tc f.width v)

/-- The value in force of an ST field (R12). -/
def State.frc (s : State) (f : Fld) : Nat := s.force.get f

/-- The value of a field whose writes apply at stripe start or at the next start of frame (R15). -/
def State.app (s : State) (f : Fld) : Nat := s.strip.get f

/-- Keep the larger of a field's value and v. -/
def State.setMax (s : State) (f : Fld) (v : Nat) : State := s.set f (max (s.get f) v)

/-- Keep the smaller of a field's value and v. -/
def State.setMin (s : State) (f : Fld) (v : Nat) : State := s.set f (min (s.get f) v)

/-! ## Time -/

/-- The instant of an event: time never runs back. -/
def State.at (s : State) (t : Nat) : State := { s with clk := { s.clk with now := max s.clk.now t } }

/-- n nanoseconds in the model's unit of 1/1320 ns. -/
def ns (n : Nat) : Nat := 1320 * n

/-- n microseconds in the model's unit. -/
def us (n : Nat) : Nat := 1320000 * n

/-- n milliseconds in the model's unit. -/
def ms (n : Nat) : Nat := 1320000000 * n

/-- The codes of the events that come once in a period. -/
inductive Beat where
  | second | dieTemp | energy | govTick | setpoint
  | trim (i : Nat)
  deriving DecidableEq, Repr

/-- Where Clk.beats holds an event. -/
def Beat.code : Beat → Nat
  | .second => 0
  | .dieTemp => 1
  | .energy => 2
  | .govTick => 3
  | .setpoint => 4
  | .trim i => 8 + i

/-- The period p has passed since the last event of its kind. -/
def State.beatDue (s : State) (b : Beat) (p : Nat) : Bool :=
  match s.clk.beats.lookup b.code with
  | none => true
  | some l => decide (l + p ≤ s.clk.now)

/-- The event takes place now. -/
def State.beat (s : State) (b : Beat) : State := { s with clk := { s.clk with beats := s.clk.beats.put b.code s.clk.now } }

/-- One tick of CK_RING, 256/165 ns. -/
def ringTick : Nat := 2048

/-- A domain is on and out of reset (R703). -/
def State.domLive (s : State) (d : Dom) : Bool :=
  d == .aon || (bitOf (s.get F.PWR_DOM_STAT_ON) d.idx && !bitOf (s.get F.PWR_DOM_STAT_RST) d.idx)

/-- The blocks of a domain run: it is on and out of reset, and PERST_N does not hold those of PD_HOST (R686). -/
def State.domUp (s : State) (d : Dom) : Bool := s.domLive d && (d != .host || s.pins.perstN)

/-- Machine time at an instant t that runs from the value v of a tick at an instant u with an increment inc, to 2^-32 ns and
truncated (R713). -/
def mtLin (v u inc t : Nat) : Nat :=
  (((v : Int) + floorDiv ((inc : Int) * ((t : Int) - u)) ringTick) % ((2 ^ 96 : Nat) : Int)).toNat

/-- The effective increment of the last tick at or before an instant from the present law's start on (R713). -/
def State.incAt (s : State) (t : Nat) : Nat := if t < s.clk.tickAt + ringTick then s.clk.tickInc else s.get F.TIM_INC_EFF

/-- The law of machine time that held at an instant before the present one. -/
def Clk.lawAt (c : Clk) (t : Nat) : Option TimeLaw :=
  if t < c.since then (c.past.filter (fun p => decide (t < p.till))).getLast? else none

/-- Machine time at an instant, in 2^-32 ns, 96 bits (R713); a reset of PD_RING holds it at 0 (R481). -/
def State.mtAt (s : State) (t : Nat) : Nat :=
  if s.domUp .ring then
    match s.clk.lawAt t with
    | some p => mtLin p.value p.tick p.inc t
    | none => mtLin s.clk.mtime s.clk.tickAt (s.incAt t) t
  else 0

/-- Machine time in ns rounded half up (R713), of an instant resolved to a grid of g units. -/
def State.mtNs (s : State) (t g : Nat) : Nat := (s.mtAt (t / g * g) + 2 ^ 31) / 2 ^ 32 % 2 ^ 64

/-- Machine time in 2^-16 ns rounded half up (R713), of an instant resolved to a grid of g units. -/
def State.mtFr (s : State) (t g : Nat) : Nat := (s.mtAt (t / g * g) + 2 ^ 15) / 2 ^ 16 % 2 ^ 80

/-- Machine time at an instant resolved to 25 ps has reached a number of ns: no rounding (R495 to R497). -/
def State.mtReached (s : State) (t n : Nat) : Bool := decide (n * 2 ^ 32 ≤ s.mtAt (t / 33 * 33))

/-- The grids of R713: 25 ps, 50 ps and 1 ns. -/
def g25 : Nat := 33
/-- 50 ps. -/
def g50 : Nat := 66
/-- 1 ns. -/
def g1ns : Nat := 1320

/-- The next free value, and the state that has taken it (log entry 5). -/
def State.fresh (s : State) : Nat × State :=
  (Config.free s.clk.freeN, { s with clk := { s.clk with freeN := s.clk.freeN + 1 } })

/-- Record an output (log entry 3). -/
def State.emit (s : State) (x : Tx) : State := { s with out := s.out ++ [x] }

/-! ## HBM -/

/-- The first address above the stack (R239, R241). -/
def hbmTop : Nat := 0x600000000

/-- The cells with byte b at address a; zero bytes are not listed. -/
def cellPut (m : List Host.Cell) (a : Nat) (b : Byte) : List Host.Cell :=
  if b = 0 then SMap.erase m a else SMap.put m a b

/-- The byte at an address; an unlisted address reads 0 (log entry 4). -/
def cellGet (m : List Host.Cell) (a : Nat) : Byte := (m.lookup a).getD 0

/-- The cells with a string written from an address. -/
def cellPuts (m : List Host.Cell) (a : Nat) : List Byte → List Host.Cell
  | [] => m
  | b :: r => cellPuts (cellPut m a b) (a + 1) r

/-- The n bytes from an address. -/
def cellGets (m : List Host.Cell) (a n : Nat) : List Byte := (List.range n).map (fun i => cellGet m (a + i))

/-- The canonical form of a byte memory: addresses strictly rising, no byte 0 listed. -/
def cellsWf (m : List Host.Cell) : Bool := SMap.rising m && m.all (fun c => c.2 != 0)

/-- The HBM holds its canonical form. -/
def Mem.wf (m : Mem) : Bool := cellsWf m.cells

/-- The n bytes of HBM from an address. -/
def State.rd (s : State) (a n : Nat) : List Byte := cellGets s.mem.cells a n

/-- A unit lies among those of the n bytes from a. -/
def unitIn (a n u : Nat) : Bool := decide (0 < n ∧ a / 64 ≤ u ∧ u ≤ (a + n - 1) / 64)

/-- The first unit of the n bytes from a that reads poisoned for every source: at or above the stack (R241) or left
poisoned (R716), by its address. -/
def State.poisoned (s : State) (a n : Nat) : Option Nat :=
  if n = 0 then none
  else if hbmTop < a + n then some (max a hbmTop)
  else
    match s.mem.poison.filter (unitIn a n) with
    | [] => none
    | u :: r => some (max a (64 * r.foldl min u))

/-- The first unit of the n bytes from a whose read is on its way to a source poisoned (R257, R264), by its address. -/
def State.hurtIn (s : State) (src a n : Nat) : Option Nat :=
  match (s.mem.hurt.filter (fun p => p.1 == src && unitIn a n p.2)).map Prod.snd with
  | [] => none
  | u :: r => some (max a (64 * r.foldl min u))

/-- A read of n bytes at a by a source would be delivered whole and clean (R257). -/
def State.readsClean (s : State) (src a n : Nat) : Bool := (s.poisoned a n).isNone && (s.hurtIn src a n).isNone

/-- The poisoned reads on their way to a source within n bytes at a have been taken: poison belongs to a read (R716). -/
def State.taken (s : State) (src a n : Nat) : State :=
  { s with mem := { s.mem with hurt := s.mem.hurt.filter (fun p => !(p.1 == src && unitIn a n p.2)) } }

/-- The parts of a write of n bytes at a, one for each 64-byte access unit (address, length). -/
def unitSplit (a n : Nat) : List (Nat × Nat) :=
  if n = 0 then []
  else
    (List.range ((a + n - 1) / 64 - a / 64 + 1)).map (fun i =>
      let lo := max a (64 * (a / 64 + i))
      let hi := min (a + n) (64 * (a / 64 + i) + 64)
      (lo, hi - lo))

/-- A size of the partitions of HBM: the Forme's, or the default in the no-Forme condition (R239, R643). -/
def State.part (s : State) (f : Fld) (dflt : Nat) : Nat := if s.flag F.PWR_STATE_STAT_NO_FORME then dflt else s.get f
/-- The first byte after the Copy buffer (R239). -/
def State.copyTop (s : State) : Nat := s.part F.MEM_PART_COPY 4 * 2 ^ 30
/-- The first byte after the Galley. -/
def State.galleyTop (s : State) : Nat := s.copyTop + s.part F.MEM_PART_GALLEY 18 * 2 ^ 30
/-- The first byte after the Galley directory (R252). -/
def State.dirTop (s : State) : Nat := s.galleyTop + 320 * 2 ^ s.part F.MEM_PART_DIR_LOG2 17
/-- The first byte after the epoch image area (R432). -/
def State.imgTop (s : State) : Nat := s.dirTop + 2 ^ 23

/-- The n bytes at a lie wholly within the tables-and-records partition, outside the Galley directory and the epoch image
area (R240, R432). -/
def State.inTables (s : State) (a n : Nat) : Bool := decide (s.imgTop ≤ a ∧ a + n ≤ hbmTop)

/-- The controller accepts requests (R263). -/
def State.memUp (s : State) : Bool := s.domUp .hbm && s.flag F.MEM_STAT_RUN_ACK

/-! ## SRAM arrays (R268 to R271, R611) -/

/-- An array's state. -/
def State.arr (s : State) (a : Nat) : Sram := s.sram.get a Sram.fresh

/-- Hold an array's state. -/
def State.setArr (s : State) (a : Nat) (x : Sram) : State := { s with sram := s.sram.put a x }

/-- The upsets standing in a block. -/
def State.upsetsOf (s : State) (a blk : Nat) : List Upset := (s.arr a).upsets.get blk []

/-- Hold the upsets of a block; a consistent block lists none. -/
def State.setUpsets (s : State) (a blk : Nat) (l : List Upset) : State :=
  let x := s.arr a
  s.setArr a { x with upsets := if l.isEmpty then x.upsets.erase blk else x.upsets.put blk l }

/-- The upset stands in a byte from lo to hi of its block, as a data bit or as that byte's row parity: a write of those bytes
leaves none (R270). -/
def upsetIn (lo hi : Nat) : Upset → Bool
  | .data w b => decide (lo ≤ 8 * w.val + b.val / 8 ∧ 8 * w.val + b.val / 8 ≤ hi)
  | .row w y => decide (lo ≤ 8 * w.val + y.val ∧ 8 * w.val + y.val ≤ hi)
  | .col _ => false

/-- Whole blocks of an array are written: they are armed and consistent (R270, R271). -/
def State.sramFill (s : State) (a first n : Nat) : State :=
  let x := s.arr a
  let within (b : Nat) : Bool := decide (first ≤ b ∧ b < first + n)
  s.setArr a { x with armed := (first, n) :: x.armed.filter (fun p => !(decide (first ≤ p.1 ∧ p.1 + p.2 ≤ first + n)))
                      masks := x.masks.filter (fun p => !within p.1), upsets := x.upsets.filter (fun p => !within p.1) }

/-- The array address of the Daybook, the top 128 KiB of J7's memory (R611). -/
def dbkBase : Nat := 0xFE0000

/-- The blocks below the Daybook in array 3. -/
def dbkBlock : Nat := dbkBase / 64

end Sys2Proof.Machine
end

