-- ==== Sys2Proof/Machine/Flags.lean ====
section
/-! DEFINITION. Flags: cause bits and MSI-X messages, events sent to the Watch, Daybook records and the counted reads
and writes of HBM that raise them. -/

namespace Sys2Proof.Machine
open Sys2Proof

/-! ## MSI-X (R516, R518, R522) -/

/-- Word i of the MSI-X table; vector control words hold mask bit 0 set after reset (log entry 7). -/
def MsixSt.word (m : MsixSt) (i : Nat) : Nat := m.tbl.get i (if i % 4 = 3 then 1 else 0)

/-- The entry of a vector is masked, by its own bit, the function mask or a cleared enable. -/
def MsixSt.masked (m : MsixSt) (v : Nat) : Bool := !m.enable || m.fmask || bitOf (m.word (4 * v + 3)) 0

/-- Send the message of a vector, or set its PBA bit while it is masked (R522). -/
def State.msixSend (s : State) (v : Nat) : State :=
  if s.msix.masked v then { s with msix := { s.msix with pba := s.msix.pba ||| 2 ^ v } } else s.emit (.msix v)

/-- Set the cause bit of a vector; a bit that goes from 0 to 1 while enabled sends its message (R522). -/
def State.irq (s : State) (v : Nat) : State :=
  if !s.domUp .host then s
  else if bitOf (s.get F.PRT_IRQ_STAT) v then s
  else
    let s1 := s.set F.PRT_IRQ_STAT (s.get F.PRT_IRQ_STAT ||| 2 ^ v)
    if bitOf (s.get F.PRT_IRQ_EN) v then s1.msixSend v else s1

/-! ## Events to the Watch (R588) -/

/-- A source's state. -/
def State.wsrc (s : State) (n : Nat) : WSrc := s.watch.src.get n WSrc.idle

/-- Hold a source's state. -/
def State.setWsrc (s : State) (n : Nat) (w : WSrc) : State :=
  { s with watch := { s.watch with src := s.watch.src.put n w } }

/-- Put an event into a source's queue of 16; an event that finds it full is lost and counted. -/
def State.enq (s : State) (src kind addr : Nat) : Bool × State :=
  let w := s.wsrc src
  if w.queue.length < 16 then (true, s.setWsrc src { w with queue := w.queue ++ [⟨kind, addr⟩] })
  else (false, (s.inc F.WCH_LOST).set (F.WCH_SRC_STAT_OVF src) 1)

/-- The domains that a BLOCK_RESET of a source resets (R589); none where it is not allowed. -/
def blockDoms (src kind : Nat) : List Dom :=
  if 0x10 ≤ src ∧ src ≤ 0x1C then [.host]
  else if src = 0x1D then [.mgmt]
  else if 0x20 ≤ src ∧ src ≤ 0x2F then [.comp]
  else if 0x30 ≤ src ∧ src ≤ 0x37 then [.hbm]
  else if 0x38 ≤ src ∧ src ≤ 0x3B then [sramDom (kind % 4)]
  else if 0x40 ≤ src ∧ src ≤ 0x4F then [.plat, .bdla, .bdlb]
  else if 0x50 ≤ src ∧ src ≤ 0x5F then [.motion]
  else if 0x60 ≤ src ∧ src ≤ 0x6F then [.ring]
  else if 0x70 ≤ src ∧ src ≤ 0x77 then [.vision]
  else []

/-- The power domain of a source is off (R588): the domains of its range (R589) are.  Source 0x17 (R710) stays, which the
register windows raise and no unit of PD_HOST (DEDUCED, log entry 29). -/
def State.srcOff (s : State) (src kind : Nat) : Bool :=
  let l := blockDoms src kind
  src != 0x17 && !l.isEmpty && l.all (fun d => !bitOf (s.get F.PWR_DOM_STAT_ON) d.idx)

/-- Raise an event of a source (R586, R588): WCH_OVF follows a lost one; a source whose domain is off raises none. -/
def State.raise (s : State) (src kind addr : Nat) : State :=
  if !s.domUp .ctrl || s.srcOff src kind then s
  else
    match s.enq src (kind % 256) (addr % 2 ^ 48) with
    | (true, s1) => s1
    | (false, s1) => (s1.enq 0x08 0 0).2

/-! ## FAULT_N (R608 to R610) -/

/-- The level on the FAULT_N land of a powered part (R608, R610, R659, R688). -/
def State.faultHigh (s : State) : Bool :=
  s.pins.resetN && s.domUp .ctrl && !s.flag F.WCH_FAULTN_DRIVEN && !s.pins.faultOther && !s.pins.extest

/-- WCH_FAULTN.PIN shows the level on the land (R610). -/
def State.showPin (s : State) : State := s.setB F.WCH_FAULTN_PIN s.faultHigh

/-! ## The Daybook (R611 to R615) -/

/-- The Watch writes a slot of the Daybook in array 3 (R270, R611): no upset stands in the bytes written. -/
def State.dbkSram (s : State) (slot : Nat) : State :=
  let blk := dbkBlock + slot / 2
  match (s.arr 3).upsets.lookup blk with
  | none => s
  | some l => s.setUpsets 3 blk (l.filter (fun u => !upsetIn (slot % 2 * 32) (slot % 2 * 32 + 31) u))

/-- Write a record into its slot (R613). -/
def State.dbkPut (s : State) (code source supp time a0 a1 a2 : Nat) : State :=
  let seq := (s.get F.DBK_SEQ + 1) % 2 ^ 32
  let r : DRec := ⟨seq, code % 2 ^ 16, source % 256, min supp 127, time % 2 ^ 64, a0 % 2 ^ 32, a1 % 2 ^ 32, a2 % 2 ^ 32⟩
  (({ s with dbk := { s.dbk with slots := s.dbk.slots.put (seq % 4096) r } }).dbkSram (seq % 4096)).set F.DBK_SEQ seq

/-- Offer a record of a code under its rate limit (R615): key names the code that counts, forced records are always
written. -/
def State.dbkRec (s : State) (key : Nat) (forced : Bool) (code source time a0 a1 a2 : Nat) : State :=
  if !s.domUp .ctrl then s
  else
    let r := s.dbk.rates.get key ⟨false, 0, 0, 0, 0⟩
    let r := if r.opened && decide (s.clk.now < r.start + r.len) then r
             else ⟨true, s.clk.now, us (max 1 (s.get F.DBK_RATE_W)), 0, r.supp⟩
    let n := s.get F.DBK_RATE_N
    if forced || n == 0 || decide (r.count < n) then
      ({ s with dbk := { s.dbk with rates := s.dbk.rates.put key { r with count := r.count + 1, supp := 0 } } }).dbkPut
        code source r.supp time a0 a1 a2
    else
      ({ s with dbk := { s.dbk with rates := s.dbk.rates.put key { r with supp := r.supp + 1 } } }).inc F.DBK_SUPP

/-- Codes always written (R615): CLEAR, FAULT_N and STOP. -/
def dbkForced (code : Nat) : Bool := code == 2 || code == 3 || code == 4

/-- A record of the part at the present machine time. -/
def State.dbkNow (s : State) (code source a0 a1 a2 : Nat) : State :=
  s.dbkRec code (dbkForced code) code source (s.mtNs s.clk.now g1ns) a0 a1 a2

/-! ## HBM accesses that can raise (R241, R257, R716) -/

/-- A read delivered poisoned: counted, its address kept, HBM_POISON raised (R257, R285). -/
def State.poisonHit (s : State) (src a : Nat) : State :=
  if !s.domUp .hbm then s
  else
    (((s.inc F.MEM_POISON).set F.MEM_POISON_ADDR a).set F.MEM_POISON_ADDR_SRC src).raise 0x30 src a

/-- One access unit's share of a write (R241, R716): refused above the stack; a whole unit is stored and reads clean again;
a part of a unit is merged, but discarded where the merge read is poisoned: the unit then stays poisoned. -/
def State.wrUnit (s : State) (src a : Nat) (d : List Byte) : State :=
  if hbmTop ≤ a then s.raise 0x30 src a
  else if d.length = 64 then
    { s with mem := { s.mem with cells := cellPuts s.mem.cells a d, poison := s.mem.poison.filter (· != a / 64)
                                 hurt := s.mem.hurt.filter (fun p => p.2 != a / 64) } }
  else if s.mem.poison.contains (a / 64) then s.poisonHit src a
  else if s.mem.hurt.contains (src, a / 64) then
    { s with mem := { s.mem with poison := a / 64 :: s.mem.poison, hurt := s.mem.hurt.erase (src, a / 64) } }
  else { s with mem := { s.mem with cells := cellPuts s.mem.cells a d } }

/-- The controller carries out an accepted write, access unit by access unit in ascending order. -/
def State.wrNow (s : State) (src a : Nat) (d : List Byte) : State :=
  (unitSplit a d.length).foldl (fun s p => s.wrUnit src p.1 ((d.drop (p.1 - a)).take p.2)) s

/-- Write a string to HBM from a source: at once while the controller accepts requests, else once it does (R263). -/
def State.wr (s : State) (src a : Nat) (d : List Byte) : State :=
  if s.memUp then s.wrNow src a d else { s with mem := { s.mem with waiting := s.mem.waiting ++ [(src, a, d)] } }

/-- Read n bytes for a source, of a controller that accepts requests: none when a unit reads poisoned (R257).  A unit left
poisoned is counted and raised here, once for a fetch that meets several, at the lowest one's address (DESIGN CHOICE, log entry
112); a read on its way poisoned has been counted at its event and is taken. -/
def State.rdOr (s : State) (src a n : Nat) : Option (List Byte) × State :=
  match s.poisoned a n, s.hurtIn src a n with
  | some p, _ => (none, (s.taken src a n).poisonHit src p)
  | none, some _ => (none, s.taken src a n)
  | none, none => (some (s.rd a n), s)

/-! ## Domain resets -/

/-- The registers of a domain take their reset values (R14). -/
def State.resetRegs (s : State) (d : Dom) : State :=
  { s with regs := s.regs.resetDom d, force := s.force.resetDom d, strip := s.strip.resetDom d }

end Sys2Proof.Machine
end

