-- ==== Sys2Proof/Machine/Scan.lean ====
section
/-! DEFINITION. The fields of the Forme in force (R630 to R636) and the scan law that follows from them (chapter 2). -/

namespace Sys2Proof.Machine
open Sys2Proof

/-! ## The Forme -/

/-- The n-byte little-endian value at an offset of an image. -/
def imgN (i : Image) (o n : Nat) : Nat := leVal (cellGets i o n)

/-- Byte offset of section TYPE k, 1..5, in an image (R630). -/
def secOff (i : Image) (k : Nat) : Nat := imgN i (32 + 16 * (k - 1) + 4) 4

/-- Length of section TYPE k. -/
def secLen (i : Image) (k : Nat) : Nat := imgN i (32 + 16 * (k - 1) + 8) 4

/-- A field of section k of an image. -/
def secN (i : Image) (k o n : Nat) : Nat := imgN i (secOff i k + o) n

/-- A field of section k of the Forme in force; 0 before any takes force (R646). -/
def State.formeN (s : State) (k o n : Nat) : Nat :=
  match s.forme with
  | none => 0
  | some f => secN f.1 k o n

/-- The SHA-384 of the image in force (R631). -/
def State.formeHash (s : State) : Nat :=
  match s.forme with
  | none => 0
  | some f => leVal (sha384 (cellGets f.1 0 f.2))

/-- STRUCTURE fields (R633). -/
def State.scanPitch (s : State) : Nat := s.formeN 1 0 4
/-- SCAN_M. -/
def State.scanM (s : State) : Nat := s.formeN 1 4 1
/-- SCAN_P. -/
def State.scanP (s : State) : Nat := s.formeN 1 5 1
/-- SCAN_LEAD_MODE is MARGIN. -/
def State.leadMargin (s : State) : Bool := s.formeN 1 6 1 == 1
/-- BDL_MAP[l] of the Forme: the row base of lane l. -/
def State.mapBase (s : State) (l : Nat) : Nat := s.formeN 1 (16 + 2 * l) 2

/-- LIMITS fields (R633). -/
def State.limMaxValue (s : State) : Nat := s.formeN 2 0 1
/-- LIM_BEAM_DUTY. -/
def State.limBeamDuty (s : State) : Nat := s.formeN 2 4 2
/-- LIM_VEL_CEIL. -/
def State.limVelCeil (s : State) : Nat := s.formeN 2 6 2
/-- LIM_HEAD_SHOT. -/
def State.limHeadShot (s : State) : Nat := s.formeN 2 8 4
/-- LIM_HEAD_WINDOW. -/
def State.limHeadWindow (s : State) : Nat := s.formeN 2 12 4
/-- LIM_DEF_RANGE_X (axis 0) and LIM_DEF_RANGE_Y (axis 1). -/
def State.limDefRange (s : State) (a : Nat) : Nat := s.formeN 2 (16 + 4 * a) 4
/-- LIM_FAULT_PULSE, µs. -/
def State.limFaultPulse (s : State) : Nat := s.formeN 2 24 2

/-- Tally keeps no per-beam sums: no window check can fail (R303). -/
def State.tallyBypass (s : State) : Bool := s.forme.isSome && decide (1024 * s.limMaxValue ≤ s.limBeamDuty)

/-- POLICY byte o (R636). -/
def State.pol (s : State) (o n : Nat) : Nat := s.formeN 5 o n

/-! ## The scan law (R48 to R67) -/

/-- The three scan-law fields and the lead mode. -/
structure Scan where
  p : Nat
  m : Nat
  np : Nat
  margin : Bool
  deriving DecidableEq, Repr

/-- The scan law of the Forme in force. -/
def State.scan (s : State) : Scan := ⟨s.scanPitch, s.scanM, s.scanP, s.leadMargin⟩

/-- F: the side of the footprint, pixels (R50). -/
def Scan.side (g : Scan) : Nat := 512 * g.m
/-- A: the advance per cycle, pixels. -/
def Scan.adv (g : Scan) : Nat := 512 * g.m / g.np
/-- R: rows in one pass group. -/
def Scan.rows (g : Scan) : Nat := 512 / g.np
/-- C: shots per cycle. -/
def Scan.shots (g : Scan) : Nat := g.m * g.m
/-- q: the shot pitch, pu. -/
def Scan.q (g : Scan) : Nat := 512 * g.p / (g.np * g.m)
/-- L: the stage advance per cycle, pu. -/
def Scan.stageAdv (g : Scan) : Nat := g.adv * g.p
/-- N_cyc of a body of n cycles (R54). -/
def Scan.cycles (g : Scan) (n : Nat) : Nat := n + g.np - 1

/-- Direction d of a DIR bit: +1 forward, -1 reverse (R51). -/
def dirOf (dir : Nat) : Int := if dir = 0 then 1 else -1

/-- The sub-position (u, v) of shot s of a cycle (R55). -/
def Scan.sub (g : Scan) (s : Nat) : Nat × Nat :=
  let v := s / g.m
  let w := s % g.m
  (if v % 2 = 0 then w else g.m - 1 - w, v)

/-- Twice the nominal deflection in X and the one in Y of shot s of a cycle, pu (R56): 2·δx, δy. -/
def Scan.nominal2 (g : Scan) (dir s : Nat) : Int × Int :=
  let uv := g.sub s
  (dirOf dir * (2 * uv.1 * g.p - (2 * (s : Int) - ((g.shots : Int) - 1)) * g.q), uv.2 * g.p)

/-- A beam-shot: pass, shot, row, column. -/
structure BeamShot where
  pass : Nat
  shot : Nat
  row : Nat
  col : Nat
  deriving DecidableEq, Repr

/-- The leading index ρ0 of pass 0, the column c and the shot position s of pixel (x, y), with a = floor(x / A) (R59). -/
def Scan.place (g : Scan) (x : Int) (y : Nat) : Int × Nat × Nat × Nat :=
  let a := floorDiv x g.adv
  let e := (x - a * g.adv).toNat
  let u := e % g.m
  let v := y % g.m
  (a, g.rows - 1 - e / g.m, y / g.m, if v % 2 = 0 then v * g.m + u else v * g.m + (g.m - 1 - u))

/-- The row of leading index ρ (R53). -/
def rowOf (dir rho : Nat) : Nat := if dir = 0 then rho else 511 - rho

/-- The beam-shots that write pixel (x, y) of a stripe with N_cyc cycles (R59). -/
def Scan.beamShots (g : Scan) (dir ncyc : Nat) (x : Int) (y : Nat) : List BeamShot :=
  let (a, rho0, c, s) := g.place x y
  (List.range g.np).filterMap (fun (j : Nat) =>
    let k := a + (j : Int)
    if 0 ≤ k ∧ k ≤ (ncyc : Int) - 1 then
      some ⟨j, k.toNat * g.shots + s, rowOf dir (rho0 + j * g.rows), c⟩
    else none)

/-- The rows r_j of the P beams that write pixel (x, y), every pass counted, and their column (R62). -/
def Scan.gainBeams (g : Scan) (dir : Nat) (x : Int) (y : Nat) : List (Nat × Nat) :=
  let (_, rho0, c, _) := g.place x y
  (List.range g.np).map (fun j => (rowOf dir (rho0 + j * g.rows), c))

/-- The pixel (x, y) that beam (r, c) writes in shot n, and its pass (R60). -/
def Scan.pixelOf (g : Scan) (dir n r c : Nat) : Int × Nat × Nat :=
  let k := n / g.shots
  let uv := g.sub (n % g.shots)
  let rho := if dir = 0 then r else 511 - r
  (((k : Int) - g.np + 1) * g.adv + ((511 : Int) - rho) * g.m + uv.1, c * g.m + uv.2, rho / g.rows)

/-- The launch position x₀ of a stripe (R67). -/
def Scan.launch (g : Scan) (dir : Nat) (xs : Int) : Int :=
  let k2 : Int := (2 * ((g.np : Int) - 1) * g.shots + ((g.shots : Int) - 1)) * g.q
  if dir = 0 then xs + 511 * g.m * g.p - k2 / 2 else xs + k2 / 2

/-- First and last column of the rasterised window of a body of n cycles (R136). -/
def Scan.window (g : Scan) (n : Nat) : Int × Int :=
  let len : Int := n * g.adv
  if g.margin then (-(((g.np : Int) - 1) * g.adv), len + ((g.np : Int) - 1) * g.adv - 1) else (0, len - 1)

/-- A stripe pixel lies in a lead zone (R65). -/
def Scan.inLead (g : Scan) (n : Nat) (x : Int) : Bool := decide (x < 0 ∨ (n * g.adv : Int) ≤ x)

/-- C, at least 1. -/
def State.cyc (s : State) : Nat := max 1 s.scan.shots

/-- The Chase window in bytes (R49): the footprint's doses and the reorder area, F·(F + A). -/
def Scan.chase (g : Scan) : Nat := g.side * (g.side + g.adv)

/-- The pass group that a lane's rows lie in, in a direction (R171, R173). -/
def State.passGroup (s : State) (dir l : Nat) : Nat := rowOf dir (s.mapBase l) / max 1 s.scan.rows

/-- The lanes in the order in which the Compositor produces a cycle's tiles (R173): ascending pass group, then ascending
lane. -/
def State.laneOrder (s : State) (dir : Nat) : List Nat :=
  (List.range 8).flatMap (fun j => (List.range 32).filter (fun l => s.passGroup dir l == j))

end Sys2Proof.Machine
end

