-- ==== Sys2Proof/Machine/Stops.lean ====
section
/-! DEFINITION. The open queue as the registers show it (R419, R460, R718, R76) and the one operation through which every
cause stops a stripe or cancels an arming (R427, R428, R438). -/

namespace Sys2Proof.Machine
open Sys2Proof

/-! ## Views of the queue -/

/-- The current stripe: the oldest of the open queue (R418). -/
def State.cur (s : State) : Option Stripe := s.asy.queue.head?

/-- The current stripe is ARMED or RUNNING (R719). -/
def State.armedOrRunning (s : State) : Bool :=
  match s.cur with
  | some c => c.st == .armed || c.st == .running
  | none => false

/-- An ARM is waiting (R423). -/
def State.armWaiting (s : State) : Bool := s.asy.arm.isSome

/-- The code of ASY_CUR_STAT.STATE (R460). -/
def StripeSt.code : StripeSt → Nat
  | .opened => 1 | .armed => 2 | .running => 3 | .stopped => 4 | .ended => 5

/-- The stripe being composed: the oldest of the queue whose last cycle is not published (R718); cycles counts a stripe's
cycles from 0, a mend pass ends after its last cycle. -/
def Stripe.lastCycle (x : Stripe) : Nat :=
  match x.mend with
  | some m => m.kLast
  | none => x.cyc - 1

/-- The first cycle of a stripe: k_first of a mend pass (R449). -/
def Stripe.firstCycle (x : Stripe) : Nat :=
  match x.mend with
  | some m => m.kFirst
  | none => 0

/-- Composition of a stripe is finished. -/
def Stripe.composed (x : Stripe) : Bool := decide (x.lastCycle < x.comp.nextCycle)

/-- The stripe being composed (R718). -/
def State.composing (s : State) : Option Stripe := s.asy.queue.find? (fun x => !x.composed)

/-- The ASY registers show the current stripe (R421, R460, R461). -/
def State.showCur (s : State) : State :=
  let s := s.set F.ASY_CUR_STAT_QUEUED s.asy.queue.length
  match s.cur with
  | none => ((s.set F.ASY_CUR_STAT_STATE 0).set F.ASY_CUR_STAT_RESUMES 0).set F.ASY_CUR_ID 0
  | some c =>
    ((((s.set F.ASY_CUR_STAT_STATE c.st.code).set F.ASY_CUR_STAT_RESUMES (min c.resumes 0xFFFF)).set
      F.ASY_CUR_ID c.id).set F.ASY_DARN_COUNT c.darnCount).set F.ASY_SDIG c.sdig

/-- The Compositor registers show a stripe (R145, R146, R190, R191, R718). -/
def State.showStripe (s : State) (x : Stripe) : State :=
  let c := x.comp
  let s := ((((s.setS F.CMP_RAS_X c.nextCol).set F.CMP_RAS_INST c.inst).set F.CMP_RAS_PIX c.pix).set F.CMP_LDIG c.ldig)
  let s := ((s.set F.CMP_BIND_CFG x.cfgEpoch).set F.CMP_BIND_GAIN x.gainEpoch).set F.CMP_EQ_SAT (min c.eqSat 0xFFFFFFFF)
  let s := ((s.setB F.CMP_HALO_STAT_PREPASS c.prepass).setB F.CMP_HALO_STAT_YLO_OK c.yloOk).setB
    F.CMP_HALO_STAT_YHI_OK c.yhiOk
  let s := ((s.set F.CMP_DPV_WR c.dpvWr).set F.CMP_DPV_BEAM (min c.dpvBeam 0xFFFFFFFF)).set F.CMP_DPV_SHOT
    (min c.dpvShot 0xFFFFFFFF)
  (s.set F.CMP_QUIRE_IN c.quireIn).set F.CMP_QUIRE_OUT c.quireOut

/-- The Compositor registers show the stripe being composed; while there is none they keep the last one's values (R718). -/
def State.showComp (s : State) : State :=
  match s.composing with
  | none => s
  | some x => s.showStripe x

/-- The ESC_CUR registers take the parameters of a stripe when it becomes current, and TIME_LAUNCH with them (R76, R412,
R420). -/
def State.showEsc (s : State) (x : Stripe) : State :=
  if !s.domUp .motion then s
  else
    (((((((s.set F.ESC_CUR_CTL_DIR x.dir).set F.ESC_CUR_CTL_OPEN 1).set F.ESC_CUR_BODY x.body).set
      F.ESC_CUR_CYCLES x.cyc).setS F.ESC_CUR_XS x.xs).setS F.ESC_CUR_YS x.ys).setS F.ESC_CUR_X0 x.x0).setB
      F.ESC_STAT_TIME_LAUNCH x.timeLaunch

/-- Hold the queue and show it. -/
def State.setQueue (s : State) (q : List Stripe) : State :=
  let s := { s with asy := { s.asy with queue := q } }
  let s := s.showCur
  if s.domUp .comp then s.showComp else s

/-- Replace the current stripe. -/
def State.setCur (s : State) (x : Stripe) : State :=
  match s.asy.queue with
  | [] => s
  | _ :: r => s.setQueue (x :: r)

/-- Replace a stripe of the queue by its identity. -/
def State.setStripe (s : State) (x : Stripe) : State :=
  s.setQueue (s.asy.queue.map (fun y => if y.id = x.id then x else y))

/-! ## Launches that name the current stripe -/

/-- This part's device number on the ring. -/
def State.device (s : State) : Nat := s.get F.KOR_DEV_DEVICE

/-- A LAUNCH names a stripe of device i that was opened for a ring launch (R494, R496). -/
def launchNames (m : LaunchMsg) (i : Nat) (x : Stripe) : Bool :=
  bitOf m.group i && x.launch == 1 && x.id == m.stripes.getD i 0 % 2 ^ 16 + m.mend % 2 ^ 8 * 2 ^ 16 + m.layer % 2 ^ 32 * 2 ^ 24

/-- The current stripe where a LAUNCH names it. -/
def State.named (s : State) (m : LaunchMsg) : Option Stripe := s.cur.filter (launchNames m s.device)

/-- A LAUNCH held names the current stripe (R496, R499). -/
def State.heldNames (s : State) : Bool := (s.kor.held.map (fun h => (s.named h.msg).isSome)).getD false

/-! ## The lead of composition (R183, R194) -/

/-- The number of published cycles of the current stripe beyond the cycle of the shot counter; 0 unless it is ARMED or
RUNNING. -/
def State.leadNow (s : State) : Nat :=
  match s.cur, s.esc.att with
  | some x, some a =>
    if x.st = .armed ∨ x.st = .running then
      let c := s.cyc
      let k : Int := match a.due with
        | some d => ((d.1 / c : Nat) : Int)
        | none => ((a.na / c : Nat) : Int) - 1
      min ((s.mem.published.filter (fun p => p.stripe == x.id && decide (k < (p.cycle : Int)))).length) (2 ^ 24 - 1)
    else 0
  | _, _ => 0

/-- CMP_LEAD and CMP_LEAD_MIN follow the lead; a fall below CMP_LEAD_WARN raises LEAD_LOW.  CMP_LEAD_MIN takes a lead as an
event brings the lead about, so that a second read with the lead unchanged between gives 0x00FF_FFFF (DESIGN CHOICE, log
entry 72). -/
def State.showLead (s : State) : State :=
  if !s.domUp .comp then s
  else
    let was := s.get F.CMP_LEAD
    let now := s.leadNow
    let s := s.set F.CMP_LEAD now
    if s.armedOrRunning then
      let s := s.setMin F.CMP_LEAD_MIN now
      let w := s.get F.CMP_LEAD_WARN
      if w ≤ was ∧ now < w then s.raise 0x22 0 0 else s
    else s

/-! ## Results and stops -/

/-- Report a command's result (R423, R460): ASY_CMD_STAT and vector 7; WAITING stays while an ARM waits. -/
def State.cmdResult (s : State) (op result : Nat) : State :=
  ((((s.set F.ASY_CMD_STAT_OP op).set F.ASY_CMD_STAT_RESULT result).setB F.ASY_CMD_STAT_WAITING s.armWaiting).set
    F.ASY_CMD_STAT_VALID 1).irq 7

/-! ## BEAM_ENABLE, lanes and modes as stops move them -/

/-- Every lane in LIVE returns to IDLE (R356, R439). -/
def State.lanesIdle (s : State) : State :=
  (List.range 32).foldl (fun s l => if s.get (F.BDL_STAT_STATE l) = 4 then s.set (F.BDL_STAT_STATE l) 2 else s) s

/-- The Governor changes to a mode; its next tick presets h (R408).  The mode in force is no change. -/
def State.govMode (s : State) (m : Nat) : State :=
  if s.domUp .motion && s.get F.GOV_STAT_MODE != m then { s.set F.GOV_STAT_MODE m with gov := { s.gov with entered := true } } else s

/-- No request for a mode is pending. -/
def State.noPend (s : State) : State := ({ s with gov := { s.gov with pend := none } }).set F.GOV_STAT_REQ_PEND 0

/-- TRACK ends, or the stripe whose TRACK has ended does: a pending mode takes over; without one the mode of AFTER follows
TRACK (R407). -/
def State.leaveTrack (s : State) : State :=
  match s.gov.pend with
  | some m => s.noPend.govMode m
  | none => if s.get F.GOV_STAT_MODE = 2 then s.govMode (if s.get F.GOV_MODE_AFTER = 1 then 1 else 0) else s

/-! ## Stops -/

/-- The next shot of the attempt to fall due (R438). -/
def State.nextDue (s : State) : Nat :=
  match s.esc.att with
  | none => 0
  | some a =>
    match a.due with
    | some d => d.1 + 1
    | none => a.na

/-- The Daybook keeps a further cause of a stop (R438) or one that came too late (R428): code 0x0005. -/
def State.dbkStopOther (s : State) (cause n : Nat) : State :=
  s.dbkNow 5 0xFF cause (n % 2 ^ 32) (n / 2 ^ 32)

/-- Bar the shots of the attempt from n on (R439 step 1). -/
def State.bar (s : State) (n : Nat) : State :=
  match s.esc.att with
  | none => s
  | some a => { s with esc := { s.esc with att := some { a with
      bar := some (match a.bar with | none => n | some b => min b n)
      fixed := a.fixed.filter (fun x => x.shot < n) } } }

/-- The stripe returns to the state it held before the ARM (R426, R427, R497). -/
def State.unarm (s : State) (x : Stripe) : State :=
  let back : StripeSt := if x.resume.isSome then .stopped else .opened
  let s := { s with asy := { s.asy with arm := none, awaitLaunch := false }
                    esc := { s.esc with att := none } }
  (((s.setCur { x with st := back }).lanesIdle).leaveTrack).set F.CMP_LEAD 0

/-- An ARM fails with a result (R425). -/
def State.armFail (s : State) (code : Nat) : State :=
  match s.cur with
  | none => s
  | some x => (s.unarm x).cmdResult 2 code

/-- The arming is cancelled (R427): the stripe returns to the state it held before the ARM, the cause is recorded. -/
def State.cancelArm (s : State) (x : Stripe) (cause n : Nat) : State :=
  let s := s.unarm x
  let s := ((s.set F.ASY_STOP_CAUSE cause).set F.ASY_STOP_MORE 0).set F.ASY_STOP_VALID 1
  let s := s.irq 8
  let s := s.dbkNow 4 0xFF (cause + 32) (n % 2 ^ 32) (n / 2 ^ 32)
  s.cmdResult 2 17

/-- A stop cause with its first shot not written (R438, R427, R428). -/
def State.stopAt (s : State) (cause n : Nat) : State :=
  match s.cur with
  | none => s
  | some x =>
    if x.st = .running then
      match s.esc.att, s.asy.stop with
      | none, _ => s
      | some a, none =>
        if a.last < n then s.dbkStopOther cause n
        else ({ s with asy := { s.asy with stop := some ⟨cause, n, false, false⟩ } }).bar n
      | some a, some r =>
        if r.cause = cause then
          ({ s with asy := { s.asy with stop := some { r with ns := min r.ns n } } }).bar n
        else if a.last < n then s.dbkStopOther cause n
        else if n < r.ns ∨ (n = r.ns ∧ cause < r.cause) then
          ((({ s with asy := { s.asy with stop := some ⟨cause, n, true, r.noCkpt⟩ } }).bar n).dbkStopOther r.cause r.ns)
        else ({ s with asy := { s.asy with stop := some { r with more := true } } }).dbkStopOther cause n
    else if x.st = .armed ∨ s.asy.arm.isSome then s.cancelArm x cause n
    else s

/-- A stop from the next shot to fall due. -/
def State.stopNext (s : State) (cause : Nat) : State := s.stopAt cause s.nextDue

/-- A stop of a stripe that is ARMED or RUNNING; a waiting ARM waits on (R323). -/
def State.stopArmed (s : State) (cause : Nat) : State := if s.armedOrRunning then s.stopNext cause else s

/-- BEAM_ENABLE is high only while every condition of R310 holds, and under R312 and R659. -/
def State.beamCond (s : State) : Bool :=
  s.domUp .plat && s.domUp .bdla && s.domUp .bdlb && s.get F.HED_AUTH_STAT_STATE == 2
    && !s.flag F.HED_BEAM_STAT_INHIBIT && s.flag F.HED_BEAM_CTL_ENABLE && !s.hed.reen
    && !s.flag F.WCH_FAULTN_DRIVEN && !s.pins.extest

/-- BEAM_ENABLE follows its conditions; a fall stops a stripe with cause ENABLE (R311) unless the inhibit latch caused it. -/
def State.beam (s : State) (inh : Bool) : State :=
  let was := s.flag F.HED_BEAM_STAT_ENABLE_OUT
  let on := s.beamCond
  let s := s.setB F.HED_BEAM_STAT_ENABLE_OUT on
  if was && !on && !inh then s.stopArmed 3 else s

end Sys2Proof.Machine
end

