-- ==== Sys2Proof/Machine/RingTx.lean ====
section
/-! DEFINITION. What the ring port sends (R464, R468, R470, R480): sequence numbers, routes, unicasts and broadcasts. -/

namespace Sys2Proof.Machine
open Sys2Proof

/-- Ring roles (R463): 0 NONE, 1 MEMBER, 2 MASTER. -/
def State.role (s : State) : Nat := s.get F.KOR_ROLE

/-- Both bypasses are open (R464, KOR_STAT.IN_RING). -/
def State.inRing (s : State) : Bool := s.domUp .ring && s.flag F.KOR_STAT_IN_RING

/-- The part is admitted (R479). -/
def State.admitted (s : State) : Bool := s.domUp .ring && s.flag F.KOR_STAT_ADMITTED

/-- Both ring transmitters are sending: REFCLK is there and the PLL of CK_RING is locked (R464, log entry 107). -/
def State.ringSends (s : State) : Bool := s.pins.refclk && s.pins.ringPll

/-- The master owes a discovery (R477). -/
def State.oweDisc (s : State) : State :=
  if s.role = 2 then { s with kor := { s.kor with discDue := some s.clk.now } } else s

/-- The bypasses follow their conditions (R464); a master owes a discovery as it joins (R477). -/
def State.bypass (s : State) : State :=
  let was := s.flag F.KOR_STAT_IN_RING
  let s := s.setB F.KOR_STAT_IN_RING
    (s.role != 0 && s.domUp .ring && s.flag F.KOR_CTL_JOIN && s.flag F.KOR_DEV_VALID && s.ringSends)
  if !was && s.flag F.KOR_STAT_IN_RING then s.oweDisc else s

/-! ## Transmitters (R467, R470, R475) -/

/-- The class of a payload (R470). -/
def RPay.cls : RPay → Nat
  | .sync _ _ _ | .pdReq | .pdResp _ _ => 0
  | .launch _ | .report _ => 1
  | .haloData _ _ _ _ | .haloAck _ _ _ _ => 2
  | .fault _ => 3
  | .topo _ | .topoResult _ | .link _ => 4
  | .mail _ _ _ => 5

/-- The length of a payload (R471, R477, R480, R483, R484, R494, R499, R501, R506). -/
def RPay.len : RPay → Nat
  | .sync _ _ _ => 32
  | .pdReq => 16
  | .pdResp _ _ => 24
  | .launch _ => 176
  | .report _ => 32
  | .haloData _ _ _ d => 16 + d.length
  | .haloAck _ _ _ _ => 16
  | .fault _ => 24
  | .topo m => 16 + 16 * m.entries.length
  | .topoResult m => 16 + 16 * m.entries.length
  | .link _ => 16
  | .mail _ _ d => 16 + d.length

/-- The seed of a ring frame (R467). -/
def ringSeed (r src seq cls : Nat) : Nat := 2 ^ 30 + r * 2 ^ 27 + src * 2 ^ 21 + seq * 2 ^ 5 + cls

/-- The place of a class in the order in which a transmitter serves its queues (R470). -/
def ringPrio (cls : Nat) : Nat := [1, 2, 4, 3, 5, 6].getD cls 6

/-- The time of a frame on the line, in fifths of the model's unit: SYNC, header, payload and CRC at 256 fifths a bit
(R466, R467). -/
def ringDur (len : Nat) : Nat := 256 * (160 + 8 * len)

/-- The transmitter of a ring. -/
def State.ringOut (s : State) (r : Nat) : RingOut := s.kor.outs.get r ⟨0, [], none⟩

/-- Hold a transmitter. -/
def State.setRingOut (s : State) (r : Nat) (o : RingOut) : State :=
  { s with kor := { s.kor with outs := s.kor.outs.put r o } }

/-- A frame starts on the line of a ring, at the present instant or when the line is free. -/
def State.ringStart (s : State) (r : Nat) (o : RingOut) (f : RingWait) (at_ : Nat) : State :=
  (s.setRingOut r { o with free := at_ + ringDur f.len, sent := some (f.seed, 96 + 8 * f.len) }).emit f.tx

/-- The frame that leaves next: of the class served first, the one that came first (R470). -/
def RingOut.pick (o : RingOut) : Option (RingWait × RingOut) :=
  match (List.range 7).findSome? (fun p => o.queue.findIdx? (fun f => ringPrio f.cls == p)) with
  | none => none
  | some i => (o.queue[i]?).map (fun f => (f, { o with queue := o.queue.eraseIdx i }))

/-- The frames that have left a ring's queues by the present instant; n bounds their number. -/
def State.ringDrain (s : State) (r : Nat) : Nat → State
  | 0 => s
  | n + 1 =>
    let o := s.ringOut r
    if 5 * s.clk.now < o.free then s
    else
      match o.pick with
      | none => s
      | some (f, o) => (s.ringStart r o f o.free).ringDrain r n

/-- Serve a ring's queues up to the present instant. -/
def State.ringServe (s : State) (r : Nat) : State := s.ringDrain r (s.ringOut r).queue.length

/-- The reference point of a frame of class TIME sent now on a ring: it is served first, and no frame on the line is cut off
(R470, R475). -/
def State.ringNext (s : State) (r : Nat) : Nat := max s.clk.now (((s.ringServe r).ringOut r).free / 5)

/-- A frame goes to a ring's transmitter (R470, R475): out at once where the line is free, at its reference point where it is of
class TIME, else into its queue; a full queue but that of LAUNCH drops it. -/
def State.ringPut (s : State) (r : Nat) (f : RingWait) : State :=
  let s := s.ringServe r
  let o := s.ringOut r
  let now := 5 * s.clk.now
  if f.cls = 0 ∨ (o.queue.isEmpty ∧ o.free ≤ now) then s.ringStart r o f (max now o.free)
  else if f.cls ≠ 1 ∧ Config.ringRoom f.cls ≤ (o.queue.filter (fun x => x.cls == f.cls)).length then
    (s.inc F.KOR_DROP).raise 0x68 0 0
  else s.setRingOut r { o with queue := o.queue ++ [f] }

/-- A frame to a ring's transmitter, by its fields. -/
def State.ringFrame (s : State) (r src dst seq : Nat) (bcast : Bool) (hops : Nat) (p : RPay) : State :=
  s.ringPut r ⟨p.cls, p.len, ringSeed r src seq p.cls, .ring r src dst seq bcast hops p⟩

/-- The next SEQ of a message the part originates (R468). -/
def State.ringSeq (s : State) : Nat × State :=
  (s.kor.seq, { s with kor := { s.kor with seq := (s.kor.seq + 1) % 2 ^ 16 } })

/-- Send one frame on ring r. -/
def State.ringOn (s : State) (r dst : Nat) (bcast : Bool) (p : RPay) : State :=
  if s.inRing then
    let (q, s) := s.ringSeq
    s.ringFrame r (s.get F.KOR_DEV_DEVICE) dst q bcast 0 p
  else s

/-- Send a broadcast on both rings under one SEQ (R468, R470), with the payload of each ring. -/
def State.ringPair (s : State) (a b : RPay) : State :=
  if s.inRing then
    let (q, s) := s.ringSeq
    let d := s.get F.KOR_DEV_DEVICE
    (s.ringFrame 0 d 0 q true 0 a).ringFrame 1 d 0 q true 0 b
  else s

/-- Send a broadcast on both rings. -/
def State.ringBoth (s : State) (p : RPay) : State := s.ringPair p p

/-- The index of a device in the ring-A order. -/
def State.ringIndex (s : State) (dev : Nat) : Option Nat := s.kor.order.findIdx? (fun e => e.device == dev)

/-- A path of d links from index i upward through the ring-A order of n entries crosses the break after index b. -/
def crossesBreak (n i d b : Nat) : Bool := decide ((b + n - i) % n < d)

/-- The ring on which a unicast to a device leaves (R480): fewer live parts crossed and no break; ring A on a tie. -/
def State.route (s : State) (dst : Nat) : Option Nat :=
  match s.ringIndex (s.get F.KOR_DEV_DEVICE), s.ringIndex dst with
  | some i, some j =>
    let n := s.kor.order.length
    let dA := (j + n - i) % n
    let dB := (i + n - j) % n
    let broken := s.flag F.KOR_TOPO_STAT_BROKEN
    let b := s.get F.KOR_TOPO_STAT_BREAK
    let okA := !(broken && crossesBreak n i dA b)
    let okB := !(broken && crossesBreak n j dB b)
    if okA && (!okB || decide (dA ≤ dB)) then some 0
    else if okB then some 1
    else none
  | _, _ => none

/-- Send a unicast (R480): no whole path, and it is counted and not sent. -/
def State.ringUni (s : State) (dst : Nat) (p : RPay) : State :=
  match s.route dst with
  | some r => s.ringOn r dst false p
  | none => s.inc F.KOR_UNREACH

/-- Share a fault message over the ring (R506). -/
def State.ringFault (s : State) (m : FMsg) : State := s.ringBoth (.fault m)

/-- The LFLAGS of the part's inputs (R477). -/
def State.lflags (s : State) : Nat := s.get (F.KOR_LINK_STAT_UP 0) + 2 * s.get (F.KOR_LINK_STAT_UP 1)

/-- A LINK frame on a change of either input (R480); the master then owes a discovery (R477). -/
def State.ringLink (s : State) : State :=
  (s.ringBoth (.link s.lflags)).oweDisc

/-- Receiver state of input p. -/
def State.ringIn (s : State) (p : Nat) : RingIn := s.kor.ins.get p ⟨.start, 0, [], none, none⟩

/-- Hold a receiver's state. -/
def State.setRingIn (s : State) (p : Nat) (r : RingIn) : State :=
  { s with kor := { s.kor with ins := s.kor.ins.put p r } }

/-- Input p is up, or down: a change is told in a LINK frame (R480), and one that goes down raises RING_LINK (R466). -/
def State.ringIsUp (s : State) (p : Nat) (up : Bool) : State :=
  if s.flag (F.KOR_LINK_STAT_UP p) = up then s
  else
    let s := s.setB (F.KOR_LINK_STAT_UP p) up
    (if up then s else s.raise 0x60 0 0).ringLink

/-- The receiver of input p enters START (R362, R466). -/
def State.ringRxStart (s : State) (p : Nat) : State :=
  (s.setRingIn p { s.ringIn p with rx := { Bsr.start with since := s.clk.now }, badRun := 0 }).set (F.KOR_LINK_STAT_STATE p) 1

/-- A receiver in SERVICE returns to START, and its input is down (R362, R466). -/
def State.ringDown (s : State) (p : Nat) : State :=
  if s.get (F.KOR_LINK_STAT_STATE p) = 2 then (s.ringRxStart p).ringIsUp p false else s

/-- A pass through START at the line rate of the ring: 16 holds of 2^20 bits, and 1 ms (R362, R466). -/
def ringStartTime : Nat := 858993460 + ms 1

/-- The ring ports start, or are off where the role is NONE (R463). -/
def State.ringPorts (s : State) : State :=
  if s.role = 0 then
    let s := (List.range 2).foldl (fun s p => ((s.set (F.KOR_LINK_STAT_STATE p) 0).set (F.KOR_LINK_STAT_UP p) 0).set
      (F.KOR_LINK_STAT_FOM p) 0) s
    (({ s with kor := { s.kor with ins := [], outs := [] } }).set F.KOR_STAT_ADMITTED 0).set F.BDL_DEVICE 0
  else (List.range 2).foldl State.ringRxStart s

end Sys2Proof.Machine
end

