-- ==== Sys2Proof/Machine/Watch.lean ====
section
/-! DEFINITION. The Watch (R586 to R610): events taken, severity, reactions, escalation, FAULT_N, and core records of the
Daybook (R616). -/

namespace Sys2Proof.Machine
open Sys2Proof

/-! ## Causes (R592, R670) -/

/-- An enabled camera port has a data lane out of lock (R592). -/
def State.camLaneOut (s : State) (p : Nat) : Bool :=
  let n := match s.get (F.VIS_PORT_CTL_LANES p) with | 0 => 1 | 1 => 2 | 2 => 2 | _ => 4
  s.flag (F.VIS_PORT_CTL_EN p) && (List.range n).any (fun l => !bitOf (s.get (F.VIS_PORT_STAT_LANE_UP p)) l)

/-- A position port of role X or Y is not in SERVICE, or is frozen. -/
def State.posLost (s : State) (n : Nat) : Bool :=
  let r := s.get (F.ESC_POS_CTL_ROLE n)
  (r == 1 || r == 2) && (s.get (F.ESC_POS_STAT_STATE n) != 2 || s.flag (F.ESC_POS_STAT_FROZEN n))

/-- The condition of a level source; none for an event source (R592, R670). -/
def State.levelCause (s : State) (src : Nat) : Option Bool :=
  match src with
  | 0x00 => some s.pins.vinLow
  | 0x01 => some (decide (125 < s.pins.dieTemp))
  | 0x03 => some (!s.pins.refclk)
  | 0x05 => some (!s.pins.vbakOk)
  | 0x0A => some (!s.flag F.LGR_STAT_CAL_VALID)
  | 0x10 => some (s.domLive .host && !s.flag F.PRT_HL_STAT_DL_UP)
  | 0x1D => some (s.domUp .mgmt && !s.flag F.MGT_STAT_LINK && s.flag F.MGT_CTL_EN)
  | 0x33 => some (s.domUp .hbm && decide (125 < s.getS F.MEM_TEMP_T))
  | 0x43 => some (s.domUp .bdlb && s.flag F.HED_BEAM_STAT_INHIBIT)
  | 0x46 => some (s.domUp .bdlb && s.flag F.HED_BEAM_STAT_TELEM_STALE)
  | 0x4C => some (s.domUp .bdlb && (List.range 4).any (fun k => s.get (F.BDL_RX_STAT_STATE k) != 2))
  | 0x50 => some (s.domUp .motion && (List.range 3).any s.posLost)
  | 0x55 => some (s.domUp .motion && s.flag F.GOV_STAT_HV_BAD)
  | 0x60 => some (s.domUp .ring && s.role != 0 && (List.range 2).any (fun p => !s.flag (F.KOR_LINK_STAT_UP p)))
  | 0x63 => some (s.domUp .ring && s.flag F.TIM_STAT_HOLDOVER)
  | 0x70 => some (s.domUp .vision && (List.range 2).any s.camLaneOut)
  | 0x76 => some (s.domUp .vision && !s.vis.defBad.isEmpty)
  | 0x78 => some (s.sec.levels.contains 0)
  | 0x7C => some (s.sec.levels.contains 4)
  | _ => none

/-- The counting window of a source is open at the present instant (R45, R592). -/
def State.winOpen (s : State) (src : Nat) : Bool :=
  let w := s.wsrc src
  w.wopen && decide (s.clk.now < w.wstart + ns w.wlen)

/-- The cause of a source is present (R592). -/
def State.causeOn (s : State) (src : Nat) : Bool := (s.levelCause src).getD (s.winOpen src)

/-- A source is SEVERE. -/
def State.severe (s : State) (src : Nat) : Bool := s.flag (F.WCH_SRC_STAT_SEVERE src)

/-- Hold the SEVERE state of a source, in its own register and in WCH_SEVERE. -/
def State.setSevere (s : State) (src : Nat) (b : Bool) : State :=
  let w := s.get (F.WCH_SEVERE (src / 32))
  let bit := 2 ^ (src % 32)
  let cleared := w - bits w (src % 32) 1 * bit
  (s.setB (F.WCH_SRC_STAT_SEVERE src) b).set (F.WCH_SEVERE (src / 32)) (if b then cleared + bit else cleared)

/-! ## Messages -/

/-- A message before its SUB, TIME and SEQ are given: severity, source, kind, address. -/
structure PreMsg where
  sev : Nat
  src : Nat
  kind : Nat
  addr : Nat
  deriving DecidableEq, Repr

/-- Insert by severity, highest first, then by ascending source (R605). -/
def preIns (m : PreMsg) : List PreMsg → List PreMsg
  | [] => [m]
  | x :: r => if x.sev < m.sev ∨ (x.sev = m.sev ∧ m.src < x.src) then m :: x :: r else x :: preIns m r

/-- Messages of one clock in the order of R605. -/
def preSort (l : List PreMsg) : List PreMsg := l.foldl (fun a m => preIns m a) []

/-- Write the four words of a message into registers (R626). -/
def State.setMsg (s : State) (f : Nat → Fld) (w : Nat) : State :=
  (List.range 4).foldl (fun s i => s.set (f i) (bits w (32 * i) 32)) s

/-- Issue one message: its SEQ, WCH_FIRST, the SEVERE message latched, the Daybook, the ring (R586, R605 to R607). -/
def State.issue (s : State) (m : PreMsg) (sub : Nat) : State :=
  let full := s.mtNs s.clk.now g1ns
  let msgs := s.watch.msgs + 1
  let f : FMsg := ⟨m.src, m.sev, sub, m.kind, m.addr, full % 2 ^ 48, msgs % 256⟩
  let s := { s with watch := { s.watch with msgs := msgs } }
  let s := if s.flag F.WCH_FIRST_STAT_VALID then s
           else (s.setMsg F.WCH_FIRST f.word).set F.WCH_FIRST_STAT_VALID 1
  let s := if m.sev = 1 then s.setMsg (F.WCH_SRC_MSG m.src) f.word else s
  let s := s.dbkRec (0x10000 + m.src) (m.sev != 0) 1 m.src full (f.word % 2 ^ 24 + f.seq * 2 ^ 24)
    (m.addr % 2 ^ 32) (m.addr / 2 ^ 32 % 2 ^ 16)
  if s.flag (F.WCH_SRC_CTL_RING m.src) then s.ringFault f else s

/-- Issue the messages of one clock in SUB order. -/
def State.issueAll (s : State) (l : List PreMsg) : State :=
  ((preSort l).foldl (fun (a : Nat × State) m => (a.1 + 1, a.2.issue m a.1)) (0, s)).2

/-! ## Taking events (R588, R591) -/

/-- The source an applied code belongs to, the code, and the highest code applied before it. -/
structure React where
  src : Nat
  code : Nat
  done : Nat
  kind : Nat
  deriving DecidableEq, Repr

/-- The N of a source; 0 acts as 1 (R625). -/
def State.srcN (s : State) (src : Nat) : Nat := max 1 (s.get (F.WCH_SRC_CTL_N src))

/-- Corrected memory errors counted by the Ledger (R617). -/
def State.lgrMemCe (s : State) : State :=
  { s with lgr := { s.lgr with copy := { s.lgr.copy with memCe := min (s.lgr.copy.memCe + 1) (2 ^ 64 - 1) } } }

/-- Take the oldest event of one source (R591): its message, the reaction it calls for, the state. -/
def State.takeEv (s : State) (src : Nat) : Option (PreMsg × Option React) × State :=
  let w := s.wsrc src
  match w.queue with
  | [] => (none, s)
  | e :: rest =>
    let opens := !s.winOpen src
    let cnt := if opens then 1 else min 255 (s.get (F.WCH_SRC_STAT_WCOUNT src) + 1)
    let w1 : WSrc := if opens then { w with queue := rest, wopen := true, wstart := s.clk.now,
                                            wlen := s.get (F.WCH_SRC_WIN src) } else { w with queue := rest }
    let s1 := ((s.inc (F.WCH_SRC_CNT src)).set (F.WCH_SRC_STAT_WCOUNT src) cnt)
    let s1 := if src = 0x31 ∨ src = 0x38 then s1.lgrMemCe else s1
    if !s.severe src && decide (s.srcN src ≤ cnt) then
      let code := min 6 (s.get (F.WCH_SRC_CTL_REACT src))
      let esc := s.get (F.WCH_SRC_CTL_ESC src)
      let w2 := { w1 with applied := code
                          deadline := if esc = 0 then none else some (s.clk.now + us (s.get F.WCH_ESC_T)) }
      let s2 := ((s1.setWsrc src w2).setSevere src true).set (F.WCH_SRC_STAT_CAUSE_GONE src) 0
      let s2 := if esc = 0 then s2 else s2.irq 1
      (some (⟨1, src, e.kind, e.addr⟩, some ⟨src, code, 0, e.kind⟩), s2)
    else (some (⟨0, src, e.kind, e.addr⟩, none), s1.setWsrc src w1)

/-- Expire the escalation timer of one source (R604). -/
def State.expire (s : State) (src : Nat) : Option (PreMsg × React) × State :=
  let w := s.wsrc src
  match w.deadline with
  | none => (none, s)
  | some d =>
    if s.clk.now < d ∨ !s.severe src then (none, s)
    else
      let code := min 6 (s.get (F.WCH_SRC_CTL_ESC src))
      let m1 := s.get (F.WCH_SRC_MSG src 0) + 2 ^ 32 * s.get (F.WCH_SRC_MSG src 1) + 2 ^ 64 * s.get (F.WCH_SRC_MSG src 2)
      let s1 := (s.setWsrc src { w with deadline := none, applied := max w.applied code }).set
        (F.WCH_SRC_STAT_ESCALATED src) 1
      (some (⟨2, src, bits m1 16 8, bits m1 24 48⟩, ⟨src, code, w.applied, bits m1 16 8⟩), s1)

/-! ## Reactions (R597 to R601) -/

/-- Assert FAULT_N (R608): driven low for at least LIM_FAULT_PULSE; a pending release is cancelled (R609). -/
def State.faultAssert (s : State) (src : Nat) : State :=
  let s := { s with watch := { s.watch with faultMinEnd := s.clk.now + us s.limFaultPulse, faultAt := some s.clk.now
                                            faultSrc := src } }
  let s := ((s.set F.WCH_FAULTN_DRIVEN 1).showPin).set F.WCH_FAULTN_REL_PEND 0
  (s.beam false).dbkNow 3 src 1 src 0

/-- FAULT_N is released (R609). -/
def State.faultUp (s : State) : State :=
  let s := ((s.set F.WCH_FAULTN_DRIVEN 0).showPin).set F.WCH_FAULTN_REL_PEND 0
  (s.beam false).dbkNow 3 0xFF 2 s.watch.faultSrc 0

/-- The domains a stripe needs while it is ARMED or RUNNING (R599): those of R17 that carry its data and motion. -/
def stripeNeeds (d : Dom) : Bool := d ∈ [Dom.ctrl, .hbm, .comp, .plat, .bdla, .bdlb, .motion]

/-- J0 takes a non-maskable trap (R597). -/
def State.nmi (s : State) : State :=
  let c := s.cores.get 0 Core.idle
  { s with cores := s.cores.put 0 { c with nmi := true, nmiCount := c.nmiCount + 1 } }

/-- Queue a block reset (R599): at once, or when the stripe that needs the domains has stopped, at most 1 ms later. -/
def State.queueBlock (s : State) (doms : List Dom) : State :=
  let wait := s.armedOrRunning && doms.any stripeNeeds
  { s with watch := { s.watch with blockResets :=
      s.watch.blockResets ++ [⟨doms, if wait then s.clk.now + ms 1 else s.clk.now⟩] } }

/-- Whether code c is among the actions a reaction adds: above those already applied. -/
def React.does (r : React) (c : Nat) : Bool := decide (r.done < c ∧ c ≤ r.code)

/-- Apply the actions of one reaction in ascending code (R597, R599); a CHIP_RESET asserts FAULT_N where it is not driven
(R600). -/
def State.apply (s : State) (r : React) : State :=
  let s := if r.does 1 then s.irq 0 else s
  let doms := blockDoms r.src r.kind
  let s := if r.does 2 ∨ (r.does 5 ∧ doms.any stripeNeeds ∧ s.armedOrRunning) then s.stopNext 9 else s
  let s := if r.does 3 then s.nmi else s
  let s := if r.does 4 ∨ (r.does 6 ∧ !s.flag F.WCH_FAULTN_DRIVEN) then s.faultAssert r.src else s
  let s := if r.does 5 ∧ doms ≠ [] then s.queueBlock doms else s
  if r.does 6 then
    { s with watch := { s.watch with chipReset := some (s.watch.chipReset.getD (s.clk.now + us 10)) } }
  else s

/-- The message that causes a CHIP_RESET is copied into PD_AON (R600, R601): the first of the clock in the order of R604. -/
def State.keepCause (s : State) (l : List PreMsg) (rs : List React) : State :=
  let srcs := (rs.filter (fun r => r.does 6)).map React.src
  if srcs = [] ∨ s.watch.chipReset.isSome then s
  else
    match (preSort l).find? (fun m => m.sev != 0 && srcs.contains m.src) with
    | none => s
    | some m =>
      let idx := (preSort l).findIdx (fun x => x == m)
      let full := s.mtNs s.clk.now g1ns
      let f : FMsg := ⟨m.src, m.sev, idx, m.kind, m.addr, full % 2 ^ 48, (s.watch.msgs + idx + 1) % 256⟩
      (s.setMsg F.WCH_RST_CAUSE f.word).set F.WCH_RST_STAT_VALID 1

/-- Take a list of sources' events, then expire timers, all in one CK_SYS clock. -/
def State.watchClock (s : State) (exps takes : List Nat) : State :=
  let (acc, s) := takes.foldl (fun (a : (List PreMsg × List React) × State) src =>
    match a.2.takeEv src with
    | (none, s) => (a.1, s)
    | (some (m, r), s) => ((a.1.1 ++ [m], a.1.2 ++ r.toList), s)) (([], []), s)
  let (acc, s) := exps.foldl (fun (a : (List PreMsg × List React) × State) src =>
    match a.2.expire src with
    | (none, s) => (a.1, s)
    | (some (m, r), s) => ((a.1.1 ++ [m], a.1.2 ++ [r]), s)) (acc, s)
  let s := s.keepCause acc.1 acc.2
  let s := s.issueAll acc.1
  acc.2.foldl State.apply s

/-- WATCH_EVENT (R591): the Watch takes one event from each source named. -/
def execWatchEvent (t : Nat) (takes : List (Fin 128)) (s : State) : Host.Outcome State Fault Refusal :=
  let s := s.at t
  .next (if s.domUp .ctrl then s.watchClock [] ((takes.map Fin.val).eraseDups) else s)

/-- ESCALATION_EXPIRY (R604): timers expire, with the events taken in the same clock. -/
def execEscalationExpiry (t : Nat) (exps takes : List (Fin 128)) (s : State) : Host.Outcome State Fault Refusal :=
  let s := s.at t
  .next (if s.domUp .ctrl then s.watchClock ((exps.map Fin.val).eraseDups) ((takes.map Fin.val).eraseDups) else s)

/-- A stop of the escalation timer by WCH_ACK (R603). -/
def State.ack (s : State) (src : Nat) : State :=
  let w := s.wsrc src
  if w.deadline.isSome then s.setWsrc src { w with deadline := none } else s

/-- Record an access error (R710): KIND 1 RESERVED, 2 SIZE, 3 OFF, 4 READ_ONLY. -/
def State.accErr (s : State) (m off : Nat) (write : Bool) (kind : Nat) : State :=
  let s := ((((s.set F.TOP_REG_ERR_KIND kind).setB F.TOP_REG_ERR_WRITE write).set F.TOP_REG_ERR_MASTER m).set
    F.TOP_REG_ERR_VALID 1).set F.TOP_REG_ERR_ADDR off
  (s.inc F.TOP_REG_ERR_CNT).raise 0x17 kind off

/-- A write to a register: where its domain is off or in reset it is discarded and recorded (R703); a block that PERST_N
holds in reset keeps its reset values (R686). -/
def State.regOp (s : State) (m : Fin 9) (off : Nat) (f : State → State) : State :=
  if s.domUp (domOf off) then f s else if s.domLive (domOf off) then s else s.accErr m off true 3

/-- SOURCE_ACK (R603). -/
def execSourceAck (m : Fin 9) (src : Fin 128) (s : State) : Host.Outcome State Fault Refusal :=
  .next (s.regOp m F.WCH_ACK.off (fun s => s.ack src))

/-- Clear a source (R594): refused while its cause is present; each clear is recorded. -/
def State.clearSrc (s : State) (src : Nat) : State :=
  if s.causeOn src then (s.set (F.WCH_SRC_STAT_CLEAR_REFUSED src) 1).dbkNow 2 src (src + 256) 0 0
  else
    let w := s.wsrc src
    let s := (s.setWsrc src { w with wopen := false, deadline := none, applied := 0 }).setSevere src false
    let s := ((s.set (F.WCH_SRC_STAT_ESCALATED src) 0).set (F.WCH_SRC_STAT_CAUSE_GONE src) 0).set
      (F.WCH_SRC_STAT_WCOUNT src) 0
    s.dbkNow 2 src src 0 0

/-- SOURCE_CLEAR (R594). -/
def execSourceClear (m : Fin 9) (src : Fin 128) (s : State) : Host.Outcome State Fault Refusal :=
  .next (s.regOp m (F.WCH_SRC_STAT_SEVERE src.val).off (fun s => s.clearSrc src))

/-- The condition of a level source that only its pin or sensor ends (R670) has ended. -/
def State.pinEnd (s : State) (src : Nat) : State :=
  match src with
  | 0x02 => ({ s with pins := { s.pins with ringPll := true } }).bypass
  | 0x03 => ({ s with pins := { s.pins with refclk := true, refclkAt := s.clk.now + us 100 } }).bypass
  | 0x05 => { s with pins := { s.pins with vbakOk := true, vbakGone := false } }
  | 0x78 => { s with sec := { s.sec with levels := s.sec.levels.filter (· != 0) } }
  | 0x7C => { s with sec := { s.sec with levels := s.sec.levels.filter (· != 4) } }
  | _ => s

/-- CAUSE_GONE (R593): the cause of a SEVERE source has ended. -/
def execCauseGone (t : Nat) (src : Fin 128) (s : State) : Host.Outcome State Fault Refusal :=
  let s := (s.at t).pinEnd src
  .next (if s.domUp .ctrl && s.severe src && !s.causeOn src then s.set (F.WCH_SRC_STAT_CAUSE_GONE src) 1 else s)

/-- FAULT_PULSE_END (R608, R609): the minimum has elapsed and a pending release takes place. -/
def execFaultPulseEnd (t : Nat) (s : State) : Host.Outcome State Fault Refusal :=
  let s := s.at t
  .next (if s.domUp .ctrl && s.flag F.WCH_FAULTN_DRIVEN && s.flag F.WCH_FAULTN_REL_PEND
      && decide (s.watch.faultMinEnd ≤ s.clk.now) then s.faultUp else s)

/-- A SEVERE source holds FAULT_N (R609): its reaction or its applied escalation is 4 or above. -/
def State.holdsFault (s : State) : Bool :=
  (List.range 128).any (fun src => s.severe src &&
    (decide (4 ≤ s.get (F.WCH_SRC_CTL_REACT src)) || (s.flag (F.WCH_SRC_STAT_ESCALATED src) &&
      decide (4 ≤ (s.wsrc src).applied))))

/-- FAULT_N was asserted in the present CK_SYS clock (R609). -/
def State.assertedNow (s : State) : Bool := s.watch.faultAt.map (fun t => t / g1ns) == some (s.clk.now / g1ns)

/-- A write of 1 to WCH_FAULTN.RELEASE (R609): one in the clock of an assertion is discarded. -/
def State.release (s : State) : State :=
  if s.assertedNow then s
  else if s.holdsFault then (s.set F.WCH_FAULTN_REL_REFUSED 1).dbkNow 3 0xFF 3 s.watch.faultSrc 0
  else if !s.flag F.WCH_FAULTN_DRIVEN then s
  else if s.watch.faultMinEnd ≤ s.clk.now then s.faultUp
  else s.set F.WCH_FAULTN_REL_PEND 1

/-- FAULT_RELEASE (R609). -/
def execFaultRelease (m : Fin 9) (s : State) : Host.Outcome State Fault Refusal :=
  .next (s.regOp m F.WCH_FAULTN_RELEASE.off State.release)

/-- Core j writes its record (R616): codes below 0x8000 are ignored. -/
def State.dbkGo (s : State) (j : Nat) : State :=
  let code := s.get (F.DBK_WR_CODE_CODE j)
  if code < 0x8000 then s
  else s.dbkNow code (0x80 + j) (s.get (F.DBK_WR_ARG j 0)) (s.get (F.DBK_WR_ARG j 1)) (s.get (F.DBK_WR_ARG j 2))

/-- DBK_GO (R616): HOST writes are ignored. -/
def execDbkGo (m : Fin 9) (j : Fin 8) (s : State) : Host.Outcome State Fault Refusal :=
  .next (s.regOp m (F.DBK_WR_GO_GO j.val).off (fun s => if m = 0 then s else s.dbkGo j))

end Sys2Proof.Machine
end

