-- ==== Sys2Proof/Machine/Time.lean ====
section
/-! DEFINITION. Machine time (R481 to R493): ticks, setting, the servo, SYNC_OUT marks and IEEE 1588 stamps. -/

namespace Sys2Proof.Machine
open Sys2Proof

/-- The part follows the servo: a member with AUTO set (R481). -/
def State.servoOn (s : State) : Bool := s.role == 1 && s.flag F.TIM_CTL_AUTO

/-- The law of machine time changes at an instant: the one before it is kept for the instants that it ruled. -/
def Clk.turn (c : Clk) (inc at_ : Nat) : Clk :=
  { c with since := at_, past := (⟨at_, c.tickAt, c.mtime, inc⟩ :: c.past).take 64 }

/-- Machine time of a part whose PD_RING is in reset or leaves it: 0, at TIM_INC (R481). -/
def State.clkZero (s : State) : State :=
  { s with clk := { s.clk with mtime := 0, tickAt := s.clk.now, tickInc := s.get F.TIM_INC_EFF, since := s.clk.now, past := [] } }

/-- Run the CK_RING ticks up to the present instant: each adds the effective increment (R481). -/
def State.ticks (s : State) : State :=
  if s.domUp .ring then
    let n := (s.clk.now - s.clk.tickAt) / ringTick
    let inc := if s.servoOn then s.get F.TIM_INC_EFF else s.get F.TIM_INC
    if n = 0 then s
    else
      let c := if inc = s.clk.tickInc then s.clk else s.clk.turn s.clk.tickInc (s.clk.tickAt + ringTick)
      ({ s with clk := { c with mtime := (s.clk.mtime + n * inc) % 2 ^ 96
                                tickAt := s.clk.tickAt + n * ringTick, tickInc := inc } }).set F.TIM_INC_EFF inc
  else s.clkZero

/-- Make machine time at the present instant v, in 2^-32 ns (R482). -/
def State.setMt (s : State) (v : Int) : State :=
  let inc := s.incAt s.clk.now
  { s with clk := { s.clk.turn inc s.clk.now with
      mtime := (((s.clk.mtime : Int) + v - mtLin s.clk.mtime s.clk.tickAt inc s.clk.now) % ((2 ^ 96 : Nat) : Int)).toNat } }

/-- TIM_INC_EFF equals TIM_INC but where the servo gives it (R481). -/
def State.incFollow (s : State) : State := if s.servoOn then s else s.set F.TIM_INC_EFF (s.get F.TIM_INC)

/-- TIME_TICK (R481); the ring transmitters serve their queues meanwhile (R470). -/
def execTimeTick (t : Nat) (s : State) : Host.Outcome State Fault Refusal :=
  .next ((s.at t).ticks.ringServe 0 |>.ringServe 1)

/-- The value TIM_SET loads, in 2^-32 ns. -/
def State.timSet (s : State) : Int := (s.get F.TIM_SET * 2 ^ 32 + s.get F.TIM_SET_FR * 2 ^ 16 : Nat)

/-- Load TIM_SET into machine time; VALID is set (R482). -/
def State.loadTime (s : State) : State := (s.ticks.setMt s.timSet).set F.TIM_STAT_VALID 1

/-- TIME_SET_NOW (R482). -/
def execTimeSetNow (m : Fin 9) (s : State) : Host.Outcome State Fault Refusal :=
  .next (s.regOp m F.TIM_SET_CTL_NOW.off State.loadTime)

/-- The load of TIM_SET waits for the next rising edge of SYNC_IN (R482). -/
def State.armLoad (s : State) : State := { s with kor := { s.kor with setArmed := true } }

/-- AT_SYNC_IN (R482). -/
def execAtSyncIn (m : Fin 9) (s : State) : Host.Outcome State Fault Refusal :=
  .next (s.regOp m F.TIM_SET_CTL_AT_SYNC_IN.off State.armLoad)

/-- A write of TIM_ADJ (R482): its signed value, in 2^-16 ns, is added at once. -/
def State.timAdj (s : State) (v : Nat) : State :=
  let s := s.ticks
  s.setMt (s.mtAt s.clk.now + sx 32 v * 2 ^ 16)

/-- TIM_ADJ (R482). -/
def execTimAdj (m : Fin 9) (v : BitVec 32) (s : State) : Host.Outcome State Fault Refusal :=
  .next (s.regOp m F.TIM_ADJ.off (fun s => s.timAdj v.toNat))

/-- SYNC_OUT_MARK (R491): a pulse where machine time is a whole multiple of TIM_MARK_PERIOD µs. -/
def execSyncOutMark (t : Nat) (s : State) : Host.Outcome State Fault Refusal :=
  let s := s.at t
  .next (if s.domUp .ring && s.get F.KOR_SYNC_CTL_OUT == 2
      && s.mtNs s.clk.now g50 % (1000 * max 1 (s.get F.TIM_MARK_PERIOD)) == 0 then s.emit (.syncOut s.clk.now) else s)

/-! ## The servo (R487, R488) -/

/-- Ticks per SYNC period (R487). -/
def State.servoNt (s : State) : Nat := (rhu (max 1 (s.get F.TIM_CTL_PERIOD) * 1000 * 165 : Nat) 256).toNat

/-- The pseudocode of R487 for one SYNC that shows offset o; a first SYNC after a reset steps the time. -/
def State.servo (s : State) (o : Int) : State :=
  let k := s.kor
  let lim : Int := s.get F.TIM_STEP_LIM
  let a := o.natAbs
  let s := (s.setS F.TIM_OFFSET (clampI o (-(2 ^ 31)) (2 ^ 31 - 1))).setMax F.TIM_OFFSET_MAX (min a (2 ^ 32 - 1))
  if !k.stepped || decide (lim < o) || decide (o < -lim) then
    let s := s.setMt (s.mtAt s.clk.now - o * 2 ^ 16)
    let s := { s with kor := { s.kor with stepped := true, isum := 0, inWin := 0, outWin := 0 } }
    ((s.set F.TIM_STAT_LOCKED 0).set F.TIM_STAT_VALID 1).raise 0x64 0 0
  else
    let isum := clampI (k.isum + o) (-(2 ^ 40)) (2 ^ 40)
    let nt := s.servoNt
    let inc : Int := s.get F.TIM_INC
    let e := inc - floorDiv (o * 65536) (nt * 2 ^ s.get F.TIM_CTL_KP) - floorDiv (isum * 65536) (nt * 2 ^ s.get F.TIM_CTL_KI)
    let e := clampI e (inc - inc / 4096) (inc + inc / 4096)
    let inside := decide (a ≤ s.get F.TIM_LOCK_WIN)
    let iw := if inside then k.inWin + 1 else 0
    let ow := if inside then 0 else k.outWin + 1
    let s := ({ s with kor := { s.kor with isum := isum, inWin := iw, outWin := ow } }).setS F.TIM_INC_EFF e
    if 16 ≤ iw then s.set F.TIM_STAT_LOCKED 1
    else if 4 ≤ ow then s.set F.TIM_STAT_LOCKED 0
    else s

/-- SYNC_TIMEOUT (R488): no SYNC for 3 periods on the time ring, or on either ring. -/
def execSyncTimeout (t : Nat) (s : State) : Host.Outcome State Fault Refusal :=
  let s := s.at t
  let lim := us (3 * max 1 (s.get F.TIM_CTL_PERIOD))
  let late (r : Nat) : Bool := decide (s.kor.lastSync.get r 0 + lim ≤ s.clk.now)
  let r := s.get F.TIM_STAT_RING
  .next (if s.domUp .ring && s.role == 1 && late r then
      if !late (1 - r) then s.set F.TIM_STAT_RING (1 - r)
      else if s.flag F.TIM_STAT_HOLDOVER then s
      else ({ s with kor := { s.kor with inWin := 0, outWin := 0 } } |>.set F.TIM_STAT_LOCKED 0
        |>.set F.TIM_STAT_HOLDOVER 1).raise 0x63 0 0
    else s)

/-- The SYNC of the master that leaves on a ring: ORIGIN is its machine time at the reference point (R483). -/
def State.ownSync (s : State) (r : Nat) : RPay :=
  let x := s.mtFr (s.ringNext r) g25
  .sync (x / 2 ^ 16) (x % 2 ^ 16) 0

/-- SYNC_PERIOD (R483): the VALID master sends a SYNC, PERIOD after the last one. -/
def execSyncPeriod (t : Nat) (s : State) : Host.Outcome State Fault Refusal :=
  let s := (s.at t).ticks
  let due : Bool := match s.kor.lastOwn with
    | some u => decide (u + us (max 1 (s.get F.TIM_CTL_PERIOD)) ≤ s.clk.now)
    | none => true
  .next (if s.domUp .ring && s.role == 2 && s.flag F.TIM_STAT_VALID && due then
      ({ s with kor := { s.kor with lastOwn := some s.clk.now } }).ringPair (s.ownSync 0) (s.ownSync 1)
    else s)

/-! ## IEEE 1588 (R492, R493) -/

/-- The fraction-extended PTP time of an instant, in 2^-16 ns, from PD_RING's machine time. -/
def State.ptpTime (s : State) (t : Nat) : Nat × Nat × Nat :=
  let x := s.mtFr t g25 + s.get F.TIM_PTP_OFS_NS * 2 ^ 16
  let n := x / 2 ^ 16
  ((s.get F.TIM_PTP_OFS_SEC + n / 1000000000) % 2 ^ 48, n % 1000000000, x % 2 ^ 16)

/-- PTP time less a latency in 2^-8 ns. -/
def ptpLess (p : Nat × Nat × Nat) (lat : Nat) : Nat × Nat × Nat :=
  let x : Int := ((p.1 * 1000000000 + p.2.1) * 2 ^ 16 + p.2.2 : Nat) - (lat * 2 ^ 8 : Nat)
  let y := x.toNat
  (y / 2 ^ 16 / 1000000000, y / 2 ^ 16 % 1000000000, y % 2 ^ 16)

/-- The head entries of the stamp FIFOs as the registers show them (R512, R513); with none, TYPE and SEQ_ID are 0 like VALID. -/
def State.showPtp (s : State) : State :=
  let s := match s.kor.ptpRx with
    | [] => ((s.set F.TIM_PTP_RX_ID_VALID 0).set F.TIM_PTP_RX_ID_TYPE 0).set F.TIM_PTP_RX_ID_SEQ_ID 0
    | p :: _ => (((((s.set F.TIM_PTP_RX (p.sec % 2 ^ 16 * 2 ^ 32 + p.ns)).set F.TIM_PTP_RX_FR p.fr).set
        F.TIM_PTP_RX_ID_TYPE p.typ).set F.TIM_PTP_RX_ID_SEQ_ID p.seqId).set F.TIM_PTP_RX_ID_VALID 1)
  match s.kor.ptpTx with
  | [] => ((s.set F.TIM_PTP_TX_ID_VALID 0).set F.TIM_PTP_TX_ID_TYPE 0).set F.TIM_PTP_TX_ID_SEQ_ID 0
  | p :: _ => (((((s.set F.TIM_PTP_TX (p.sec % 2 ^ 16 * 2 ^ 32 + p.ns)).set F.TIM_PTP_TX_FR p.fr).set
      F.TIM_PTP_TX_ID_TYPE p.typ).set F.TIM_PTP_TX_ID_SEQ_ID p.seqId).set F.TIM_PTP_TX_ID_VALID 1)

/-- Push a stamp; a full FIFO drops it and raises PTP_FIFO (R493). -/
def State.ptpPush (s : State) (tx : Bool) (p : PtpStamp) : State :=
  let q := if tx then s.kor.ptpTx else s.kor.ptpRx
  if 16 ≤ q.length then s.raise 0x69 0 0
  else
    let s := if tx then { s with kor := { s.kor with ptpTx := q ++ [p] } }
             else { s with kor := { s.kor with ptpRx := q ++ [p] } }
    s.showPtp.irq 14

/-- The MAC handles an event message (R492, R493): an event type, in the domain of TIM_PTP_CTL, over its transport, and of its
delay mechanism: Delay_Req where that is end-to-end, Pdelay_Req and Pdelay_Resp where it is peer-to-peer (log entry 106). -/
def State.ptpMine (s : State) (f : PtpFrame) : Bool :=
  s.domUp .ring && s.domUp .mgmt && s.flag F.TIM_PTP_CTL_EN && f.domain == s.get F.TIM_PTP_CTL_DOMAIN
    && f.udp.isSome == s.flag F.TIM_PTP_CTL_UDP
    && (f.typ == 0 || (f.typ == 1 && !s.flag F.TIM_PTP_CTL_P2P) || ((f.typ == 2 || f.typ == 3) && s.flag F.TIM_PTP_CTL_P2P))

/-- PTP_EVENT_RX (R493): Sync 0, Delay_Req 1, Pdelay_Req 2, Pdelay_Resp 3 are stamped at the timestamp point. -/
def execPtpEventRx (t : Nat) (f : PtpFrame) (seqId : Nat) (s : State) : Host.Outcome State Fault Refusal :=
  let s := s.at t
  .next (if s.ptpMine f then
      let p := ptpLess (s.ptpTime s.clk.now) (s.get F.TIM_PTP_LAT_RX)
      s.ptpPush false ⟨f.typ, seqId % 2 ^ 16, p.1, p.2.1, p.2.2⟩
    else s)

/-- PTP_EVENT_TX (R493): a Sync with twoStepFlag 0 carries originTimestamp, a Pdelay_Resp adds the transmit time to its
correctionField, Delay_Req and Pdelay_Req push a stamp; TX latency is added (log entry 30).  Over UDP the checksum leaves
as 0. -/
def execPtpEventTx (t : Nat) (f : PtpFrame) (seqId : Nat) (twoStep : Bool) (corr : Int) (s : State) :
    Host.Outcome State Fault Refusal :=
  let s := s.at t
  .next (if s.ptpMine f then
      let p0 := s.ptpTime s.clk.now
      let x : Nat := (p0.1 * 1000000000 + p0.2.1) * 2 ^ 16 + p0.2.2 + s.get F.TIM_PTP_LAT_TX * 2 ^ 8
      let p := (x / 2 ^ 16 / 1000000000, x / 2 ^ 16 % 1000000000, x % 2 ^ 16)
      let q := seqId % 2 ^ 16
      let f := { f with udp := f.udp.map (fun _ => 0) }
      match f.typ with
      | 0 => if twoStep then s.emit (.ptp f q 0 0 corr) else s.emit (.ptp f q p.1 p.2.1 corr)
      | 3 => s.emit (.ptp f q 0 0 (corr + (x : Int)))
      | _ => (s.ptpPush true ⟨f.typ, q, p.1, p.2.1, p.2.2⟩).emit (.ptp f q 0 0 corr)
    else s.emit (.ptp f (seqId % 2 ^ 16) 0 0 corr))

/-- Remove the head of a stamp FIFO: a read of TIM_PTP_RX_ID or TIM_PTP_TX_ID (R512). -/
def State.ptpPop (s : State) (tx : Bool) : State :=
  (if tx then { s with kor := { s.kor with ptpTx := s.kor.ptpTx.tail } }
   else { s with kor := { s.kor with ptpRx := s.kor.ptpRx.tail } }).showPtp

/-- PTP_STAMP_POP (R512): the word read is returned and the head entry removed. -/
def execPtpStampPop (m : Fin 9) (tx : Bool) (s : State) : Host.Outcome State Fault Refusal :=
  .next (if s.domUp .ring then
      let w := if tx then s.get F.TIM_PTP_TX_ID_TYPE + 2 ^ 8 * s.get F.TIM_PTP_TX_ID_VALID
          + 2 ^ 16 * s.get F.TIM_PTP_TX_ID_SEQ_ID
        else s.get F.TIM_PTP_RX_ID_TYPE + 2 ^ 8 * s.get F.TIM_PTP_RX_ID_VALID + 2 ^ 16 * s.get F.TIM_PTP_RX_ID_SEQ_ID
      ({ s with rdata := BitVec.ofNat 32 w }).ptpPop tx
    else ({ s with rdata := 0 }).accErr m (if tx then F.TIM_PTP_TX_ID_TYPE.off else F.TIM_PTP_RX_ID_TYPE.off) false 3)

end Sys2Proof.Machine
end

