-- ==== Sys2Proof/Machine/Ring.lean ====
section
/-! DEFINITION. The ring: reception (R472 to R474), discovery (R477 to R479), links, SYNC and delay frames, REPORT, MAIL and
FAULT frames. -/

namespace Sys2Proof.Machine
open Sys2Proof

/-! ## Reception -/

/-- A duplicate of a source's window, or the window with the frame marked (R474). -/
def DupWin.mark (w : Option DupWin) (q : Nat) : Option DupWin :=
  match w with
  | none => some ⟨q, [q]⟩
  | some w =>
    let d := (w.hi + 2 ^ 16 - q) % 2 ^ 16
    if w.marks.contains q ∨ (64 ≤ d ∧ d ≤ 32767) then none
    else if d ≤ 32767 then some { w with marks := q :: w.marks }
    else some ⟨q, q :: w.marks.filter (fun x => (q + 2 ^ 16 - x) % 2 ^ 16 ≤ 64)⟩

/-- A run of frames discarded for a line error or a failed CRC ends: an input in SERVICE that it held down is up again
(R466, log entry 108). -/
def State.ringWhole (s : State) (p : Nat) : State :=
  let r := s.ringIn p
  if r.badRun = 0 then s
  else
    let s := s.setRingIn p { r with badRun := 0 }
    if s.get (F.KOR_LINK_STAT_STATE p) = 2 then s.ringIsUp p true else s

/-- A frame discarded under R472; the 8th in a row for a line error or a failed CRC puts the input down (R466). -/
def State.ringBad (s : State) (h : RingHdr) : State :=
  let p := h.ring.val
  let s := (s.inc F.KOR_RX_BAD).raise 0x61 0 0
  if h.whole then s.ringWhole p
  else
    let r := s.ringIn p
    let s := s.setRingIn p { r with badRun := r.badRun + 1 }
    if 8 ≤ r.badRun + 1 then s.ringIsUp p false else s

/-- Forward a frame on its ring with HOPS increased; one that arrives with 63 is removed (R473). -/
def State.ringFwd (s : State) (h : RingHdr) (p : RPay) : State :=
  if h.hops.val = 63 then s
  else s.ringFrame h.ring.val h.src.val h.dst.val h.seq.val h.bcast (h.hops.val + 1) p

/-- What a frame's class asks of reception: class TIME (no duplicate check), class MGMT, and a PDELAY frame. -/
structure RxKind where
  time : Bool
  mgmt : Bool
  pdelay : Bool
  deriving DecidableEq, Repr

/-- The reception of one frame (R472 to R474): whether the part consumes it, and the state after discards, marks and
forwarding.  fwd is the payload it forwards. -/
def State.ringRx (s : State) (h : RingHdr) (k : RxKind) (fwd : RPay) : Bool × State :=
  if !s.inRing then (false, s)
  else if !(h.good && h.whole) then (false, s.ringBad h)
  else
    let s := s.ringWhole h.ring.val
    let me := s.get F.KOR_DEV_DEVICE
    if k.pdelay then (true, s)
    else if s.admitted && h.src.val == me then (false, s)
    else
      match (if k.time then some none else (DupWin.mark (s.kor.dups.lookup h.src.val) h.seq.val).map some) with
      | none => (false, s.inc F.KOR_DUP)
      | some w =>
        let s := match w with
          | none => s
          | some w => { s with kor := { s.kor with dups := s.kor.dups.put h.src.val w } }
        let takes := s.admitted || k.mgmt
        if !h.bcast && h.dst.val == me && takes then (true, s)
        else (h.bcast && takes && decide (h.hops.val ≠ 63), s.ringFwd h fwd)

/-! ## Discovery -/

/-- This part's own entry of a TOPO frame (R477). -/
def State.topoEntry (s : State) : TopoEntry :=
  ⟨s.get F.KOR_DEV_DEVICE, s.role, s.flag (F.KOR_LINK_STAT_UP 0), s.flag (F.KOR_LINK_STAT_UP 1), false,
    s.get F.TOP_SERIAL⟩

/-- The payload with this part's entry appended, or FULL set at 64 entries (R477). -/
def State.topoAppend (s : State) (m : TopoMsg) : TopoMsg :=
  if 64 ≤ m.entries.length then { m with full := true } else { m with entries := m.entries ++ [s.topoEntry] }

/-- The master runs a discovery: a TOPO frame on each ring (R477). -/
def State.discover (s : State) : State :=
  if s.role = 2 ∧ s.inRing then
    let q := (s.kor.tseq + 1) % 2 ^ 16
    let m : TopoMsg := ⟨false, false, false, 0, q, [s.topoEntry]⟩
    let s := { s with kor := { s.kor with tseq := q, discDue := none, mastersSeen := false
                                          disc := some ⟨s.clk.now, none, none⟩ } }
    (s.ringOn 0 0 true (.topo m)).ringOn 1 0 true (.topo m)
  else s

/-- Show one entry of the ring-A order (R479, R509). -/
def State.showTopo (s : State) (i : Nat) (e : Option TopoEntry) : State :=
  match e with
  | none => s.set (F.KOR_TOPO_VALID i) 0
  | some e =>
    (((((s.set (F.KOR_TOPO_DEVICE i) e.device).set (F.KOR_TOPO_ROLE i) e.role).setB (F.KOR_TOPO_RA_UP i) e.raUp).setB
      (F.KOR_TOPO_RB_UP i) e.rbUp).setB (F.KOR_TOPO_DUP i) e.dup).set (F.KOR_TOPO_VALID i) 1

/-- The ring whose path from the master (index 0) to index i crosses fewer live parts; ring A on a tie (R488). -/
def timeRing (n i : Nat) : Nat := if i ≤ n - i then 0 else 1

/-- BDL_DEVICE takes the device number of an admitted part (R476); a change calls for an authentication (R347). -/
def State.takeDevice (s : State) : State :=
  let me := s.get F.KOR_DEV_DEVICE
  { s.set F.BDL_DEVICE me with hed := { s.hed with want := s.hed.want || s.get F.BDL_DEVICE != me } }

/-- Adopt a TOPO_RESULT (R479): KOR_STAT, KOR_TOPO, the routes, and BDL_DEVICE on admission (R476). -/
def State.adopt (s : State) (m : TopoMsg) : State :=
  let me := s.get F.KOR_DEV_DEVICE
  let mine (e : TopoEntry) : Bool := e.device == me && e.serial == s.get F.TOP_SERIAL
  let own := m.entries.find? mine
  let idx := (m.entries.findIdx? mine).getD 0
  let dup := (own.map TopoEntry.dup).getD false
  let adm := own.isSome && !dup && !m.masters
  let s := { s with kor := { s.kor with order := m.entries, dups := [] } }
  let s := (((s.setB F.KOR_STAT_ADMITTED adm).setB F.KOR_STAT_DUP dup).set F.KOR_STAT_POSITION idx).setB
    F.KOR_STAT_BROKEN m.broken
  let s := (((((s.set F.KOR_TOPO_STAT_COUNT m.entries.length).setB F.KOR_TOPO_STAT_BROKEN m.broken).set
    F.KOR_TOPO_STAT_BREAK m.brk).setB F.KOR_TOPO_STAT_FULL m.full).setB F.KOR_TOPO_STAT_MASTERS m.masters).set
    F.KOR_TOPO_STAT_TSEQ m.tseq
  let s := (List.range 64).foldl (fun s i => s.showTopo i m.entries[i]?) s
  let s := (s.setB F.TIM_STAT_MASTER (adm && s.role == 2)).set F.TIM_STAT_RING (timeRing m.entries.length idx)
  let s := if adm && s.domUp .bdla then s.takeDevice else s
  let s := if m.full || m.masters || m.entries.any TopoEntry.dup then s.raise 0x62 0 0 else s
  s.irq 13

/-- Every entry whose DEVICE appears twice has DUP set (R478). -/
def markDups (l : List TopoEntry) : List TopoEntry :=
  l.map (fun e => { e with dup := decide (1 < (l.filter (fun x => x.device == e.device)).length) })

/-- The master builds the ring-A order from the frames that returned, broadcasts and adopts it (R478). -/
def State.topoBuild (s : State) (d : Disc) : State :=
  let own := [s.topoEntry]
  let a := (d.ringA.map TopoMsg.entries).getD own
  let b := (d.ringB.map TopoMsg.entries).getD own
  let broken := d.ringA.isNone
  let order := if broken then a ++ (b.drop 1).reverse else a
  let full := ((d.ringA.map TopoMsg.full).getD false) || ((d.ringB.map TopoMsg.full).getD false)
  let m : TopoMsg := ⟨full, broken, s.kor.mastersSeen, if broken then a.length - 1 else 0, s.kor.tseq, markDups order⟩
  let s := { s with kor := { s.kor with disc := none } }
  (s.ringBoth (.topoResult m)).adopt m

/-- DISCOVER (R477): ignored on parts other than the master. -/
def execDiscover (m : Fin 9) (s : State) : Host.Outcome State Fault Refusal :=
  .next (s.regOp m F.KOR_TOPO_CTL_DISCOVER.off State.discover)

/-- DISCOVERY (R477): a discovery owed after a LINK frame or a change of an input. -/
def execDiscovery (t : Nat) (s : State) : Host.Outcome State Fault Refusal :=
  let s := s.at t
  .next (if s.domUp .ring && s.kor.discDue.isSome then s.discover else s)

/-- TOPO_WAIT_END (R478): both frames returned, or 1 ms has passed. -/
def execTopoWaitEnd (t : Nat) (s : State) : Host.Outcome State Fault Refusal :=
  let s := s.at t
  .next (if s.inRing then
      match s.kor.disc with
      | none => s
      | some d => if (d.ringA.isSome && d.ringB.isSome) || decide (d.start + ms 1 ≤ s.clk.now) then s.topoBuild d else s
    else s)

/-- A TOPO frame is one of this master's own discoveries: its first entry is this part's (R477). -/
def State.ownTopo (s : State) (h : RingHdr) (msg : TopoMsg) : Bool :=
  s.role == 2 && h.src.val == s.get F.KOR_DEV_DEVICE
    && (msg.entries.head?.map (fun e => e.serial)) == some (s.get F.TOP_SERIAL)

/-- TOPO (R477): a returned frame of the master's own discovery, which it takes off the ring and uses where it is of the last one;
or one that this part forwards with its entry. -/
def execTopo (t : Nat) (h : RingHdr) (msg : TopoMsg) (s : State) : Host.Outcome State Fault Refusal :=
  let s := s.at t
  .next (if s.inRing && h.good && h.whole && s.ownTopo h msg then
      let s := s.ringWhole h.ring.val
      match (if msg.tseq = s.kor.tseq then s.kor.disc else none) with
      | none => s
      | some d =>
        let d := if h.ring.val = 0 then { d with ringA := some msg } else { d with ringB := some msg }
        { s with kor := { s.kor with disc := some d } }
    else
      let (used, s) := s.ringRx h ⟨false, true, false⟩ (.topo (s.topoAppend msg))
      if used && s.role == 2 then { s with kor := { s.kor with mastersSeen := true } } else s)

/-- TOPO_RESULT (R479). -/
def execTopoResult (t : Nat) (h : RingHdr) (msg : TopoMsg) (s : State) : Host.Outcome State Fault Refusal :=
  let s := s.at t
  let (used, s) := s.ringRx h ⟨false, true, false⟩ (.topoResult msg)
  .next (if used then s.adopt msg else s)

/-- LINK (R480, R477): the master owes a discovery; the bits of LFLAGS above DUP are reserved (R472, R477). -/
def execLink (t : Nat) (h : RingHdr) (lflags : Nat) (s : State) : Host.Outcome State Fault Refusal :=
  let s := s.at t
  let (used, s) := s.ringRx { h with good := h.good && decide (lflags < 8) } ⟨false, true, false⟩ (.link lflags)
  .next (if used && s.role == 2 then { s with kor := { s.kor with discDue := some s.clk.now } } else s)

/-- A write of KOR_CTL.JOIN (R464, R477): the bypasses follow; a master that joins runs a discovery. -/
def State.joinReq (s : State) (v : Bool) : State :=
  let was := s.flag F.KOR_CTL_JOIN
  let s := (s.setB F.KOR_CTL_JOIN v).bypass
  if v && !was && s.role == 2 then s.discover else s

/-- JOIN. -/
def execJoin (m : Fin 9) (v : Bool) (s : State) : Host.Outcome State Fault Refusal :=
  .next (s.regOp m F.KOR_CTL_JOIN.off (fun s => s.joinReq v))

/-- RING_INPUT_DOWN (R362, R466, R509): clock recovery has lost lock, or FOM has stayed below FOM_MIN for 1 ms in SERVICE, with the
figure that it has; the receiver leaves SERVICE for START. -/
def execRingInputDown (t : Nat) (l : RingLoss) (s : State) : Host.Outcome State Fault Refusal :=
  let s := s.at t
  let p := l.port.val
  .next (if s.domUp .ring && s.role != 0 then
      match l.fom with
      | none => s.ringDown p
      | some f =>
        if f < s.get (F.KOR_LINK_CTL_FOM_MIN p) ∧ s.get (F.KOR_LINK_STAT_STATE p) = 2
            ∧ (s.ringIn p).rx.since + ms 1 ≤ s.clk.now then
          (s.set (F.KOR_LINK_STAT_FOM p) (min f 255)).ringDown p
        else s
    else s)

/-- The CTLE code with the highest figure, the lowest on a tie (R362). -/
def bestCtle (foms : List Nat) : Nat := foms.findIdx (· == foms.foldl max 0)

/-- RING_INPUT_UP (R362, R466): a pass through START ends, with the figures of the 16 CTLE codes and after them that after
adaptation: SERVICE at FOM_MIN or above, else START again. -/
def execRingInputUp (t : Nat) (p : Fin 2) (foms : List Nat) (s : State) : Host.Outcome State Fault Refusal :=
  let s := s.at t
  let fom := foms.getD 16 0
  let r := s.ringIn p
  .next (if s.domUp .ring && s.role != 0 && s.get (F.KOR_LINK_STAT_STATE p) == 1
      && decide (r.rx.since + ringStartTime ≤ s.clk.now) then
      let s := s.set (F.KOR_LINK_STAT_FOM p) (min fom 255)
      if s.get (F.KOR_LINK_CTL_FOM_MIN p) ≤ fom then
        let rx := { r.rx with ctle := bestCtle (foms.take 16), since := s.clk.now }
        ((s.setRingIn p { r with rx := rx, badRun := 0 }).set (F.KOR_LINK_STAT_STATE p) 2).ringIsUp p true
      else s.ringRxStart p
    else s)

/-- A write of 1 to KOR_LINK_CTL.RECOVER (R509): a receiver in SERVICE goes to START. -/
def State.ringRecover (s : State) (p : Nat) : State := s.ringDown p

/-- RING_RECOVER. -/
def execRingRecover (m : Fin 9) (p : Fin 2) (s : State) : Host.Outcome State Fault Refusal :=
  .next (s.regOp m (F.KOR_LINK_CTL_RECOVER p.val).off (fun s => s.ringRecover p))

/-! ## TIME frames -/

/-- The delay of input p (R484), in 2^-16 ns. -/
def State.pdelay (s : State) (p : Nat) : Int := s.getS (F.KOR_PDELAY p)

/-- SYNC (R483, R486, R487): a member runs the servo on a SYNC of the master on its time ring; the forwarder adds its
residence time and the delay of its input.  dep is the instant at which the forwarded frame could leave a free line. -/
def execSync (t : Nat) (h : RingHdr) (nsv fr : Nat) (corr : Int) (dep : Nat) (s : State) :
    Host.Outcome State Fault Refusal :=
  let s := (s.at t).ticks
  let dl := s.pdelay h.ring.val
  let ta : Int := s.mtFr s.clk.now g25
  let (used, s) := s.ringRx h ⟨true, false, false⟩ (.sync nsv fr (corr + ((s.mtFr (max dep (s.ringNext h.ring.val)) g25 : Int) - ta) + dl))
  let master := s.kor.order.head?.map TopoEntry.device == some h.src.val
  .next (if used && s.role == 1 && master then
      let s := { s with kor := { s.kor with lastSync := s.kor.lastSync.put h.ring.val s.clk.now } }
      let s := s.set F.TIM_STAT_HOLDOVER 0
      if s.flag F.TIM_CTL_AUTO && s.get F.TIM_STAT_RING == h.ring.val then
        s.servo (ta - ((nsv * 65536 + fr : Nat) + corr + dl))
      else s
    else s)

/-- PDELAY_MEASURE (R484): a request on the other ring's output, 1 ms after the last one. -/
def execPdelayMeasure (t : Nat) (p : Fin 2) (s : State) : Host.Outcome State Fault Refusal :=
  let s := s.at t
  let due : Bool := match (s.ringIn p).asked with
    | some u => decide (u + ms 1 ≤ s.clk.now)
    | none => true
  .next (if s.inRing && due then
      let q := s.kor.seq
      let t1 := s.mtFr (s.ringNext (1 - p.val)) g25
      let s := s.ringOn (1 - p.val) 0 false .pdReq
      s.setRingIn p { s.ringIn p with req := some (q, t1), asked := some s.clk.now }
    else s)

/-- PDELAY_REQ (R484): answered on the output that feeds the requester's input; dep is when the answer could leave a free
line. -/
def execPdelayReq (t : Nat) (h : RingHdr) (dep : Nat) (s : State) : Host.Outcome State Fault Refusal :=
  let s := s.at t
  let ta : Int := s.mtFr s.clk.now g25
  let (used, s) := s.ringRx h ⟨true, false, true⟩ .pdReq
  let out := 1 - h.ring.val
  .next (if used then s.ringOn out 0 false (.pdResp h.seq.val ((s.mtFr (max dep (s.ringNext out)) g25 : Int) - ta)) else s)

/-- PDELAY_RESP (R484): one measurement, and the mean of the last 16, rounded half up (log entry 31). -/
def execPdelayResp (t : Nat) (h : RingHdr) (reqSeq : Nat) (turn : Int) (s : State) : Host.Outcome State Fault Refusal :=
  let s := s.at t
  let p := h.ring.val
  let (used, s) := s.ringRx h ⟨true, false, true⟩ .pdReq
  .next (if used then
      let r := s.ringIn p
      match r.req with
      | none => s
      | some (q, t1) =>
        if q = reqSeq then
          let m2 : Int := ((s.mtFr s.clk.now g25 : Int) - t1 - turn) + 2 * s.getS (F.KOR_ASYM p)
          let l := (m2 :: r.meas).take 16
          (s.setRingIn p { r with req := none, meas := l }).setS (F.KOR_PDELAY p) (rhu (l.foldl (· + ·) 0) (2 * l.length))
        else s
    else s)

/-! ## REPORT, FAULT and MAIL frames -/

/-- Set a device's bit in a 64-bit register. -/
def State.setBit64 (s : State) (f : Fld) (i : Nat) : State := s.set f (s.get f ||| 2 ^ i)

/-- REPORT (R499): the initiator notes the sender. -/
def execReport (t : Nat) (h : RingHdr) (msg : ReportMsg) (s : State) : Host.Outcome State Fault Refusal :=
  let s := s.at t
  let (used, s) := s.ringRx h ⟨false, false, false⟩ (.report msg)
  .next (if used then s.setBit64 (if msg.result = 0 then F.KOR_REP_ACC else F.KOR_REP_REF) h.src.val else s)

/-- FAULT EVENT (R506, R614): an admitted receiver raises RING_FAULT and records the message, its full TIME rebuilt. -/
def execFaultEvent (t : Nat) (h : RingHdr) (msg : FaultMsg) (s : State) : Host.Outcome State Fault Refusal :=
  let s := s.at t
  let f : FMsg := ⟨msg.source.val, msg.sev, msg.sub, msg.kind, msg.addr, msg.time, msg.seq⟩
  let (used, s) := s.ringRx h ⟨false, false, false⟩ (.fault f)
  .next (if used && s.admitted then
      let here := s.mtNs s.clk.now g1ns
      let full := here / 2 ^ 48 * 2 ^ 48 + msg.time % 2 ^ 48
      let full := if here < full then full - 2 ^ 48 else full
      let w := f.word % 2 ^ 24
      (s.raise 0x67 0 0).dbkRec 9 false 9 0xFF full (w + h.src.val * 2 ^ 24) (msg.addr % 2 ^ 32)
        (msg.addr / 2 ^ 32 % 2 ^ 16 + msg.seq % 256 * 2 ^ 16)
    else s)

/-- MAIL (R471): MLEN bytes are delivered to J6; a forwarder passes on every byte. -/
def execMail (t : Nat) (h : RingHdr) (m : MailHdr) (data : List Byte) (s : State) : Host.Outcome State Fault Refusal :=
  let s := s.at t
  let h := { h with good := h.good && decide (m.port < 8 ∧ m.mlen ≤ data.length) }
  let (used, s) := s.ringRx h ⟨false, false, false⟩ (.mail m.port m.mlen data)
  .next (if used then { s with kor := { s.kor with mail := s.kor.mail ++ [(m.port, data.take m.mlen)] } } else s)

end Sys2Proof.Machine
end

