-- ==== Sys2Proof/Machine/Lanes.lean ====
section
/-! DEFINITION. Lanes (chapter 9): lane states, wake and PLL, answers and timeouts of lane-shots, preset sweeps and the
return receivers. -/

namespace Sys2Proof.Machine
open Sys2Proof

/-! ## Lane states (R356) -/

/-- The domain of lane l. -/
def laneDom (l : Nat) : Dom := if l < 16 then .bdla else .bdlb

/-- A lane may leave electrical idle (R37, R356): its domain, PD_PLAT and both lane domains are out of reset, the PLL is
locked, SLEEP is 0 and a Forme is in force (R645). -/
def State.laneMay (s : State) (l : Nat) : Bool :=
  s.forme.isSome && s.domUp .plat && s.domUp .bdla && s.domUp .bdlb && s.bdl.pllLocked && !s.flag (F.BDL_CTL_SLEEP l) && !s.pins.extest

/-- Lane l leaves OFF into WAKE for 20 µs where it may. -/
def State.laneWake (s : State) (l : Nat) : State :=
  if s.get (F.BDL_STAT_STATE l) = 0 ∧ s.laneMay l then
    { s.set (F.BDL_STAT_STATE l) 1 with bdl := { s.bdl with wakeEnd := s.bdl.wakeEnd.put l (s.clk.now + us 20) } }
  else s

/-- Lane l enters OFF, electrical idle: what it sent no longer sets its IDLE fill (R341). -/
def State.laneOff (s : State) (l : Nat) : State :=
  { s.set (F.BDL_STAT_STATE l) 0 with bdl := { s.bdl with lastSent := s.bdl.lastSent.erase l } }

/-- The seed of a shot frame (R340). -/
def laneSeed (shot lane : Nat) : Nat := 2 ^ 30 + shot % 2 ^ 25 * 2 ^ 5 + lane

/-- The seed of a control frame (R345). -/
def ctrlSeed (cseq : Nat) : Nat := 2 ^ 30 + cseq % 2 ^ 25 * 2 ^ 5

/-- Every lane wakes where it may. -/
def State.lanesWake (s : State) : State := (List.range 32).foldl State.laneWake s

/-- Every lane is at electrical idle. -/
def State.lanesOff (s : State) : State := (List.range 32).foldl State.laneOff s

/-- WAKE_END (R356). -/
def execWakeEnd (t : Nat) (lane : Fin 32) (s : State) : Host.Outcome State Fault Refusal :=
  let s := s.at t
  .next (if s.get (F.BDL_STAT_STATE lane.val) = 1 ∧ s.bdl.wakeEnd.get lane.val 0 ≤ s.clk.now then
      s.set (F.BDL_STAT_STATE lane.val) 2 else s)

/-- BDL_PLL_LOCK_LOSS (R358): every lane OFF, BDL_TX, and a stripe stops. -/
def execBdlPllLockLoss (t : Nat) (s : State) : Host.Outcome State Fault Refusal :=
  let s := s.at t
  .next (if s.bdl.pllLocked then
      ((({ s with bdl := { s.bdl with pllLocked := false } }).lanesOff).raise 0x47 0 0).stopArmed 10
    else s)

/-- BDL_PLL_RELOCK (R358): each lane leaves OFF through WAKE. -/
def execBdlPllRelock (t : Nat) (s : State) : Host.Outcome State Fault Refusal :=
  let s := s.at t
  .next (({ s with bdl := { s.bdl with pllLocked := true } }).lanesWake)

/-! ## Return messages (R350) -/

/-- A message is accepted on return lane k, or discarded, counted and raised: ok joins the header's checks with those of
the message's body. -/
def State.rxMsg (s : State) (k : Nat) (h : RetHdr) (ok : Bool) : Bool × State :=
  if s.get (F.BDL_RX_STAT_STATE k) = 0 ∨ !s.domUp .bdlb then (false, s)
  else
    let b := s.bdl.bsr.get k Bsr.start
    let fresh := match b.mseq with
      | none => true
      | some q => let d := (h.mseq + 2 ^ 32 - q) % 2 ^ 32
                  decide (1 ≤ d ∧ d < 2 ^ 31)
    if h.good && ok && fresh then
      (true, { s with bdl := { s.bdl with bsr := s.bdl.bsr.put k { b with mseq := some (h.mseq % 2 ^ 32) } } })
    else (false, (s.inc (F.BDL_RX_BAD k)).raise 0x4D 0 0)

/-! ## Answers (R351 to R354) -/

/-- Do f where domain d is on and out of reset; what lies in a domain that is not holds its reset values (R14). -/
def State.whenUp (s : State) (d : Dom) (f : State → State) : State := if s.domUp d then f s else s

/-- Add the values of lane l in a sent shot to the usage counts (R319). -/
def State.addUse (s : State) (o : ShotOut) (l : Nat) : State :=
  (o.use.filter (fun p => p.1 / 64 == l)).foldl (fun s p => s.addN (F.HED_USAGE (p.1 % 64)) p.2) s

/-- BDL_ERR describes a NAK (1) or a timeout (2) of lane l (R370). -/
def State.laneErr (s : State) (l kind : Nat) (o : ShotOut) : State :=
  ((((s.set F.BDL_ERR_LANE l).set F.BDL_ERR_KIND kind).setB F.BDL_ERR_FLAGGED (o.blank || o.mask)).set
    F.BDL_ERR_VALID 1).set F.BDL_ERR_SHOT o.shot

/-- One outcome of a lane-shot (R353): 0 ACK, 1 NAK, 2 timeout. -/
def State.settle (s : State) (o : ShotOut) (l kind : Nat) : ShotOut × State :=
  let plain := !o.blank && !o.mask
  let o1 := { o with open_ := o.open_.filter (· != l)
                     naks := if kind == 1 && plain then o.naks ++ [l] else o.naks
                     silents := if kind == 2 && plain then o.silents ++ [l] else o.silents }
  let s := match kind with
    | 0 => s
    | 1 => ((s.whenUp (laneDom l) (fun s => s.inc (F.BDL_NAK l))).whenUp .bdla (fun s => s.laneErr l 1 o)).raise 0x4A 1 o.shot
    | _ => ((s.whenUp (laneDom l) (fun s => s.inc (F.BDL_SILENT l))).whenUp .bdla (fun s => s.laneErr l 2 o)).raise 0x4B 2 o.shot
  (o1, if kind != 1 && !o.mask then s.whenUp .bdlb (fun s => s.addUse o l) else s)

/-- Hold a sent shot's record in place of the one with its number. -/
def State.putOut (s : State) (o : ShotOut) : State :=
  { s with bdl := { s.bdl with out := s.bdl.out.map (fun x => if x.shot = o.shot then o else x) } }

/-- A settled shot that has no darn entry to write. -/
def ShotOut.spent (o : ShotOut) : Bool :=
  o.open_.isEmpty && o.naks.isEmpty && o.silents.isEmpty && o.beams.isEmpty && o.whole.isNone

/-- Settled shots without an entry leave the front of the list. -/
def State.drain (s : State) : State :=
  { s with bdl := { s.bdl with out := s.bdl.out.dropWhile ShotOut.spent } }

/-- Settle several lanes of one shot in ascending order, each with its outcome. -/
def State.settleAll (s : State) (o : ShotOut) (l : List (Nat × Nat)) : State :=
  let r := l.foldl (fun (a : ShotOut × State) p => if a.1.open_.contains p.1 then a.2.settle a.1 p.1 p.2 else a) (o, s)
  r.2.putOut r.1

/-- Lanes of return lane k outstanding in a shot. -/
def ShotOut.mine (o : ShotOut) (k : Nat) : List Nat := o.open_.filter (fun l => l / 8 == k)

/-- An ANSWER answers the lane-shots of one shot: bit i of ACK or NAK refers to lane 8k + i. -/
def State.answer (s : State) (k : Nat) (o : ShotOut) (ack nak : BitVec 8) : State :=
  s.settleAll o ((List.range 8).filterMap (fun i =>
    if bitOf ack.toNat i then some (8 * k + i, 0) else if bitOf nak.toNat i then some (8 * k + i, 1) else none))

/-- Match an ANSWER on return lane k (R351). -/
def State.matchAnswer (s : State) (k : Nat) (shot : Option Nat) (ack nak : BitVec 8) : State :=
  match s.bdl.out.find? (fun o => !(o.mine k).isEmpty) with
  | none => s.inc (F.BDL_RX_STRAY k)
  | some o =>
    match shot with
    | none => s.answer k o ack nak
    | some n =>
      if n = o.shot then s.answer k o ack nak
      else if n < o.shot then s.inc (F.BDL_RX_STRAY k)
      else
        let s := (s.bdl.out.filter (fun x => x.shot < n)).foldl
          (fun s x => s.settleAll x ((x.mine k).map (fun l => (l, 2)))) s
        match s.bdl.out.find? (fun x => x.shot == n && !(x.mine k).isEmpty) with
        | some x => s.answer k x ack nak
        | none => s.inc (F.BDL_RX_STRAY k)

/-- ANSWER (R349 to R353). -/
def execAnswer (t : Nat) (k : Fin 4) (h : RetHdr) (shot : Option Nat) (ack nak : BitVec 8) (s : State) :
    Host.Outcome State Fault Refusal :=
  let s := s.at t
  let shot := match shot with
    | some n => if n = 2 ^ 40 - 1 then none else some n
    | none => none
  .next (match s.rxMsg k h (ack &&& nak == 0 && decide (shot.getD 0 < 2 ^ 40)) with
    | (true, s) => (s.matchAnswer k shot ack nak).drain
    | (false, s) => s)

/-- LANE_SHOT_TIMEOUT (R352): the oldest lane-shot of a lane has waited until t_n + BDL_ACK_TMO. -/
def execLaneShotTimeout (t : Nat) (lane : Fin 32) (s : State) : Host.Outcome State Fault Refusal :=
  let s := s.at t
  .next (match s.bdl.out.find? (fun o => o.open_.contains lane.val) with
    | some o => if o.tn + ns (s.app F.BDL_ACK_TMO) ≤ s.clk.now then (s.settleAll o [(lane.val, 2)]).drain else s
    | none => s)

/-! ## The figure of merit and preset sweeps (R360, R361) -/

/-- FOM (R360): the eight figures of BDL[8k..8k + 7]; a sweep takes those of the final 100 µs of a hold. -/
def execFom (t : Nat) (k : Fin 4) (h : RetHdr) (foms : List Nat) (s : State) : Host.Outcome State Fault Refusal :=
  let s := s.at t
  .next (match s.rxMsg k h true with
    | (false, s) => s
    | (true, s) =>
      (List.range 8).foldl (fun s i =>
        let l := 8 * k.val + i
        let v := foms.getD i 0 % 256
        let s := s.whenUp (domOf (F.BDL_STAT_FOM l).off) (fun s => s.set (F.BDL_STAT_FOM l) v)
        match s.bdl.sweep with
        | some w =>
          if bitOf w.mask l && decide (w.holdStart + us 100 ≤ s.clk.now) then
            { s with bdl := { s.bdl with sweep := some { w with cur := w.cur.put l v } } }
          else s
        | none => s) s)

/-- Start a preset sweep (R361) where nothing forbids it: lanes stay in IDLE until the Head has passed authentication
(R41). -/
def State.trainStart (s : State) : State :=
  let mask := s.get F.BDL_TRAIN_MASK
  let lanes := (List.range 32).filter (bitOf mask)
  if s.armedOrRunning || s.bdl.sweep.isSome || lanes.any (fun l => s.get (F.BDL_STAT_STATE l) != 2)
      || s.get F.HED_AUTH_STAT_STATE != 2 then s
  else
    let s := lanes.foldl (fun s l => s.set (F.BDL_STAT_STATE l) 3) s
    ({ s with bdl := { s.bdl with sweep := some ⟨mask, 0, s.clk.now, [], []⟩ } }).set F.BDL_TRAIN_CTL_BUSY 1

/-- TRAIN_START (R361). -/
def execTrainStart (m : Fin 9) (s : State) : Host.Outcome State Fault Refusal :=
  .next (s.regOp m F.BDL_TRAIN_CTL_START.off State.trainStart)

/-- The preset with the highest figure of merit, the lowest on a tie; none where a preset had no FOM message. -/
def Sweep.best (w : Sweep) (l : Nat) : Option Nat :=
  let fs := (List.range 16).map (fun p => List.lookup (16 * l + p) w.fom)
  if fs.any Option.isNone then none
  else
    let vs := fs.map (fun f => f.getD 0)
    let m := vs.foldl max 0
    some (vs.findIdx (· == m))

/-- A sweep ends for one lane. -/
def State.sweepLane (s : State) (w : Sweep) (l : Nat) : State :=
  let s := if s.get (F.BDL_STAT_STATE l) = 3 then s.set (F.BDL_STAT_STATE l) 2 else s
  match w.best l with
  | some p => (s.set (F.BDL_CTL_PRESET l) p).set (F.BDL_STAT_BEST l) p
  | none => (s.set F.BDL_TRAIN_CTL_FAIL 1).raise 0x4E 0 0

/-- SWEEP_HOLD_END (R361): a 200 µs hold ends; after preset 15 the sweep ends. -/
def execSweepHoldEnd (t : Nat) (s : State) : Host.Outcome State Fault Refusal :=
  let s := s.at t
  .next (match s.bdl.sweep with
    | none => s
    | some w =>
      if s.clk.now < w.holdStart + us 200 then s
      else
        let w : Sweep := { w with fom := w.cur.foldl (fun f p => f.put (16 * p.1 + w.preset) p.2) w.fom, cur := [] }
        if w.preset < 15 then
          { s with bdl := { s.bdl with sweep := some { w with preset := w.preset + 1, holdStart := s.clk.now } } }
        else
          let s := ((List.range 32).filter (bitOf w.mask)).foldl (fun s l => s.sweepLane w l)
            { s with bdl := { s.bdl with sweep := none } }
          ((s.set F.BDL_TRAIN_CTL_BUSY 0).set F.BDL_TRAIN_CTL_DONE 1).irq 16)

/-! ## Return receivers (R362) -/

/-- A receiver enters START: no MSEQ accepted, the first CTLE code, no DFE. -/
def State.bsrStart (s : State) (k : Nat) : State :=
  (({ s with bdl := { s.bdl with bsr := s.bdl.bsr.put k { Bsr.start with since := s.clk.now } } }).set (F.BDL_RX_STAT_STATE k) 1).set
    (F.BDL_RX_STAT_CTLE k) 0

/-- A receiver in SERVICE returns to START and raises BSR_LOSS. -/
def State.bsrLoss (s : State) (k : Nat) : State :=
  if s.get (F.BDL_RX_STAT_STATE k) = 2 then (s.bsrStart k).raise 0x4C 0 0 else s

/-- The hold of a CTLE code: 2^20 bits at 10.3125 Gbit/s, in the model's unit (R362). -/
def ctleHold : Nat := 134217728

/-- BSR_CTLE_HOLD_END (R362): one code of the CTLE was held; after code 15 the best code is kept and the DFE adapts. -/
def execBsrCtleHoldEnd (t : Nat) (k : Fin 4) (fom : Nat) (s : State) : Host.Outcome State Fault Refusal :=
  let s := s.at t
  let k := k.val
  .next (
    let b := s.bdl.bsr.get k Bsr.start
    if s.get (F.BDL_RX_STAT_STATE k) = 1 ∧ !b.adapting ∧ b.since + ctleHold ≤ s.clk.now then
      let s := s.set (F.BDL_RX_STAT_FOM k) (min fom 255)
      let best := match b.best with
        | none => (b.ctle, fom)
        | some p => if p.2 < fom then (b.ctle, fom) else p
      let b : Bsr := { b with best := some best, since := s.clk.now }
      let b : Bsr := if b.ctle < 15 then { b with ctle := b.ctle + 1 } else { b with ctle := best.1, adapting := true }
      ({ s with bdl := { s.bdl with bsr := s.bdl.bsr.put k b } }).set (F.BDL_RX_STAT_CTLE k) b.ctle
    else s)

/-- BSR_DFE_ADAPT_END (R362): SERVICE at FOM_MIN or above, else BSR_LOSS and START again. -/
def execBsrDfeAdaptEnd (t : Nat) (k : Fin 4) (fom : Nat) (s : State) : Host.Outcome State Fault Refusal :=
  let s := s.at t
  let k := k.val
  .next (
    let b := s.bdl.bsr.get k Bsr.start
    if s.get (F.BDL_RX_STAT_STATE k) = 1 ∧ b.adapting ∧ b.since + ms 1 ≤ s.clk.now then
      let s := s.set (F.BDL_RX_STAT_FOM k) (min fom 255)
      if s.get (F.BDL_RX_CTL_FOM_MIN k) ≤ fom then
        (({ s with bdl := { s.bdl with bsr := s.bdl.bsr.put k { b with adapting := false, since := s.clk.now } } }).set
          (F.BDL_RX_STAT_STATE k) 2).set (F.BDL_RX_STAT_LOCK k) 1
      else (s.bsrStart k).raise 0x4C 0 0
    else s)

/-- BSR_CDR_LOCK_LOSS (R362). -/
def execBsrCdrLockLoss (t : Nat) (k : Fin 4) (s : State) : Host.Outcome State Fault Refusal :=
  let s := s.at t
  .next (if s.domUp .bdlb then (s.set (F.BDL_RX_STAT_LOCK k.val) 0).bsrLoss k else s)

/-- BSR_FOM_LOW (R362): FOM has stayed below FOM_MIN for 1 ms, in SERVICE. -/
def execBsrFomLow (t : Nat) (k : Fin 4) (fom : Nat) (s : State) : Host.Outcome State Fault Refusal :=
  let s := s.at t
  .next (if s.domUp .bdlb && decide (fom < s.get (F.BDL_RX_CTL_FOM_MIN k.val))
      && decide ((s.bdl.bsr.get k Bsr.start).since + ms 1 ≤ s.clk.now) then
      (s.set (F.BDL_RX_STAT_FOM k.val) (min fom 255)).bsrLoss k else s)

/-- BSR_RECOVER (R362). -/
def execBsrRecover (m : Fin 9) (k : Fin 4) (s : State) : Host.Outcome State Fault Refusal :=
  .next (s.regOp m (F.BDL_RX_CTL_RECOVER k.val).off (fun s => s.bsrLoss k))

end Sys2Proof.Machine
end

