-- ==== Sys2Proof/Machine/Lueth.lean ====
section
/-! DEFINITION. The Lueth layout stream as the Compositor reads it (R85 to R100, R113 to R115, R717): records, their checks,
cells and placements, and the view of a layer that its accepted segments give. -/

namespace Sys2Proof.Machine
open Sys2Proof

/-! ## Records (R85 to R88) -/

/-- A record: its segment, its byte offset in the plaintext, its header and all its bytes. -/
structure Rec where
  seq : Nat
  off : Nat
  typ : Nat
  cls : Nat
  ori : Nat
  b : List Byte
  deriving DecidableEq, Repr

/-- An unsigned field. -/
def Rec.u (r : Rec) (o n : Nat) : Nat := leAt r.b o n

/-- A signed field. -/
def Rec.i (r : Rec) (o n : Nat) : Int := leSAt r.b o n

/-- The least size of a type; none for an unknown type. -/
def recBase (typ : Nat) : Option Nat :=
  match typ with
  | 0x01 => some 72 | 0x02 => some 16 | 0x03 => some 48 | 0x10 => some 32 | 0x11 => some 32 | 0x12 => some 40
  | 0x20 => some 24 | 0x21 => some 32 | 0x22 => some 16 | 0xFF => some 16 | _ => none

/-- The size of a record's defined fields. -/
def Rec.size (r : Rec) : Nat :=
  match r.typ with
  | 0x02 => upTo 8 (16 + 4 * r.u 8 4)
  | 0x22 => 16 + 8 * r.u 8 4
  | t => (recBase t).getD 8

/-- CELL_PLACE or ARRAY_PLACE. -/
def Rec.placing (r : Rec) : Bool := r.typ == 0x11 || r.typ == 0x12

/-- RECT, TRAP or POLY. -/
def Rec.shape (r : Rec) : Bool := r.typ == 0x20 || r.typ == 0x21 || r.typ == 0x22

/-- The header's CLASS, ORIENT and reserved bits are as R85 and R87 require. -/
def Rec.headOk (r : Rec) : Bool :=
  decide (r.u 2 1 < 64) && (r.shape || r.cls == 0) && (if r.placing then decide (r.ori < 4) else r.ori == 0)

/-- The reserved fields and pad bytes are 0 (R86). -/
def Rec.zeroOk (r : Rec) : Bool :=
  (match r.typ with
    | 0x01 => r.u 12 4 == 0 && r.u 44 4 == 0
    | 0x02 => r.u 12 4 == 0 && (List.range (r.u 8 4)).all (fun i => r.u (17 + 4 * i) 1 == 0)
        && ((r.b.drop (16 + 4 * r.u 8 4)).all (· == 0))
    | 0x03 => r.u 37 3 == 0 && r.u 44 4 == 0
    | 0x11 => r.u 12 4 == 0
    | 0x22 => r.u 12 4 == 0
    | 0xFF => r.u 12 4 == 0
    | _ => true) && (r.b.drop r.size).all (· == 0)

/-! ## Simple polygons (R88) -/

/-- The vertices of a POLY. -/
def Rec.verts (r : Rec) : List (Int × Int) :=
  (List.range (r.u 8 4)).map (fun i => (r.i (16 + 8 * i) 4, r.i (20 + 8 * i) 4))

/-- The side of c from the line through a and b. -/
def orient2 (a b c : Int × Int) : Int := ((b.1 - a.1) * (c.2 - a.2) - (b.2 - a.2) * (c.1 - a.1)).sign

/-- A point collinear with a and b lies on their segment. -/
def onSeg (a b c : Int × Int) : Bool :=
  decide (min a.1 b.1 ≤ c.1 ∧ c.1 ≤ max a.1 b.1 ∧ min a.2 b.2 ≤ c.2 ∧ c.2 ≤ max a.2 b.2)

/-- Two segments share a point. -/
def segsMeet (p q r s : Int × Int) : Bool :=
  (orient2 p q r != orient2 p q s && orient2 r s p != orient2 r s q)
    || (orient2 p q r == 0 && onSeg p q r) || (orient2 p q s == 0 && onSeg p q s)
    || (orient2 r s p == 0 && onSeg r s p) || (orient2 r s q == 0 && onSeg r s q)

/-- Two edges that meet at v share only v. -/
def hingeOk (u v w : Int × Int) : Bool :=
  orient2 u v w != 0 || decide ((u.1 - v.1) * (w.1 - v.1) + (u.2 - v.2) * (w.2 - v.2) < 0)

/-- A polygon is simple. -/
def simplePoly (vs : List (Int × Int)) : Bool :=
  let n := vs.length
  let v (i : Nat) : Int × Int := vs.getD (i % n) (0, 0)
  (List.range n).all (fun i => v i != v (i + 1) && hingeOk (v i) (v (i + 1)) (v (i + 2)))
    && (List.range n).all (fun i => (List.range n).all (fun j =>
        decide (j ≤ i + 1) || (i == 0 && j + 1 == n) || !segsMeet (v i) (v (i + 1)) (v j) (v (j + 1))))

/-! ## A record alone (R85 to R89, R98, R115) -/

/-- The first cause of R115 that a record shows by itself. -/
def Rec.fault (r : Rec) : Option Nat :=
  if !r.headOk then some 3
  else if r.typ = 0x02 ∧ (r.u 8 4 = 0 ∨ 64 < r.u 8 4) then some 6
  else if r.typ = 0x22 ∧ (r.u 8 4 < 3 ∨ 16 < r.u 8 4) then some 8
  else if r.b.length < r.size then some 2
  else if !r.zeroOk then some 3
  else
    match r.typ with
    | 0x01 => if r.u 36 4 = 0 ∨ r.i 60 4 ≤ r.i 56 4 ∨ r.i 68 4 ≤ r.i 64 4 then some 12 else none
    | 0x02 => if (List.range (r.u 8 4)).any (fun i => decide (63 < r.u (16 + 4 * i) 1 ∨ 0x7FFF < r.u (18 + 4 * i) 2))
              then some 6 else none
    | 0x03 => if r.u 12 4 = 0 ∨ 256 < r.u 12 4 ∨ 1 < r.u 36 1 then some 12
              else if r.i 20 4 ≤ r.i 16 4 ∨ r.i 28 4 ≤ r.i 24 4 then some 13 else none
    | 0x10 => if 1048575 < r.u 8 4 then some 9
              else if r.u 12 4 = 0 ∨ 16777215 < r.u 12 4 then some 12
              else if r.i 24 4 ≤ r.i 16 4 ∨ r.i 28 4 ≤ r.i 20 4 then some 11 else none
    | 0x12 => if r.u 12 2 = 0 ∨ r.u 14 2 = 0 ∨ (1 < r.u 14 2 ∧ r.i 32 4 = 0) ∨ (1 < r.u 12 2 ∧ r.i 36 4 = 0)
              then some 7 else none
    | 0x20 => if r.i 16 4 ≤ r.i 8 4 ∨ r.i 20 4 ≤ r.i 12 4 then some 7 else none
    | 0x21 => if r.i 12 4 ≤ r.i 8 4 ∨ r.i 20 4 < r.i 16 4 ∨ r.i 28 4 < r.i 24 4
                  ∨ (r.i 16 4 = r.i 20 4 ∧ r.i 24 4 = r.i 28 4) then some 7 else none
    | 0x22 => if simplePoly r.verts then none else some 8
    | _ => none

/-- A fault: its cause, the offset R125 reports for it and the SEQ of its segment. -/
structure LFault where
  cause : Nat
  off : Nat
  seq : Nat
  deriving DecidableEq, Repr

/-- The offset of a fault that belongs to no single record (R125). -/
def noOff : Nat := 0xFFFFF

/-- A fault of a record. -/
def Rec.bad (r : Rec) (cause : Nat) : LFault := ⟨cause, r.off / 8, r.seq⟩

/-- A segment's records up to its first fault, and that fault. -/
structure PSeg where
  g : CSeg
  recs : List Rec
  fault : Option LFault
  deriving DecidableEq, Repr

/-- Parse the records of a segment from an offset. -/
def parseRecs (seq : Nat) : Nat → Nat → List Byte → List Rec × Option LFault
  | 0, _, _ => ([], none)
  | fuel + 1, off, l =>
    if l.isEmpty then ([], none)
    else
      let typ := leAt l 0 2
      let len := leAt l 4 4
      match recBase typ with
      | none => ([], some ⟨1, off / 8, seq⟩)
      | some b =>
        if len % 8 ≠ 0 ∨ len < b ∨ l.length < len then ([], some ⟨2, off / 8, seq⟩)
        else
          let r : Rec := ⟨seq, off, typ, leAt l 2 1 % 64, leAt l 3 1, l.take len⟩
          match r.fault with
          | some c => ([], some (r.bad c))
          | none =>
            let rest := parseRecs seq fuel (off + len) (l.drop len)
            (r :: rest.1, rest.2)

/-- A held segment parsed; RECORDS must match (R115). -/
def CSeg.parse (g : CSeg) : PSeg :=
  let p := parseRecs g.seq (g.plain.length / 8 + 1) 0 g.plain
  ⟨g, p.1, match p.2 with
    | some f => some f
    | none => if p.1.length = g.records then none else some ⟨2, noOff, g.seq⟩⟩

/-! ## Placements and cells (R97 to R100) -/

/-- A half-open box in Copy units. -/
structure Box where
  xlo : Int
  ylo : Int
  xhi : Int
  yhi : Int
  deriving DecidableEq, Repr

/-- The least box around two. -/
def Box.join (a b : Box) : Box := ⟨min a.xlo b.xlo, min a.ylo b.ylo, max a.xhi b.xhi, max a.yhi b.yhi⟩

/-- One box lies within another. -/
def Box.inside (a b : Box) : Bool := decide (b.xlo ≤ a.xlo ∧ a.xhi ≤ b.xhi ∧ b.ylo ≤ a.ylo ∧ a.yhi ≤ b.yhi)

/-- A placement: mirrors and offset. -/
structure Tr where
  mx : Bool
  my : Bool
  ox : Int
  oy : Int
  deriving DecidableEq, Repr

/-- No placement. -/
def Tr.id : Tr := ⟨false, false, 0, 0⟩

/-- A coordinate mirrored or not. -/
def mir (m : Bool) (x : Int) : Int := if m then -x else x

/-- A point under a placement. -/
def Tr.pt (t : Tr) (p : Int × Int) : Int × Int := (mir t.mx p.1 + t.ox, mir t.my p.2 + t.oy)

/-- A placement inside another. -/
def Tr.comp (t u : Tr) : Tr := ⟨t.mx != u.mx, t.my != u.my, mir t.mx u.ox + t.ox, mir t.my u.oy + t.oy⟩

/-- A box under a placement. -/
def Tr.box (t : Tr) (b : Box) : Box :=
  let p := t.pt (b.xlo, b.ylo)
  let q := t.pt (b.xhi, b.yhi)
  ⟨min p.1 q.1, min p.2 q.2, max p.1 q.1, max p.2 q.2⟩

/-- Instance (i, j) of a placing record; a CELL_PLACE has one (R98). -/
def Rec.placeAt (r : Rec) (i j : Nat) : Tr :=
  if r.typ = 0x12 then ⟨bitOf r.ori 0, bitOf r.ori 1, r.i 16 8 + j * r.i 32 4, r.i 24 8 + i * r.i 36 4⟩
  else ⟨bitOf r.ori 0, bitOf r.ori 1, r.i 16 8, r.i 24 8⟩

/-- Rows and columns of a placing record. -/
def Rec.rows (r : Rec) : Nat := if r.typ = 0x12 then r.u 12 2 else 1
/-- Columns. -/
def Rec.cols (r : Rec) : Nat := if r.typ = 0x12 then r.u 14 2 else 1

/-- The box of a shape. -/
def Rec.shapeBox (r : Rec) : Box :=
  match r.typ with
  | 0x20 => ⟨r.i 8 4, r.i 12 4, r.i 16 4, r.i 20 4⟩
  | 0x21 => ⟨min (r.i 16 4) (r.i 24 4), r.i 8 4, max (r.i 20 4) (r.i 28 4), r.i 12 4⟩
  | _ =>
    match r.verts with
    | [] => ⟨0, 0, 0, 0⟩
    | v :: vs => vs.foldl (fun b p => b.join ⟨p.1, p.2, p.1, p.2⟩) ⟨v.1, v.2, v.1, v.2⟩

/-- A cell definition: its box, its depth, the extremes of the coordinates its members expand to (R100) and its members. -/
structure Cell where
  num : Nat
  box : Box
  depth : Nat
  ext : Option Box
  members : List Rec
  deriving DecidableEq, Repr

/-- The cell of a number. -/
def findCell (cells : List Cell) (n : Nat) : Option Cell := cells.find? (fun c => c.num == n)

/-- The least box around every instance a placing record sets of a box of its cell. -/
def Rec.spread (r : Rec) (c : Box) : Box :=
  let b (i j : Nat) : Box := (r.placeAt i j).box c
  ((b 0 0).join (b (r.rows - 1) 0)).join ((b 0 (r.cols - 1)).join (b (r.rows - 1) (r.cols - 1)))

/-- The box of a member or record, every instance of it; none where its cell is undefined. -/
def Rec.box (cells : List Cell) (r : Rec) : Option Box :=
  if r.placing then (findCell cells (r.u 8 4)).map (fun c => r.spread c.box) else some r.shapeBox

/-- The extremes of the coordinates that a record expands to (R100). -/
def Rec.reach (cells : List Cell) (r : Rec) : Option Box :=
  if r.placing then ((findCell cells (r.u 8 4)).bind (fun c => c.ext)).map r.spread else some r.shapeBox

/-- The least box around what is known of two. -/
def boxJoin (a b : Option Box) : Option Box :=
  match a, b with
  | some a, some b => some (a.join b)
  | some a, none => some a
  | none, b => b

/-! ## The prelude (R90 to R92) -/

/-- LAYER_START. -/
structure LStart where
  ox : Int
  oy : Int
  pitch : Nat
  prelude : Nat
  takes : Nat
  segs : Nat
  ext : Box
  deriving DecidableEq, Repr

/-- The fields of a LAYER_START record. -/
def Rec.start (r : Rec) : LStart :=
  ⟨r.i 16 8, r.i 24 8, r.u 32 4, r.u 36 4, r.u 40 4, r.u 48 8, ⟨r.i 56 4, r.i 64 4, r.i 60 4, r.i 68 4⟩⟩

/-- The prelude as far as its records have been read. -/
structure Prelude where
  begun : Bool
  dose : List (Nat × Nat)
  cells : List Cell
  /-- The cell whose members are being read, with the members to come. -/
  open_ : Option (Cell × Nat)
  deriving DecidableEq, Repr

/-- The entries of a DOSE_TABLE. -/
def Rec.doses (r : Rec) : List (Nat × Nat) := (List.range (r.u 8 4)).map (fun i => (r.u (16 + 4 * i) 1, r.u (18 + 4 * i) 2))

/-- A class is set twice. -/
def dupClass : List (Nat × Nat) → Bool
  | [] => false
  | p :: r => r.any (fun q => q.1 == p.1) || dupClass r

/-- A member of the open cell (R92, R99, R100). -/
def Prelude.member (p : Prelude) (c : Cell) (k : Nat) (r : Rec) : Except LFault Prelude :=
  let depth := if r.placing then ((findCell p.cells (r.u 8 4)).map (fun x => x.depth)).getD 0 else 0
  match r.box p.cells with
  | none => .error (r.bad 9)
  | some b =>
    if 16 < depth + 1 then .error (r.bad 10)
    else if !b.inside c.box then .error (r.bad 11)
    else
      let c : Cell := { c with depth := max c.depth (depth + 1), ext := boxJoin c.ext (r.reach p.cells)
                               members := c.members ++ [r] }
      .ok (if k = 1 then { p with cells := p.cells ++ [c], open_ := none } else { p with open_ := some (c, k - 1) })

/-- One record of the prelude; arr is the SEQ of the segment whose arrival shows a MEMBERS that does not match (R125). -/
def Prelude.step (arr : Nat) (p : Prelude) (r : Rec) : Except LFault Prelude :=
  match p.open_ with
  | some (c, k) =>
    if r.placing || r.shape then p.member c k r
    else if r.typ = 0x10 then .error ⟨2, noOff, arr⟩
    else .error (r.bad 4)
  | none =>
    if r.typ = 0x01 then (if p.begun then .error (r.bad 4) else .ok { p with begun := true })
    else if !p.begun then .error (r.bad 4)
    else if r.typ = 0x02 then
      if !p.cells.isEmpty then .error (r.bad 4)
      else if dupClass (p.dose ++ r.doses) then .error (r.bad 6)
      else .ok { p with dose := p.dose ++ r.doses }
    else if r.typ = 0x10 then
      if (findCell p.cells (r.u 8 4)).isSome then .error (r.bad 9)
      else .ok { p with open_ := some (⟨r.u 8 4, ⟨r.i 16 4, r.i 20 4, r.i 24 4, r.i 28 4⟩, 1, none, []⟩, r.u 12 4) }
    else if (r.placing || r.shape) && !p.cells.isEmpty then .error ⟨2, noOff, arr⟩
    else .error (r.bad 4)

/-- The records of one segment, then its own fault. -/
def Prelude.seg (arr : Nat) (p : Prelude) (g : PSeg) : Except LFault Prelude :=
  match g.recs.foldlM (Prelude.step arr) p with
  | .error f => .error f
  | .ok p =>
    match g.fault with
    | some f => .error f
    | none => .ok p

/-- The segments of the prelude held without a gap from SEQ n. -/
def Prelude.run (arr : Nat) : Nat → Nat → Prelude → List PSeg → Except LFault (Prelude × Nat)
  | 0, n, p, _ => .ok (p, n)
  | fuel + 1, n, p, gs =>
    match gs.find? (fun g => g.g.seq == n) with
    | none => .ok (p, n)
    | some g =>
      match p.seg arr g with
      | .error f => .error f
      | .ok p => Prelude.run arr fuel (n + 1) p gs

/-! ## Takes (R93, R94) -/

/-- A STRIPE_HINT accepted: its take, the SEQ and the order of acceptance of its segment, and its fields. -/
structure Hint where
  take : Nat
  lo : Nat
  ord : Nat
  segs : Nat
  x0 : Int
  x1 : Int
  y0 : Int
  y1 : Int
  stripe : Nat
  dir : Nat
  records : Nat
  deriving DecidableEq, Repr

/-- The hint a segment opens with. -/
def PSeg.hint (g : PSeg) : Option Hint :=
  match g.recs with
  | r :: _ =>
    if !g.g.layerSeg && r.typ == 0x03 then
      some ⟨g.g.take, g.g.seq, g.g.ord, r.u 12 4, r.i 16 4, r.i 20 4, r.i 24 4, r.i 28 4, r.u 32 4, r.u 36 1, r.u 40 4⟩
    else none
  | [] => none

/-- The hint of a take: the one of lowest SEQ. -/
def hintOf (gs : List PSeg) (k : Nat) : Option Hint := (gs.filterMap PSeg.hint).find? (fun h => h.take == k)

/-- A SEQ lies in a hint's range. -/
def Hint.covers (h : Hint) (seq : Nat) : Bool := decide (h.lo ≤ seq ∧ seq < h.lo + h.segs)

/-- What the layer keeps of a hint when its take is released. -/
def Hint.past (h : Hint) : PastTake := ⟨h.take, h.lo, h.segs, h.x0, h.x1, h.y0, h.y1⟩

/-- The rectangles of two takes overlap. -/
def PastTake.meets (h k : PastTake) : Bool := decide (h.x0 < k.x1 ∧ k.x0 < h.x1 ∧ h.y0 < k.y1 ∧ k.y0 < h.y1)

/-- Two hints name one rectangle. -/
def PastTake.same (h k : PastTake) : Bool := decide (h.x0 = k.x0 ∧ h.x1 = k.x1 ∧ h.y0 = k.y0 ∧ h.y1 = k.y1)

/-- A SEQ lies in the range of a take. -/
def PastTake.covers (h : PastTake) (seq : Nat) : Bool := decide (h.lo ≤ seq ∧ seq < h.lo + h.segs)

/-- The takes of a layer whose hint has been accepted: those held, and those released and not fetched again. -/
def knownTakes (hs : List Hint) (past : List PastTake) : List PastTake :=
  hs.map Hint.past ++ past.filter (fun p => !hs.any (fun h => h.take == p.take))

/-- The fault of a segment that rejects its layer (R717); ps are the takes known. -/
def segFault (st : LStart) (ps : List PastTake) (g : PSeg) : Option LFault :=
  let f (c : Nat) : Option LFault := some ⟨c, noOff, g.g.seq⟩
  let edge := decide (g.g.seq < st.prelude) || g.g.seq + 1 == st.segs
  if st.segs ≤ g.g.seq then f 12
  else if g.g.layerSeg then (if edge then none else f 4)
  else if edge then f 4
  else if st.takes ≤ g.g.take then f 12
  else if ps.any (fun h => h.take != g.g.take && h.covers g.g.seq) then f 4
  else none

/-- A fault of a segment as a whole that is not its place: RECORDS does not match (R115, R717). -/
def PSeg.countFault (g : PSeg) : Option LFault :=
  match g.fault with
  | some f => if f.off = noOff then some f else none
  | none => none

/-- The fault of the record at which the parsing of a segment stopped. -/
def PSeg.recFault (g : PSeg) : Option LFault :=
  match g.fault with
  | some f => if f.off = noOff then none else some f
  | none => none

/-- A record of a take against its layer: order, extent, cells, range. -/
def takeRec (st : LStart) (cells : Option (List Cell)) (first : Bool) (r : Rec) : Option LFault :=
  if r.typ = 0x03 then
    if !first then some (r.bad 4)
    else if r.i 16 4 < st.ext.xlo ∨ st.ext.xhi < r.i 20 4 ∨ r.i 24 4 < st.ext.ylo ∨ st.ext.yhi < r.i 28 4 then
      some (r.bad 12)
    else none
  else if r.placing || r.shape then
    match cells with
    | none => none
    | some cs =>
      match r.reach cs with
      | none => some (r.bad 9)
      | some b => if b.inside ⟨-(2 ^ 47), -(2 ^ 47), 2 ^ 47 - 1, 2 ^ 47 - 1⟩ then none else some (r.bad 12)
  else some (r.bad 4)

/-- The first fault of the records of one segment of a take. -/
def takeSegRecs (st : LStart) (cells : Option (List Cell)) (g : PSeg) : Option LFault :=
  let n := g.recs.length
  match (List.range n).findSome? (fun i =>
      match g.recs[i]? with
      | some r => takeRec st cells (i == 0) r
      | none => none) with
  | some f => some f
  | none => g.recFault

/-- The first fault of a take, arr the SEQ of the segment just accepted.  Of two takes that overlap, the one accepted later
breaks R94 (DEDUCED, log entry 53). -/
def takeFault (st : LStart) (cells : Option (List Cell)) (gs : List PSeg) (hs : List Hint) (past : List PastTake)
    (k arr : Nat) : Option LFault :=
  let mine := gs.filter (fun g => !g.g.layerSeg && g.g.take == k)
  let at0 (c : Nat) (g : PSeg) : LFault := ⟨c, 0, g.g.seq⟩
  let whole (c seq : Nat) : LFault := ⟨c, noOff, seq⟩
  let h := hintOf gs k
  let one (g : PSeg) : Option LFault :=
    match g.hint with
    | some x =>
      let own : Nat := (g.recs.head?.map (fun r => r.u 8 4)).getD k
      if own ≠ k then some (at0 4 g)
      else
        match h with
        | some y =>
          if y.lo ≠ x.lo then
            some (at0 (if y.past.same x.past then 4 else 13) g)
          else if hs.any (fun z => z.take != k && z.past.meets x.past && decide (z.ord < x.ord))
              || past.any (fun z => if z.take = k then !z.same x.past else z.meets x.past) then some (at0 13 g)
          else none
        | none => none
    | none =>
      let first := g.g.seq == st.prelude
        || (knownTakes hs past).any (fun z => z.take != k && z.lo + z.segs == g.g.seq)
      match h with
      | none => if first then some (if g.recs.isEmpty then g.recFault.getD (at0 4 g) else at0 4 g) else none
      | some y =>
        if g.g.seq < y.lo then some (whole 4 g.g.seq)
        else if y.lo + y.segs ≤ g.g.seq then some (whole 2 arr) else none
  match mine.findSome? (fun g => match one g with
    | some f => some f
    | none => takeSegRecs st cells g) with
  | some f => some f
  | none =>
    match h with
    | none => none
    | some y =>
      let n := (mine.map (fun g => g.recs.length)).sum
      if y.records < n ∨ (mine.length = y.segs ∧ n ≠ y.records) then some ⟨2, noOff, arr⟩ else none

/-! ## The view of a layer -/

/-- What the segments of a layer give. -/
structure LView where
  start : Option LStart
  /-- The prelude's class factors and cells, once it is ready (R113). -/
  pre : Option Prelude
  /-- The first fault that rejects the layer. -/
  fault : Option LFault
  hints : List Hint
  /-- Faults that reject takes. -/
  takeFaults : List (Nat × LFault)
  segs : List PSeg
  deriving DecidableEq, Repr

/-- Insert a fault by SEQ. -/
def faultMin (a b : Option LFault) : Option LFault :=
  match a, b with
  | some x, some y => if y.seq < x.seq then some y else some x
  | some x, none => some x
  | none, y => y

/-- Faults of LAYER_START against the layer and the Forme (R105). -/
def startFault (layer pitch : Nat) (r : Rec) : Option LFault :=
  if r.u 8 4 ≠ layer then some (r.bad 12) else if r.u 32 4 ≠ pitch then some (r.bad 5) else none

/-- Faults of the END segment (R90). -/
def endFault (layer : Nat) (g : PSeg) : Option LFault :=
  match g.recs with
  | [] => g.fault
  | [r] => if r.typ ≠ 0xFF then some (r.bad 4) else if r.u 8 4 ≠ layer then some (r.bad 12) else g.fault
  | r :: q :: _ => if r.typ ≠ 0xFF then some (r.bad 4) else some (q.bad 4)

/-- Segments by rising SEQ, parsed. -/
def CLayer.parsed (c : CLayer) : List PSeg := c.segs.map CSeg.parse

/-- The layer's fault once its LAYER_START is known, and its prelude. -/
def layerCheck (layer : Nat) (st : LStart) (gs : List PSeg) (hs : List Hint) (past : List PastTake) (arr : Nat) :
    Option LFault × Option Prelude :=
  let ps := knownTakes hs past
  let seg := gs.findSome? (fun g => match segFault st ps g with
    | some f => some f
    | none => g.countFault)
  let run := Prelude.run arr st.prelude 0 ⟨false, [], [], none⟩ gs
  let pre : Option LFault × Option Prelude := match run with
    | .error f => (some f, none)
    | .ok (p, n) =>
      if n < st.prelude then (none, none)
      else if p.open_.isSome then (some ⟨2, noOff, arr⟩, none) else (none, some p)
  let own := gs.findSome? (fun g => if g.g.seq < st.prelude then g.fault else none)
  let fin := gs.findSome? (fun g => if g.g.seq + 1 = st.segs ∧ g.g.layerSeg ∧ st.prelude ≤ g.g.seq then endFault layer g
                                    else none)
  let all := (ps.map (fun h => h.take)).eraseDups
  let count := if all.length == st.takes && decide (st.segs ≠ st.prelude + (all.filterMap (fun k =>
      (ps.find? (fun h => h.take == k)).map (fun h => h.segs))).sum + 1) then some ⟨2, noOff, arr⟩ else none
  (faultMin (faultMin (faultMin (faultMin seg pre.1) own) fin) count, pre.2)

/-- The view of a layer under a pitch, arr the SEQ of the segment just accepted. -/
def CLayer.view (c : CLayer) (pitch arr : Nat) : LView :=
  let gs := c.parsed
  let hs := gs.filterMap PSeg.hint
  match gs.find? (fun g => g.g.seq == 0) with
  | none => ⟨none, none, none, hs, [], gs⟩
  | some g0 =>
    match g0.recs with
    | [] => ⟨none, none, some (g0.fault.getD ⟨4, 0, 0⟩), hs, [], gs⟩
    | r :: _ =>
      if r.typ ≠ 0x01 then ⟨none, none, some (r.bad 4), hs, [], gs⟩
      else
        let st := r.start
        let chk := layerCheck c.layer st gs hs c.past arr
        let fault := match startFault c.layer pitch r with
          | some f => some f
          | none => chk.1
        let takes := ((gs.filter (fun g => !g.g.layerSeg)).map (fun g => g.g.take)).eraseDups
        let tf := takes.filterMap (fun k => (takeFault st (chk.2.map (fun p => p.cells)) gs hs c.past k arr).map (fun f => (k, f)))
        ⟨some st, if fault.isSome then none else chk.2, fault, hs, tf, gs⟩

/-- A take is ready (R113); no take of a rejected layer is, so that none counts in CMP_LUETH_READY (DESIGN CHOICE, log entry
53). -/
def LView.ready (v : LView) (c : CLayer) (k : Nat) : Bool :=
  !c.rejected && v.fault.isNone && v.pre.isSome && !c.rejTakes.contains k && !v.takeFaults.any (fun p => p.1 == k)
    && (match v.hints.find? (fun h => h.take == k) with
      | some h => (List.range h.segs).all (fun i => v.segs.any (fun g => g.g.seq == h.lo + i && g.g.take == k))
      | none => false)

/-- The records of a take after its hint. -/
def LView.records (v : LView) (k : Nat) : List Rec :=
  ((v.segs.filter (fun g => !g.g.layerSeg && g.g.take == k)).flatMap (fun g => g.recs)).filter (fun r => r.typ != 0x03)

end Sys2Proof.Machine
end

