-- ==== Sys2Proof/Machine/Layers.lean ====
section
/-! DEFINITION. The resident layers (R113, R114, R123 to R125): the views that their segments give, what the registers show of
them, and the rejections. -/

namespace Sys2Proof.Machine
open Sys2Proof

/-! ## The Copy buffer -/

/-- The layer number of a stripe identity (R417). -/
def Stripe.layer (x : Stripe) : Nat := bits x.id 24 32

/-- The resident layer of a number. -/
def State.layerOf (s : State) (n : Nat) : Option CLayer := s.copy.layers.find? (fun c => c.layer == n)

/-- The view of a resident layer as it stands. -/
def State.viewOf (s : State) (c : CLayer) : LView := c.view s.scanPitch (2 ^ 64)

/-- A layer as composition reads it: its buffer state and its view. -/
structure Lay where
  c : CLayer
  v : LView
  deriving DecidableEq, Repr

/-- The layer of a stripe. -/
def State.lay (s : State) (x : Stripe) : Option Lay := (s.layerOf x.layer).map (fun c => ⟨c, s.viewOf c⟩)

/-! ## What the registers show (R123, R124) -/

/-- The prelude of a layer is ready and the layer is not rejected: the READY flag of a rejected layer reads 0 even where its
prelude meets R113 (DESIGN CHOICE, log entry 53). -/
def Lay.preReady (l : Lay) : Bool := l.v.pre.isSome && l.v.fault.isNone && !l.c.rejected

/-- Takes of a layer that are ready. -/
def Lay.readyTakes (l : Lay) : Nat :=
  (((l.v.hints.map (fun h => h.take)).eraseDups).filter (fun k => l.v.ready l.c k)).length

/-- CMP_LUETH_LAYERS and CMP_LUETH_READY follow the buffer. -/
def State.showCopy (s : State) : State :=
  if !s.domUp .comp then s
  else
    let ls := s.copy.layers.map (fun c => (⟨c, s.viewOf c⟩ : Lay))
    let p (i : Nat) : Bool := ((ls[i]?).map Lay.preReady).getD false
    let r (i : Nat) : Bool := ((ls[i]?).map (fun l => l.c.rejected)).getD false
    let s := ((s.set F.CMP_LUETH_LAYERS_N ls.length).setB F.CMP_LUETH_LAYERS_READY0 (p 0)).setB F.CMP_LUETH_LAYERS_READY1 (p 1)
    let s := (s.setB F.CMP_LUETH_LAYERS_REJ0 (r 0)).setB F.CMP_LUETH_LAYERS_REJ1 (r 1)
    s.set F.CMP_LUETH_READY ((ls.head?.map Lay.readyTakes).getD 0)

/-- Hold a layer in place of the one with its number. -/
def State.putLayer (s : State) (c : CLayer) : State :=
  { s with copy := { s.copy with layers := s.copy.layers.map (fun (d : CLayer) => if d.layer = c.layer then c else d) } }

/-! ## Rejections (R114, R125) -/

/-- CMP_LUETH_ERR takes a rejection and its source is raised; take is none for a layer. -/
def State.luethErr (s : State) (c : CLayer) (take : Option Nat) (f : LFault) : State :=
  let older := (s.copy.layers.head?.map (fun d => d.layer == c.layer)).getD false
  let s := (((s.set F.CMP_LUETH_ERR_CAUSE f.cause).setB F.CMP_LUETH_ERR_LAYER take.isNone).setB F.CMP_LUETH_ERR_OLDER older).set
    F.CMP_LUETH_ERR_VALID 1
  let s := ((s.set F.CMP_LUETH_ERR_TAKE (take.getD 0xFFFFFFFF)).set F.CMP_LUETH_ERR_OFF f.off).set F.CMP_LUETH_ERR_SEQ f.seq
  s.raise (if take.isNone then 0x21 else 0x20) f.cause 0

/-- The layer as it stood when its segment of order n was accepted. -/
def CLayer.asAt (c : CLayer) (n : Nat) : CLayer := { c with segs := c.segs.filter (fun g => decide (g.ord ≤ n)) }

/-- The Compositor validates a layer as it stands with the segment of order n (R113, R114, R717). -/
def State.validate (s : State) (layer n : Nat) : State :=
  if !s.domUp .comp then s
  else
    match s.layerOf layer with
    | none => s
    | some c =>
      if c.rejected then s
      else
        let arr := ((c.segs.find? (fun g => g.ord == n)).map (fun g => g.seq)).getD 0
        let v := (c.asAt n).view s.scanPitch arr
        match v.fault with
        | some f => (s.putLayer { c with rejected := true }).luethErr c none f
        | none =>
          let new := v.takeFaults.filter (fun p => !c.rejTakes.contains p.1)
          let s := s.putLayer { c with rejTakes := c.rejTakes ++ new.map (fun p => p.1) }
          new.foldl (fun s p => s.luethErr c (some p.1) p.2) s

/-- The Compositor validates every layer anew, segment by segment in the order of acceptance: what came while PD_COMP was
down or in reset is found then (R114). -/
def State.validateAll (s : State) : State :=
  s.copy.layers.foldl (fun s c => (List.range c.count).foldl (fun s n => s.validate c.layer n) s) s

end Sys2Proof.Machine
end

