-- ==== Sys2Proof/Machine/Alarm.lean ====
section
/-! DEFINITION. Erasing the Strongbox and security alarms (R112, R652, R656 to R658). -/

namespace Sys2Proof.Machine
open Sys2Proof

/-- SEC_SLOTS shows a bit for each full slot (R674). -/
def State.showSlots (s : State) : State := s.set F.SEC_SLOTS (s.sec.slots.foldl (fun a p => a + 2 ^ p.1) 0)

/-- Segments decrypted under the slots are discarded from the Copy buffer with their entries (R112).  A layer all of whose
segments are discarded stays resident, as only a release ends it (R126; DESIGN CHOICE, log entry 53). -/
def State.dropKeySegs (s : State) (l : List Nat) : State :=
  ({ s with copy := { s.copy with layers := s.copy.layers.map (fun c =>
      { c with segs := c.segs.filter (fun g => !l.contains g.keySlot) }) } } : State).showCopy

/-- Erase slots of the Strongbox; erased layout keys discard their segments (R112, R656). -/
def State.eraseSlots (s : State) (l : List Nat) : State :=
  let full := (s.sec.slots.map Prod.fst).filter l.contains
  (({ s with sec := { s.sec with slots := s.sec.slots.filter (fun p => !l.contains p.1) } }).dropKeySegs
    (full.filter (· < 16))).showSlots

/-- The slots of an erase level (R652): 1 LAYOUT, else ALL. -/
def eraseSet (level : Nat) : List Nat := if level = 1 then List.range 16 else List.range 24

/-- The erase level of an alarm class (R657): ALL until a Forme is in force. -/
def State.eraseLevel (s : State) (cls : Nat) : Nat := if s.forme.isNone then 2 else s.pol (6 + cls) 1

/-- A tamper alarm counted by the Ledger (R617). -/
def State.lgrTamper (s : State) : State :=
  { s with lgr := { s.lgr with copy := { s.lgr.copy with tamper := min (s.lgr.copy.tamper + 1) (2 ^ 32 - 1) } } }

/-- Report an alarm (R658): SEC_ALARM, its source, the Daybook and the Ledger. -/
def State.alarmReport (s : State) (cls level erased : Nat) (latched : Bool) : State :=
  let s := s.set F.SEC_ALARM (s.get F.SEC_ALARM ||| 2 ^ cls)
  let s := s.raise (0x78 + cls) 0 0
  (s.dbkNow 0x13 0xFF (cls + 256 * level + 4096 * b2n latched) erased 0).lgrTamper

/-- An alarm of a class (R657, R658): it erases at once; in BACKUP its report waits for VIN. -/
def State.alarm (s : State) (cls : Nat) : State :=
  let level := s.eraseLevel cls
  let erased := ((s.sec.slots.map Prod.fst).filter (eraseSet level).contains).foldl (fun a k => a + 2 ^ k) 0
  let s := s.eraseSlots (eraseSet level)
  if s.pwr.backup then
    if (List.lookup cls s.sec.backupAlarms).isSome then s
    else { s with sec := { s.sec with backupAlarms := s.sec.backupAlarms.put cls (erased + 2 ^ 24 * level) } }
  else s.alarmReport cls level erased false

/-- A window of the AUTH class is open (R45, R657). -/
def State.authGoes (s : State) : Bool := s.sec.authOpen && decide (s.clk.now < s.sec.authStart + ms (1000 * s.pol 4 2))

/-- A failure of the AUTH class (R657): POL_AUTHFAIL_N of them within one window of POL_AUTHFAIL_W s raise the alarm. -/
def State.authCount (s : State) : State :=
  let go := s.authGoes
  let n := if go then min 255 (s.get F.SEC_AUTHFAIL + 1) else 1
  let s := if go then s else { s with sec := { s.sec with authOpen := true, authStart := s.clk.now } }
  let s := s.set F.SEC_AUTHFAIL n
  if s.forme.isSome && decide (s.pol 3 1 ≤ n) then
    (({ s with sec := { s.sec with authOpen := false } }).set F.SEC_AUTHFAIL 0).alarm 5
  else s

/-- The class number of R657. -/
def alarmCode : AlarmClass → Nat
  | .mesh => 0 | .vin => 1 | .temp => 2 | .clock => 3 | .tamp => 4 | .auth => 5

/-- A level condition of MESH or TAMP begins (R670). -/
def State.levelOn (s : State) (cls : Nat) : State :=
  { s with sec := { s.sec with levels := if s.sec.levels.contains cls then s.sec.levels else s.sec.levels ++ [cls] } }

/-- The die temperature meets the condition of the TEMP class (R657, R691, R692). -/
def tempBad (c : Int) : Bool := decide (c < -60 ∨ 135 < c)

/-- A class can give an alarm (R657): MESH always; TAMP where a Forme is in force that enables an input; the others while VIN
is present, TEMP by the reading of the die temperature and AUTH by the failures counted in the open window. -/
def State.alarmMet (s : State) (cls : AlarmClass) : Bool :=
  match cls with
  | .mesh => true
  | .vin | .clock => s.pins.vinFeeds
  | .temp => s.pins.vinFeeds && tempBad s.pins.dieTemp
  | .tamp => s.forme.isSome && bits (s.pol 12 1) 0 2 != 0
  | .auth => s.pins.vinFeeds && s.forme.isSome && s.authGoes && decide (s.pol 3 1 ≤ s.get F.SEC_AUTHFAIL)

/-- After an AUTH alarm the count restarts (R657). -/
def State.authRestart (s : State) : State := ({ s with sec := { s.sec with authOpen := false } }).set F.SEC_AUTHFAIL 0

/-- SECURITY_ALARM (R657): the condition of a class is met. -/
def execSecurityAlarm (t : Nat) (cls : AlarmClass) (s : State) : Host.Outcome State Fault Refusal :=
  let s := s.at t
  let c := alarmCode cls
  .next (if !s.alarmMet cls then s
    else
      let s := if c = 5 then s.authRestart else s
      (if c = 0 ∨ c = 4 then s.levelOn c else s).alarm c)

/-- TAMP_ALARM (R657): an input that POL_TAMP_EN enables has left its armed level for more than 100 µs. -/
def execTampAlarm (t : Nat) (inputB : Bool) (s : State) : Host.Outcome State Fault Refusal :=
  let s := s.at t
  .next (if s.forme.isSome && bitOf (s.pol 12 1) (b2n inputB) then (s.levelOn 4).alarm 4 else s)

end Sys2Proof.Machine
end

