-- ==== Sys2Proof/Machine/Ledger.lean ====
section
/-! DEFINITION. The Ledger (R617 to R623): its working copy, Head records and the journal in flash. -/

namespace Sys2Proof.Machine
open Sys2Proof

/-- Change the working copy. -/
def State.lgrMap (s : State) (f : LCopy → LCopy) : State := { s with lgr := { s.lgr with copy := f s.lgr.copy } }

/-- The epoch numbers copied into the working copy (R617). -/
def State.lgrEpochs (s : State) : State :=
  s.lgrMap (fun c => { c with cfgEpoch := s.get F.TOP_CFG_EPOCH, gainEpoch := s.get F.TOP_GAIN_EPOCH,
                              formeEpoch := s.get F.TOP_FORME_EPOCH })

/-- The place of a Head's record (R620): its own, else the empty one of lowest index, else the one seen longest ago. -/
def LCopy.headIdx (c : LCopy) (id : Nat) : Nat :=
  match c.heads.find? (fun p => p.2.id == id) with
  | some p => p.1
  | none =>
    match (List.range 16).find? (fun i => (List.lookup i c.heads).isNone) with
    | some i => i
    | none => (c.heads.foldl (fun (a : Nat × Nat) p => if p.2.lastSeen < a.2 then (p.1, p.2.lastSeen) else a)
        (0, (c.heads.head?.map (fun p => p.2.lastSeen)).getD 0)).1

/-- The record of a Head, if one is kept. -/
def LCopy.headOf (c : LCopy) (id : Nat) : Option HeadRec := (c.heads.find? (fun p => p.2.id == id)).map Prod.snd

/-- The usage counts of the registers as a sparse list. -/
def State.usageMap (s : State) : SMap Nat :=
  (List.range 64).filterMap (fun j => if s.get (F.HED_USAGE j) = 0 then none else some (j, s.get (F.HED_USAGE j)))

/-- A Head passed authentication (R318, R620): its record is selected and U set to the larger counts. -/
def State.lgrHead (s : State) (id : Nat) (usage : List Nat) : State :=
  let i := s.lgr.copy.headIdx id
  let old := s.lgr.copy.headOf id
  let s := (List.range 64).foldl (fun s j =>
    s.set (F.HED_USAGE j) (max (usage.getD j 0) ((old.map (fun r => r.usage.get j 0)).getD 0))) s
  let r : HeadRec := ⟨id, (old.map HeadRec.shots).getD 0, s.lgr.copy.calendar, s.usageMap⟩
  s.lgrMap (fun c => { c with heads := c.heads.put i r })

/-- The larger of each count of two usage lists. -/
def usageMax (a b : SMap Nat) : SMap Nat :=
  (List.range 64).filterMap (fun j => let v := max (a.get j 0) (b.get j 0); if v = 0 then none else some (j, v))

/-- U goes to the record of a Head (R320), which never counts backwards after a reset of the registers of U (log entry
89). -/
def State.lgrUse (s : State) (id : Nat) : State :=
  s.lgrMap (fun c => { c with heads := c.heads.map (fun p =>
    if p.2.id = id then (p.1, { p.2 with usage := usageMax p.2.usage s.usageMap }) else p) })

/-- A due event: SHOTS of the part and of the authenticated Head (R617, R620). -/
def State.lgrShot (s : State) : State :=
  let id := if s.get F.HED_AUTH_STAT_STATE = 2 then s.hed.lastId else none
  s.lgrMap (fun c => { c with shots := min (c.shots + 1) (2 ^ 64 - 1)
                              heads := c.heads.map (fun p =>
                                if some p.2.id = id then (p.1, { p.2 with shots := min (p.2.shots + 1) (2 ^ 64 - 1) }) else p) })

/-! ## The journal (R619 to R623) -/

/-- The first 8,832 bytes of an entry (R621). -/
def LCopy.bytes (c : LCopy) (reason jseq : Nat) (cal : Bool) : List Byte :=
  let head (i : Nat) : List Byte :=
    match List.lookup i c.heads with
    | none => zeros 544
    | some h => leBytes 16 h.id ++ leBytes 8 h.shots ++ leBytes 8 h.lastSeen
        ++ ((List.range 64).map (fun j => leBytes 8 (h.usage.get j 0))).flatten
  leBytes 4 0x4A52474C ++ leBytes 2 1 ++ leBytes 2 reason ++ leBytes 8 jseq ++ leBytes 8 c.calendar ++ leBytes 1 (b2n cal)
    ++ zeros 7 ++ leBytes 8 c.powerOn ++ leBytes 8 c.vinEnergy ++ leBytes 8 c.laneOn ++ leBytes 8 c.memCe
    ++ leBytes 4 c.thermal ++ leBytes 4 c.formeLoads ++ leBytes 4 c.tamper ++ leBytes 4 c.starts ++ leBytes 8 c.cfgEpoch
    ++ leBytes 8 c.gainEpoch ++ leBytes 8 c.formeEpoch ++ leBytes 8 c.shots ++ zeros 16 ++ ((List.range 16).map head).flatten

/-- JCRC of the bytes before it, in a slot (R621). -/
def jcrc (slot : Nat) (b : List Byte) : Nat := crc32c (leBytes 4 slot ++ b)

/-- The 16,384 bytes that a slot holds of an entry; one not written whole does not carry its JCRC (R621, R680). -/
def JEntry.bytes (e : JEntry) (slot : Nat) : List Byte :=
  let b := e.copy.bytes e.reason e.jseq e.calValid ++ zeros 7548
  let c := jcrc slot b
  b ++ leBytes 4 (if e.whole then c else ones 32 - c)

/-- MAGIC, VERSION and JCRC of a slot's bytes are valid (R623). -/
def jValid (slot : Nat) (b : List Byte) : Bool :=
  leAt b 0 4 == 0x4A52474C && leAt b 4 2 == 1 && leAt b 16380 4 == jcrc slot (b.take 16380)

/-- The next good slot after slot i, in ring order, skipping n of them. -/
def goodSlots (bad : List Nat) (i : Nat) : List Nat :=
  ((List.range 1024).map (fun k => (i + 1 + k) % 1024)).filter (fun k => !bad.contains k)

/-- Write one journal entry: each of the first fails good slots fails its read back and is marked bad (R622).  A deferred
commanded entry stays owed after an entry for another cause (R619). -/
def State.journal (s : State) (reason fails : Nat) : State :=
  let s := s.lgrEpochs
  let slots := goodSlots s.lgr.badSlots (s.lgr.lastSlot.getD 1023)
  let badNow := slots.take fails
  let s := { s with lgr := { s.lgr with badSlots := s.lgr.badSlots ++ badNow
                                        journal := s.lgr.journal.filter (fun p => !badNow.contains p.1) } }
  let s := s.set F.LGR_STAT_BAD s.lgr.badSlots.length
  let s := if 4 ≤ badNow.length ∨ (badNow ≠ [] ∧ 64 < s.lgr.badSlots.length) then s.raise 0x09 0 0 else s
  let s := if reason = 3 then s.set F.LGR_STAT_PENDING 0 else s
  match slots.drop fails with
  | [] => s
  | k :: _ =>
    let e : JEntry := ⟨reason, s.lgr.jseq + 1, s.flag F.LGR_STAT_CAL_VALID, s.lgr.copy, true⟩
    { s with lgr := { s.lgr with journal := s.lgr.journal.put k e, lastSlot := some k, jseq := s.lgr.jseq + 1,
                                 lastEntry := some s.clk.now } }

/-- VIN falls below 4.5 V before an entry is complete (R680): it fails its read-back, so its slot is marked bad, and the entry
before stays the last. -/
def State.journalCut (s : State) (reason : Nat) : State :=
  let s := s.lgrEpochs
  match goodSlots s.lgr.badSlots (s.lgr.lastSlot.getD 1023) with
  | [] => s
  | k :: _ =>
    let e : JEntry := ⟨reason, s.lgr.jseq + 1, s.flag F.LGR_STAT_CAL_VALID, s.lgr.copy, false⟩
    let s := { s with lgr := { s.lgr with journal := s.lgr.journal.put k e, badSlots := s.lgr.badSlots ++ [k]
                                          lastSlot := some k } }
    s.set F.LGR_STAT_BAD s.lgr.badSlots.length

/-- LEDGER_PERIODIC (R619): 600 s of POWER_ON_S have passed. -/
def execLedgerPeriodic (t : Nat) (fails : Nat) (s : State) : Host.Outcome State Fault Refusal :=
  let s := s.at t
  .next (if !s.pwr.backup && decide (s.lgr.lastPeriodic + 600 ≤ s.lgr.copy.powerOn) then
      ({ s with lgr := { s.lgr with lastPeriodic := s.lgr.copy.powerOn } }).journal 0 fails
    else s)

/-- A commanded entry, deferred until 60 s after the entry before (R619). -/
def State.lgrWrite (s : State) (fails : Nat) : State :=
  match s.lgr.lastEntry with
  | some p => if s.clk.now < p + ms 60000 then s.set F.LGR_STAT_PENDING 1 else s.journal 3 fails
  | none => s.journal 3 fails

/-- LEDGER_WRITE (R619). -/
def execLedgerWrite (m : Fin 9) (fails : Nat) (s : State) : Host.Outcome State Fault Refusal :=
  .next (s.regOp m F.LGR_CMD_WRITE.off (fun s => s.lgrWrite fails))

/-- LEDGER_DEFERRED (R619): 60 s have passed since the entry before a deferred one. -/
def execLedgerDeferred (t : Nat) (fails : Nat) (s : State) : Host.Outcome State Fault Refusal :=
  let s := s.at t
  .next (if s.flag F.LGR_STAT_PENDING && decide ((s.lgr.lastEntry.getD 0) + ms 60000 ≤ s.clk.now) then s.journal 3 fails
    else s)

/-! ## Clocks and samples (R617, R618) -/

/-- PD_AON is fed, from VIN or from VBAK (R677). -/
def State.aonFed (s : State) : Bool := s.pins.vinFeeds || !s.pins.vbakGone

/-- CALENDAR_SECOND (R617, R618): the calendar counts while VIN or VBAK feeds PD_AON; with VIN, POWER_ON_S, and LANE_ON_S for each lane
that is not OFF. -/
def execCalendarSecond (t : Nat) (s : State) : Host.Outcome State Fault Refusal :=
  let s := s.at t
  let on := if s.pwr.backup then 0 else ((List.range 32).filter (fun l => s.get (F.BDL_STAT_STATE l) != 0)).length
  .next (if s.aonFed && s.beatDue .second (ms 1000) then
      (s.beat .second).lgrMap (fun c => { c with
        calendar := min (c.calendar + 1) (2 ^ 64 - 1)
        powerOn := if s.pins.vinOk && !s.pwr.backup then min (c.powerOn + 1) (2 ^ 64 - 1) else c.powerOn
        laneOn := min (c.laneOn + on) (2 ^ 64 - 1) })
    else s)

/-- A write of 1 to LGR_CMD.CAL_SET (R618). -/
def State.calSet (s : State) : State :=
  (s.lgrMap (fun c => { c with calendar := s.get F.LGR_CAL_SET })).set F.LGR_STAT_CAL_VALID 1

/-- CAL_SET (R618). -/
def execCalSet (m : Fin 9) (s : State) : Host.Outcome State Fault Refusal :=
  .next (s.regOp m F.LGR_CMD_CAL_SET.off State.calSet)

/-- THERMAL_SAMPLE (R617): the die temperature of each second; a rise to TC_HIGH after TC_LOW counts one cycle.  As the
reading rises above 125 °C the level source DIE_HOT is raised (R670), and as it leaves −60..135 °C the TEMP class acts (R657,
R692). -/
def execThermalSample (t : Nat) (temp : Int) (s : State) : Host.Outcome State Fault Refusal :=
  let s := s.at t
  .next (if s.pwr.backup || !s.beatDue .dieTemp (ms 1000) then s
    else
      let s := s.beat .dieTemp
      let was := s.pins.dieTemp
      let s := { s with pins := { s.pins with dieTemp := temp } }
      let s := if 125 < temp ∧ was ≤ 125 then s.raise 0x01 0 0 else s
      let s := if tempBad temp && !tempBad was && s.pins.vinFeeds then s.alarm 2 else s
      if temp ≤ s.getS F.LGR_CTL_TC_LOW then { s with lgr := { s.lgr with thermArmed := true } }
      else if s.lgr.thermArmed && decide (s.getS F.LGR_CTL_TC_LOW < s.getS F.LGR_CTL_TC_HIGH ∧ s.getS F.LGR_CTL_TC_HIGH ≤ temp) then
        ({ s with lgr := { s.lgr with thermArmed := false } }).lgrMap
          (fun c => { c with thermal := min (c.thermal + 1) (2 ^ 32 - 1) })
      else s)

/-- VIN_ENERGY_SAMPLE (R617): 1 ms of voltage times current; the fraction of a joule is carried, in nJ. -/
def execVinEnergySample (t : Nat) (mV mA : Nat) (s : State) : Host.Outcome State Fault Refusal :=
  let s := s.at t
  .next (if s.pwr.backup || !s.beatDue .energy (ms 1) then s
    else
      let s := s.beat .energy
      let e := s.lgr.energyFrac + mV * mA
      ({ s with lgr := { s.lgr with energyFrac := e % 10 ^ 9 } }).lgrMap
        (fun c => { c with vinEnergy := min (c.vinEnergy + e / 10 ^ 9) (2 ^ 64 - 1) }))

end Sys2Proof.Machine
end

