-- ==== Sys2Proof/Machine/Head.lean ====
section
/-! DEFINITION. The Head interface (R309 to R323, R345 to R347): the inhibit latch, BEAM_ENABLE, authentication, usage
reports and telemetry. -/

namespace Sys2Proof.Machine
open Sys2Proof

/-! ## The inhibit latch (R309, R312) -/

/-- T_F in units of 50 ps: the frame lead in force as the current stripe was launched, or, before that, the one in force
(R333, R334, R366). -/
def State.frameLead (s : State) : Nat := 50 * clampN ((s.cur.bind Stripe.lead).getD (s.frc F.BDL_LEAD)) 256 480

/-- The current stripe is launched under the frame lead in force, which then holds for all its shots (R334). -/
def State.bindLead (s : State) : State :=
  match s.cur with
  | some x => if x.lead.isSome then s else s.setCur { x with lead := some (s.frc F.BDL_LEAD) }
  | none => s

/-- The due event of a fixed shot, in the model's unit. -/
def State.dueAt (s : State) (f : FixShot) : Int := (f.tn - s.frameLead) * 66

/-- The first shot whose due event comes more than d units after the present instant. -/
def State.firstAfter (s : State) (d : Nat) : Nat :=
  match s.esc.att with
  | none => 0
  | some a =>
    match a.fixed.find? (fun f => decide ((s.clk.now + d : Int) < s.dueAt f)) with
    | some f => f.shot
    | none => a.next

/-- The first shot not yet due when the present CK_SHOT clock ends: a due event in that clock counts as written (R322, R381,
R438). -/
def State.nextClock (s : State) : Nat :=
  match s.esc.att with
  | none => s.nextDue
  | some a =>
    match a.fixed.find? (fun f => decide (((s.clk.now / 3300 + 1) * 3300 : Nat) ≤ s.dueAt f)) with
    | some f => f.shot
    | none => if a.fixed.isEmpty then s.nextDue else a.next

/-- The shot on air (R309): the shot of the current attempt that fell due most recently, else all 40 bits set. -/
def State.onAirShot (s : State) : Nat :=
  if s.armedOrRunning then
    match s.esc.att with
    | some a => (a.due.map Prod.fst).getD (2 ^ 40 - 1)
    | none => 2 ^ 40 - 1
  else 2 ^ 40 - 1

/-- The latch sets: ENABLE clears, the shot on air is recorded, BEAM_ENABLE falls and the stripe stops (R309, R311). -/
def State.latch (s : State) : State :=
  let on := s.onAirShot
  let n := s.firstAfter 9900
  let s := ((s.set F.HED_BEAM_STAT_INHIBIT 1).set F.HED_BEAM_CTL_ENABLE 0).set F.HED_INH_SHOT on
  let s := { s with hed := { s.hed with reen := true } }
  ((s.raise 0x43 0 on).beam true).stopAt 2 n

/-- BEAM_INHIBIT (R309): a low level has passed the filter. -/
def execBeamInhibit (t : Nat) (s : State) : Host.Outcome State Fault Refusal :=
  let s := s.at t
  let s := { s with pins := { s.pins with inhHighSince := none } }
  .next (if s.domUp .bdlb then
      let s := s.set F.HED_BEAM_STAT_INHIBIT_IN 1
      if s.flag F.HED_BEAM_STAT_INHIBIT then s else s.latch
    else s)

/-- BEAM_INHIBIT_RELEASE (R312): BEAM_INHIBIT_N rises. -/
def execBeamInhibitRelease (t : Nat) (s : State) : Host.Outcome State Fault Refusal :=
  let s := s.at t
  let s := { s with pins := { s.pins with inhHighSince := some s.clk.now } }
  .next (if s.domUp .bdlb then s.set F.HED_BEAM_STAT_INHIBIT_IN 0 else s)

/-- A write of 1 to HED_BEAM_STAT.INHIBIT (R312). -/
def State.inhibitClear (s : State) : State :=
  if !s.flag F.HED_BEAM_STAT_INHIBIT then s
  else
    match s.pins.inhHighSince with
    | some t => if t + ms 1 ≤ s.clk.now then (s.set F.HED_BEAM_STAT_INHIBIT 0).beam false
                else s.set F.HED_BEAM_STAT_REFUSED 1
    | none => s.set F.HED_BEAM_STAT_REFUSED 1

/-- INHIBIT_CLEAR (R312). -/
def execInhibitClear (m : Fin 9) (s : State) : Host.Outcome State Fault Refusal :=
  .next (s.regOp m F.HED_BEAM_STAT_INHIBIT.off State.inhibitClear)

/-- A write of HED_BEAM_CTL.ENABLE (R310, R312). -/
def State.hedEnable (s : State) (v : Bool) : State :=
  let s := s.setB F.HED_BEAM_CTL_ENABLE v
  let s := if v && !s.flag F.HED_BEAM_STAT_INHIBIT then { s with hed := { s.hed with reen := false } } else s
  s.beam false

/-- HED_ENABLE_SET (R310). -/
def execHedEnableSet (m : Fin 9) (v : Bool) (s : State) : Host.Outcome State Fault Refusal :=
  .next (s.regOp m F.HED_BEAM_CTL_ENABLE.off (fun s => s.hedEnable v))

/-! ## Control frames and authentication (R313 to R316, R345 to R347) -/

/-- Send a control frame on BDL[0] under the next CSEQ (R345): lane 0 carries one only in IDLE (R356).  A usage report that is due
at another time is dropped and takes no CSEQ (DESIGN CHOICE, log entry 113). -/
def State.ctrlFrame (s : State) (typ : Nat) (body : List Byte) : State :=
  if s.get (F.BDL_STAT_STATE 0) = 2 then
    let c := (s.get F.BDL_CSEQ + 1) % 2 ^ 32
    let s := { s with bdl := { s.bdl with lastSent := s.bdl.lastSent.put 0 (ctrlSeed c, 96 + 8 * body.length) } }
    (s.set F.BDL_CSEQ c).emit (.ctrl typ c body)
  else s

/-- The Head key of the slot that the Forme's key policy names (R314). -/
def State.headKey (s : State) : Option Nat :=
  match List.lookup (s.pol 1 1) s.sec.slots with
  | some (.head k) => some k
  | _ => none

/-- The ASCII bytes of a tag. -/
def tag4 (a b c d : Nat) : List Byte := [BitVec.ofNat 8 a, BitVec.ofNat 8 b, BitVec.ofNat 8 c, BitVec.ofNat 8 d]

/-- The MAC over a tag, the nonce, HEAD_ID and 64 counts (R314, R320). -/
def headMac (key : Nat) (tag : List Byte) (nonce id : Nat) (u : List Nat) : Nat :=
  leVal (hmac256 (leBytes 32 key) (tag ++ leBytes 32 nonce ++ leBytes 16 id ++ (u.map (leBytes 8)).flatten))

/-- An authentication fails (R315): 1 MAC, 2 TIMEOUT, 3 NO_KEY. -/
def State.authFail (s : State) (cause : Nat) : State :=
  let s := ((s.set F.HED_AUTH_STAT_STATE 3).set F.HED_AUTH_STAT_CAUSE cause).inc F.HED_AUTH_STAT_FAILS
  let s := { s with hed := { s.hed with deadline := none } }
  (((s.beam false).raise 0x44 cause 0).irq 15).authCount

/-- The duration of a CHALLENGE frame, 960 bits at 56.25 Gbit/s, in the model's unit. -/
def challengeTime : Nat := 22528

/-- Start an authentication that is wanted, where nothing bars it (R313, R315, R328, R347). -/
def State.authTry (s : State) : State :=
  if !s.domUp .bdlb || !s.hed.want || s.armedOrRunning || s.get F.HED_AUTH_STAT_STATE == 1 then s
  else
    match s.headKey with
    | none =>
      (({ s with hed := { s.hed with want := false } }).set F.HED_AUTH_STAT_LOST 0).authFail 3
    | some _ =>
      if s.get (F.BDL_STAT_STATE 0) = 2 then
        let n := Config.random s.clk.freeN % 2 ^ 256
        let s := { s with clk := { s.clk with freeN := s.clk.freeN + 1 }
                          hed := { s.hed with want := false, nonce := n
                                              deadline := some (s.clk.now + challengeTime + ms 10) } }
        let s := (s.set F.HED_AUTH_STAT_LOST 0).set F.HED_AUTH_STAT_STATE 1
        (s.beam false).ctrlFrame 1 (leBytes 32 n ++ leBytes 1 (s.get F.BDL_DEVICE) ++ zeros 3
          ++ ((List.range 32).map (fun l => leBytes 2 (s.mapBase l))).flatten)
      else s

/-- A write of 1 to HED_AUTH_CTL.START (R328). -/
def State.authStart (s : State) : State :=
  if s.armedOrRunning || s.get F.HED_AUTH_STAT_STATE == 1 then s
  else ({ s with hed := { s.hed with want := true } }).authTry

/-- AUTH_START (R328). -/
def execAuthStart (m : Fin 9) (s : State) : Host.Outcome State Fault Refusal :=
  .next (s.regOp m F.HED_AUTH_CTL_START.off State.authStart)

/-- HEAD_AUTH_AUTO (R313, R347): an authentication called for starts once nothing bars it. -/
def execHeadAuthAuto (t : Nat) (s : State) : Host.Outcome State Fault Refusal := .next (s.at t).authTry

/-- The answer to the CHALLENGE is checked (R314, R318). -/
def State.authCheck (s : State) (id : Nat) (usage : List Nat) (mac : Nat) : State :=
  match s.headKey with
  | none => s.authFail 1
  | some k =>
    if headMac k (tag4 0x46 0x58 0x48 0x31) s.hed.nonce id usage = mac then
      let s := (List.range 4).foldl (fun s i => s.set (F.HED_ID i) (bits id (32 * i) 32)) s
      let s := { s with hed := { s.hed with deadline := none, lastId := some id, passed := true } }
      let s := (s.lgrHead id usage).set F.HED_AUTH_STAT_STATE 2
      (s.beam false).irq 15
    else s.authFail 1

/-- AUTH_ANSWER (R314): an answer at the deadline wins (R44). -/
def execAuthAnswer (t : Nat) (h : RetHdr) (id : Nat) (usage : List Nat) (mac : Nat) (s : State) :
    Host.Outcome State Fault Refusal :=
  let s := s.at t
  .next (match s.rxMsg 0 h true with
    | (false, s) => s
    | (true, s) =>
      if s.get F.HED_AUTH_STAT_STATE = 1 then
        if s.clk.now ≤ s.hed.deadline.getD 0 then s.authCheck id usage mac else s.authFail 2
      else s)

/-- AUTH_TIMEOUT (R314). -/
def execAuthTimeout (t : Nat) (s : State) : Host.Outcome State Fault Refusal :=
  let s := s.at t
  .next (if s.get F.HED_AUTH_STAT_STATE = 1 ∧ s.hed.deadline.getD 0 ≤ s.clk.now then s.authFail 2 else s)

/-- The identity of the authenticated Head (R328). -/
def State.headId (s : State) : Nat := (List.range 4).foldl (fun a i => a + s.get (F.HED_ID i) * 2 ^ (32 * i)) 0

/-- The usage report of R320: U to the Ledger's record of the Head last authenticated; the report where that authentication stands,
under the key that the slot holds now, or 0 where it holds none any more (DESIGN CHOICE, log entry 113). -/
def State.usageReport (s : State) : State :=
  match s.hed.lastId with
  | none => s
  | some id =>
    let s := s.lgrUse id
    if s.hed.passed then
      let u := (List.range 64).map (fun j => s.get (F.HED_USAGE j))
      let mac := headMac (s.headKey.getD 0) (tag4 0x46 0x58 0x55 0x31) s.hed.nonce id u
      s.ctrlFrame 2 (leBytes 16 id ++ (u.map (leBytes 8)).flatten ++ leBytes 32 mac)
    else s

/-! ## Telemetry (R321 to R323) -/

/-- A Head temperature is at or above HED_TEMP_LIM. -/
def State.headHot (s : State) : Bool :=
  s.hed.telemSeen && (List.range 16).any (fun i => decide (s.getS F.HED_TEMP_LIM ≤ s.getS (F.HED_TEMP i)))

/-- The authentication is lost (R316). -/
def State.authLost (s : State) (other : Bool) : State :=
  let s := { s with hed := { s.hed with passed := false } }
  let s := s.set F.HED_AUTH_STAT_STATE 0
  let s := if other then s.set F.HED_AUTH_STAT_LOST 1 else s
  ((s.beam false).raise 0x44 0 0).irq 15

/-- TELEMETRY (R316, R321, R322).  The cause of R34 arises for an ARM that waits with the word that raises HEAD_TEMP (R427,
log entry 41). -/
def execTelemetry (t : Nat) (k : Fin 4) (h : RetHdr) (id : Nat) (temps : List Int) (curs : List Nat) (s : State) :
    Host.Outcome State Fault Refusal :=
  let s := s.at t
  .next (match s.rxMsg k h true with
    | (false, s) => s
    | (true, s) =>
      let s := (List.range 16).foldl (fun s i =>
        let v := temps.getD i 0
        let s := (s.setS (F.HED_TEMP i) v).set (F.HED_CUR i) (curs.getD i 0)
        if s.getS F.HED_TEMP_MAX < v then s.setS F.HED_TEMP_MAX v else s) s
      let first := !s.hed.telemSeen
      let s := { s with hed := { s.hed with lastTelem := s.clk.now, telemSeen := true } }
      let s := s.set F.HED_BEAM_STAT_TELEM_STALE 0
      let hot := s.headHot
      let rise := first || !s.hed.lastHot
      let s := if hot && rise then s.raise 0x45 0 0 else s
      let s := { s with hed := { s.hed with lastHot := hot } }
      let s := if s.get F.HED_AUTH_STAT_STATE == 2 && id != s.headId then s.authLost true else s
      if hot && s.armedOrRunning then (s.set F.HED_BEAM_STAT_TEMP_STOP 1).stopAt 7 s.nextClock
      else if hot && s.armWaiting && rise then s.stopNext 7
      else s)

/-- TELEM_STALE (R323): no checked telemetry for 50 µs. -/
def execTelemStale (t : Nat) (s : State) : Host.Outcome State Fault Refusal :=
  let s := s.at t
  .next (if s.domUp .bdlb && !s.flag F.HED_BEAM_STAT_TELEM_STALE && decide (s.hed.lastTelem + us 50 ≤ s.clk.now) then
      let s := (s.set F.HED_BEAM_STAT_TELEM_STALE 1).raise 0x46 0 0
      let run : Bool := match s.cur with
        | some c => c.st == .running
        | none => false
      let s := if run then s.set F.HED_BEAM_STAT_TEMP_STOP 1 else s
      if s.armedOrRunning then s.stopAt 8 s.nextClock else s
    else s)

end Sys2Proof.Machine
end

