-- ==== Sys2Proof/Machine/Domains.lean ====
section
/-! DEFINITION. Power domains: their state bits, what a reset of each leaves, what starts as each leaves reset (R14, R17,
R24, R251, R267, R645, R646), and the registers that the Forme in force fills. -/

namespace Sys2Proof.Machine
open Sys2Proof

/-! ## Words of registers -/

/-- Write the RW fields of the register at an offset, with no side effect. -/
def State.putWord (s : State) (off v : Nat) : State :=
  match findRow regRows off with
  | none => s
  | some (r, i, j) => r.flds.foldl (fun s f =>
      if f.acc = .rw then s.set (f.fld i j) (putBits (s.get (f.fld i j)) f.sh f.w (bits v f.lo f.w)) else s) s

/-- Hold the bytes of a string in consecutive 32-bit fields. -/
def State.setBytes (s : State) (f : Nat → Fld) (l : List Byte) : State :=
  (List.range (l.length / 4)).foldl (fun s i => s.set (f i) (leAt l (4 * i) 4)) s

/-! ## Registers that the Forme fills (R646) -/

/-- The base-2 logarithm of a power of two below 2^16. -/
def log2 (x : Nat) : Nat := ((List.range 16).find? (fun k => x ≤ 2 ^ k)).getD 0

/-- The read-only registers of STRUCTURE in a domain. -/
def State.formeRo (s : State) (d : Dom) : State :=
  match d with
  | .motion =>
    let g := s.scan
    ((((s.set F.ESC_GEOM_M_LOG2 (log2 g.m)).set F.ESC_GEOM_P_LOG2 (log2 g.np)).setB F.ESC_GEOM_LEAD_MODE g.margin).set
      F.ESC_PITCH g.p).set F.ESC_SHOT_PITCH g.q
  | .hbm => ((s.set F.MEM_PART_COPY (s.formeN 1 8 1)).set F.MEM_PART_GALLEY (s.formeN 1 9 1)).set F.MEM_PART_DIR_LOG2
      (s.formeN 1 10 1)
  | .bdla => (List.range 16).foldl (fun s l => s.set (F.BDL_MAP l) (s.mapBase l)) s
  | .bdlb => (List.range 16).foldl (fun s l => s.set (F.BDL_MAP (16 + l)) (s.mapBase (16 + l))) s
  | .ring => s.set F.KOR_ROLE (s.formeN 1 7 1)
  | .plat => s.setB F.PLT_TALLY_STAT_BYPASS s.tallyBypass
  | .aon =>
    let s := (s.set F.SEC_FORME_VER ((s.forme.map (fun f => imgN f.1 12 4)).getD 0)).set F.PWR_DOM_REQ (s.formeN 1 11 1)
    s.setBytes F.SEC_FORME_HASH (leBytes 48 s.formeHash)
  | _ => s

/-- The calibration pairs of the Forme: offset and value (R635). -/
def State.calPairs (s : State) : List (Nat × Nat) :=
  (List.range (s.formeN 4 0 4)).map (fun i => (s.formeN 4 (64 + 8 * i) 4, s.formeN 4 (68 + 8 * i) 4))

/-- A bit of STEPPING. -/
def State.stepping (s : State) (i : Nat) (b : Bool) : State :=
  ({ s with gau := { s.gau with targets := if b then i :: s.gau.targets.filter (· != i) else s.gau.targets.filter (· != i) } }).set
    F.GAU_TRIM_STAT_STEPPING (putBits (s.get F.GAU_TRIM_STAT_STEPPING) i 1 (b2n b))

/-- A write to a register that a stepper drives cancels its target (R575). -/
def State.trimCancel (s : State) (i : Nat) : State := s.stepping i false

/-- A calibration pair is written as a register write (R638): IDX_HOME written with 1 clears HOMED (R412), and a write to a
register that a stepper drives cancels its target (R575). -/
def State.calWrite (s : State) (p : Nat × Nat) : State :=
  let s := s.putWord p.1 p.2
  let s := (List.range 3).foldl (fun s n =>
    if p.1 = (F.ESC_POS_CTL_ROLE n).off ∧ bitOf p.2 4 then s.set (F.ESC_POS_STAT_HOMED n) 0 else s) s
  (List.range 2).foldl (fun s a =>
    if p.1 = (F.GOV_TRIM_OFF a).off then s.trimCancel a
    else if p.1 = (F.GOV_DEF_SENS a).off then s.trimCancel (2 + a) else s) s

/-- The registers of a domain that apply at stripe start are applied as they stand: the Forme gives their reset values (R15,
R646). -/
def State.stripReset (s : State) (d : Dom) : State :=
  { s with strip := (stripeStartFlds.filter (fun f => domOf f.off == d)).foldl (fun r f => r.set f (s.get f)) s.strip }

/-- A position port starts in SEEK, or is off (R376, R412). -/
def State.portStart (s : State) (n : Nat) : State :=
  let s := { s with esc := { s.esc with ports := s.esc.ports.put n { (s.esc.ports.get n Port.seek).again with
    slotEnd := s.clk.now } } }
  (s.set (F.ESC_POS_STAT_FROZEN n) 0).set (F.ESC_POS_STAT_STATE n) (if s.get (F.ESC_POS_CTL_ROLE n) = 0 then 0 else 1)

/-- The registers of a domain take the values of the Forme in force (R646). -/
def State.formeRegs (s : State) (d : Dom) : State :=
  if s.forme.isNone then s
  else
    let s := s.formeRo d
    let s := ((s.calPairs.filter (fun p => domOf p.1 == d)).foldl State.calWrite s).stripReset d
    if d = .motion then (List.range 3).foldl State.portStart s else s

/-! ## The Galley marked empty (R251) -/

/-- The cycle from which a stripe composes again: the resume cycle, else its first cycle. -/
def Stripe.restartAt (x : Stripe) (c : Nat) : Nat :=
  match x.st, x.resume with
  | .ended, _ => x.comp.nextCycle
  | _, some n => n / c
  | _, none => x.firstCycle

/-- Composition of a stripe starts again at a cycle; its binding, digest and counts stay. -/
def Stripe.restart (x : Stripe) (c : Nat) : Stripe :=
  { x with comp := { x.comp with nextCycle := x.restartAt c, tilesOf := [], rewrite := none, hist := [], outs := [], held := false
                                 rebuilt := false, stalled := false } }

/-- Every tile counts as released and unpublished, and each stripe of the queue composes again (R251, R439). -/
def State.galleyEmpty (s : State) : State :=
  let c := max 1 s.scan.shots
  ({ s with mem := { s.mem with tiles := [], published := [] }
            plt := Platen.fresh }.setQueue (s.asy.queue.map (fun (x : Stripe) => x.restart c))).showLead

/-! ## Resets (R14, R17) -/

/-- KOR_HALO_STAT follows the bodies and the slots. -/
def State.showHalo (s : State) : State :=
  let busy (hi : Bool) : Bool := s.kor.haloTx.any (fun b => b.active && b.hi == hi)
  ((s.set F.KOR_HALO_STAT_USED s.kor.slots.length).setB F.KOR_HALO_STAT_BUSY_YLO (busy false)).setB F.KOR_HALO_STAT_BUSY_YHI
    (busy true)

/-- Set a bit of CMP_TAP_STAT and its vector. -/
def State.tapStat (s : State) (f : Fld) : State := (s.set f 1).irq 18

/-- The tap ends unfinished (R151). -/
def State.tapEnds (s : State) : State :=
  ((({ s with copy := { s.copy with tap := none } }).set F.CMP_TAP_CTL_ARM 0).set F.CMP_TAP_CTL_BUSY 0).tapStat
    F.CMP_TAP_STAT_LOST

/-- A stripe leaves the open queue before its tap is complete (R151). -/
def State.tapLost (s : State) (id : Nat) : State := if s.copy.tap.any (fun r => r.stripe == id) then s.tapEnds else s

/-- What the Watch keeps through a reset of PD_CTRL: FAULT_N's minimum runs on, which is counted from its assertion (R608). -/
def Watch.again (w : Watch) : Watch := { Watch.fresh with faultMinEnd := w.faultMinEnd, faultAt := w.faultAt, faultSrc := w.faultSrc }

/-- Every stripe has left the open queue with a reset of PD_CTRL (R419): the tap of one is lost (R151), and no stripe holds a
halo body any more (R505). -/
def State.queueGone (s : State) : State :=
  let s := if s.copy.tap.isSome then s.tapEnds else s
  { s with kor := { s.kor with slots := s.kor.slots.map (fun (x : HaloSlot) => { x with takers := [] }) } }

/-- What a reset of a domain leaves of the state beyond its registers.  A reset of PD_RING frees no slot with an accepted body
(R505); one that is being filled is given up (DESIGN CHOICE, log entry 63).  A reset of PD_BDLA or PD_BDLB cuts a sweep off
with BUSY 0 and without DONE (DESIGN CHOICE, log entry 66). -/
def State.engineReset (s : State) (d : Dom) : State :=
  match d with
  | .ctrl =>
    { s.queueGone with
      watch := s.watch.again, dbk := ⟨[], []⟩, asy := .fresh, cores := [], jmem := [], sram := s.sram.erase 3 }
  | .host => { s with prt := { Porter.fresh with frames := s.prt.frames }, msix := .fresh }
  | .mgmt => { s with prt := { s.prt with frames := [] } }
  | .ring => { s with kor := { Kor.fresh with slots := s.kor.slots.filter (fun (x : HaloSlot) => x.accepted) } }.clkZero
  | .comp =>
    { s with sram := (s.sram.erase 0).erase 1, copy := { s.copy with tap := none }
             asy := { s.asy with queue := s.asy.queue.map (fun x =>
               { x with comp := { x.comp with tilesOf := [], rewrite := none, hist := [], outs := [], rebuilt := false } }) } }
  | .plat => { s with plt := .fresh, sram := s.sram.erase 2 }
  | .bdla => ({ s with bdl := { s.bdl with sweep := none, lastFrame := s.bdl.lastFrame.filter (fun p => 16 ≤ p.1) } }).set
      F.BDL_TRAIN_CTL_BUSY 0
  | .bdlb => ({ s with bdl := { s.bdl with sweep := none, lastFrame := s.bdl.lastFrame.filter (fun p => p.1 < 16) } }).set
      F.BDL_TRAIN_CTL_BUSY 0
  | .motion =>
    { s with esc := { Esc.fresh with ports := s.esc.ports.map (fun p => (p.1, p.2.again)), att := s.esc.att.map (fun a => { a with fixed := [], launched := false }) }
             gov := .fresh, gau := .fresh }
  | .vision => { s with vis := .fresh }
  | .hbm => { s with mem := { s.mem with debt := [], tempAt := none, hurt := [] } }
  | _ => s

/-- The part loses its Head authentication when PD_BDLB is reset (R316); it still knows the Head last authenticated
(R320). -/
def State.headReset (s : State) : State :=
  let s1 := if s.get F.HED_AUTH_STAT_STATE = 2 then ((s.raise 0x44 0 0).irq 15) else s
  { s1 with hed := { Head.fresh with lastId := s1.hed.lastId } }

/-- A domain goes into reset: its registers and its engines (R14, R17).  CMP_LEAD then stays at its reset value until PD_COMP
leaves reset. -/
def State.domReset (s : State) (d : Dom) : State :=
  let was := s.flag F.HED_BEAM_STAT_ENABLE_OUT
  let s := if d = .bdlb then s.headReset else s
  let s := (s.engineReset d).resetRegs d
  let s := if d = .plat ∨ d = .bdla ∨ d = .bdlb then s.lanesOff else s
  let s := if d = .ctrl then (s.set F.SEC_DBG_STAT_OPEN 0).set F.SEC_DBG_STAT_SCOPE 0 else s
  let s := if d = .motion then s.set F.TOP_EPOCH_STAT_GAIN_STAGED 0 else s
  let s := if d = .bdlb ∧ was then s.stopArmed 3 else s
  let s := (s.beam false).showCur
  if d = .comp then s else s.showLead

/-- A Forme load has a stripe run its pre-pass again (R642): a side that is complete with the pre-pass, one that is not RING or whose
halo is empty, is complete with it again (R190). -/
def Stripe.prepassLost (x : Stripe) : Stripe :=
  let ring (f : Fld) : Bool := x.comp.bound.get f == 2
  let empty : Bool := (x.comp.bound.get F.CMP_SR_CTL_EN == 0 || x.comp.bound.get F.CMP_SR_CTL_HY == 0)
    && x.comp.bound.get F.CMP_LR_CTL_EN == 0
  { x with comp := { x.comp with prepass := false, sums := [], owes := []
                                 yloOk := x.comp.yloOk && ring F.CMP_HALO_CTL_MODE_YLO && !empty
                                 yhiOk := x.comp.yhiOk && ring F.CMP_HALO_CTL_MODE_YHI && !empty } }

/-- The pre-pass and the halos of a stripe lay in the stack (R163, R503): they are not known any more (R165). -/
def Stripe.haloLost (x : Stripe) : Stripe :=
  { x with comp := { x.comp with prepass := false, ylo := none, yhi := none, yloOk := false, yhiOk := false
                                 sums := [], owes := [] } }

/-- KOR_HALO_STAT follows while PD_RING is up. -/
def State.showHaloUp (s : State) : State := if s.domUp .ring then s.showHalo else s

/-- The stack's contents are lost (R267), and with them the bodies in the halo slots (DESIGN CHOICE, log entry 63). -/
def State.hbmLost (s : State) : State :=
  ({ s with mem := .fresh, copy := { s.copy with layers := [] }, kor := { s.kor with slots := [] }
            asy := { s.asy with queue := s.asy.queue.map Stripe.haloLost } }).galleyEmpty.showCopy.showHaloUp

/-- Hold a bit of PWR_DOM_STAT. -/
def State.domBit (s : State) (f : Fld) (d : Dom) (b : Bool) : State := s.set f (putBits (s.get f) d.idx 1 (b2n b))

/-- Which domains are on, one bit each. -/
def State.domsOn (s : State) : Nat := s.get F.PWR_DOM_STAT_ON

/-- A POWER record where the set of domains on has changed (R614). -/
def State.dbkPower (s : State) (before : Nat) : State :=
  if s.domsOn = before then s else s.dbkNow 7 0xFF before s.domsOn 0

/-- A domain goes off: it is reset, and the stack loses its contents (R267, R669). -/
def State.domOff (s : State) (d : Dom) : State :=
  let before := s.domsOn
  let s := s.domReset d
  let s := (s.domBit F.PWR_DOM_STAT_ON d false).domBit F.PWR_DOM_STAT_RST d false
  let s := if d = .hbm then s.hbmLost else s
  (s.beam false).dbkPower before

/-- A domain is on and in reset. -/
def State.domOn (s : State) (d : Dom) : State :=
  let before := s.domsOn
  ((s.domBit F.PWR_DOM_STAT_ON d true).domBit F.PWR_DOM_STAT_RST d true).dbkPower before

/-- FAULT_N as PD_CTRL leaves reset: still driven until the minimum of an assertion before the reset has passed, and then
released (R608; DESIGN CHOICE, log entry 34: no rule says that the Watch takes the line up again). -/
def State.faultAgain (s : State) : State :=
  (if s.clk.now < s.watch.faultMinEnd then (s.set F.WCH_FAULTN_DRIVEN 1).set F.WCH_FAULTN_REL_PEND 1 else s).showPin

/-- What starts as a domain leaves reset.  As PD_MOTION leaves reset, the ESC_CUR_ registers show the current stripe again and
not the reset values of R14, since R76 has them hold its parameters while it is current (DESIGN CHOICE, log entry 75). -/
def State.domStart (s : State) (d : Dom) : State :=
  match d with
  | .bdlb =>
    let s := { s with hed := { s.hed with want := true, lastTelem := s.clk.now } }
    let s := s.setB F.HED_BEAM_STAT_INHIBIT_IN s.pins.inhHighSince.isNone
    let s := (List.range 4).foldl State.bsrStart s
    let s := if s.pins.inhHighSince.isNone then s.latch else s
    if s.forme.isSome then s.lanesWake else s
  | .bdla =>
    let s := if s.admitted then s.takeDevice else s
    if s.forme.isSome then s.lanesWake else s
  | .plat => if s.forme.isSome then s.lanesWake else s
  | .ring =>
    let s := ({ s with pins := { s.pins with ringPll := true } }.clkZero).showHalo
    if s.role = 0 then s else s.ringPorts
  | .comp => (((s.validateAll).showCopy).showComp).showLead
  | .ctrl => ((s.sramFill 3 dbkBlock 2048).showCur).faultAgain
  | .motion => match s.cur with
    | some x => s.showEsc x
    | none => s
  | _ => s

/-- A domain leaves reset (R646, R667). -/
def State.domLeave (s : State) (d : Dom) : State :=
  (((s.domBit F.PWR_DOM_STAT_RST d false).formeRegs d).domStart d).beam false

end Sys2Proof.Machine
end

