-- ==== Sys2Proof/Machine/Security.lean ====
section
/-! DEFINITION. Lifecycle, keys, the Strongbox commands and debug (R650 to R662). -/

namespace Sys2Proof.Machine
open Sys2Proof

/-- Report a security command (R673) and write its KEY record (R671). -/
def State.secResult (s : State) (op result slot : Nat) : State :=
  (((s.set F.SEC_STAT_OP op).set F.SEC_STAT_RESULT result).set F.SEC_STAT_VALID 1).dbkNow 0x12 0xFF
    (op + 16 * result + 256 * (slot % 32)) 0 0

/-- The device private key: derived from the fused seed (R651), an open value as a function of it. -/
def State.devKey (s : State) : Nat := scalarOf (Config.deviceKey (s.sec.seed.getD 0))

/-- A new value of Locksmith's random source. -/
def State.draw (s : State) : Nat × State :=
  (Config.random s.clk.freeN, { s with clk := { s.clk with freeN := s.clk.freeN + 1 } })

/-- The lifecycle has a device key: FACTORY or FIELD (R650). -/
def State.keyed (s : State) : Bool := s.get F.SEC_LIFE == 1 || s.get F.SEC_LIFE == 2

/-- A change of lifecycle and its record. -/
def State.lifeTo (s : State) (n : Nat) : State :=
  let old := s.get F.SEC_LIFE
  (s.set F.SEC_LIFE n).dbkNow 0x15 0xFF old n 0

/-- PROVISION (R650). -/
def State.provision (s : State) : State :=
  if s.get F.SEC_LIFE = 0 then
    let (r, s) := s.draw
    ((({ s with sec := { s.sec with seed := some r } }).lifeTo 1)).secResult 1 0 0
  else s.secResult 1 1 0

/-- PROVISION. -/
def execProvision (m : Fin 9) (s : State) : Host.Outcome State Fault Refusal :=
  .next (s.regOp m F.SEC_CMD_OP.off State.provision)

/-- ADVANCE (R650): the second within 1 ms of the first, while the open queue is empty. -/
def State.advance (s : State) : State :=
  if s.keyed && s.asy.queue.isEmpty then
    match s.sec.advanceAt with
    | some t =>
      if s.clk.now ≤ t + ms 1 then
        let s := { s with sec := { s.sec with advanceAt := none } }
        if s.get F.SEC_LIFE = 1 then (s.lifeTo 2).secResult 2 0 0
        else
          let s := s.eraseSlots (List.range 24)
          (({ s with sec := { s.sec with seed := none } }).lifeTo 3).secResult 2 0 0
      else ({ s with sec := { s.sec with advanceAt := some s.clk.now } }).secResult 2 0 0
    | none => ({ s with sec := { s.sec with advanceAt := some s.clk.now } }).secResult 2 0 0
  else ({ s with sec := { s.sec with advanceAt := none } }).secResult 2 1 0

/-- ADVANCE. -/
def execAdvance (m : Fin 9) (s : State) : Host.Outcome State Fault Refusal :=
  .next (s.regOp m F.SEC_CMD_OP.off State.advance)

/-- GEN_WRAP (R653). -/
def State.genWrap (s : State) (w : Nat) : State :=
  if !s.keyed then s.secResult 3 1 w
  else if w < 16 ∨ 19 < w then s.secResult 3 2 w
  else
    let (r, s) := s.draw
    let s := ({ s with sec := { s.sec with slots := s.sec.slots.put w (.wrap (scalarOf r)) } }).showSlots
    let pub := ecPublic (scalarOf r)
    let (k, s) := s.draw
    let sig := ecdsaSign s.devKey (scalarOf k)
      (tag4 0x46 0x58 0x57 0x31 ++ leBytes 8 (s.get F.TOP_SERIAL) ++ leBytes 1 w ++ zeros 3 ++ pub)
    ((s.setBytes F.SEC_PUB pub).setBytes F.SEC_SIG sig).secResult 3 0 w

/-- GEN_WRAP. -/
def execGenWrap (m : Fin 9) (slot : Nat) (s : State) : Host.Outcome State Fault Refusal :=
  .next (s.regOp m F.SEC_CMD_OP.off (fun s => s.genWrap (slot % 32)))

/-- The bytes of the key blob as written (R654). -/
def State.blob (s : State) : List Byte := ((List.range 64).map (fun i => leBytes 4 (s.get (F.SEC_BLOB i)))).flatten

/-- A NOT_AFTER has passed (R655). -/
def State.expired (s : State) (notAfter : Nat) : Bool :=
  notAfter != 0 && (!s.flag F.LGR_STAT_CAL_VALID || decide (notAfter ≤ s.lgr.copy.calendar))

/-- The key of a blob (R655): none where TAG fails. -/
def State.unwrap (s : State) (b : List Byte) (priv : Nat) : Option (List Byte) :=
  let z := leBytes 48 (ecdh priv ((b.drop 16).take 96))
  let kek := (sha384 (tag4 0x46 0x58 0x4B 0x31 ++ z ++ leBytes 8 (s.get F.TOP_SERIAL) ++ b.take 16)).take 32
  gcmOpen kek (zeros 12) (b.take 112) ((b.drop 112).take 32) ((b.drop 144).take 16)

/-- The fields of a blob are well formed (R654, R655). -/
def blobOk (b : List Byte) : Bool :=
  let tgt := leAt b 6 1
  let w := leAt b 7 1
  leAt b 0 4 == 0x31424B46 && leAt b 4 2 == 1 && (decide (tgt < 16) || decide (20 ≤ tgt ∧ tgt ≤ 23))
    && decide (16 ≤ w ∧ w ≤ 19) && (b.drop 160).all (· == 0) && onCurve (leAt b 16 48) (leAt b 64 48)

/-- LOAD_KEY (R655, R662); in STANDBY no key can be loaded (code K of R663). -/
def State.loadKey (s : State) : State :=
  let b := s.blob
  let tgt := leAt b 6 1
  if !s.keyed || s.flag F.SEC_DBG_STAT_OPEN || s.get F.PWR_STATE_STAT_STATE == 2 then s.secResult 4 1 tgt
  else if !blobOk b then s.secResult 4 4 tgt
  else
    match List.lookup (leAt b 7 1) s.sec.slots with
    | some (.wrap priv) =>
      if s.expired (leAt b 8 8) then s.secResult 4 6 tgt
      else
        match s.unwrap b priv with
        | none => (s.secResult 4 5 tgt).authCount
        | some key =>
          let full := (List.lookup tgt s.sec.slots).isSome
          let s := if full && decide (tgt < 16) then s.dropKeySegs [tgt] else s
          let v : SboxSlot := if tgt < 16 then .layout (leVal key) else .head (leVal key)
          (({ s with sec := { s.sec with slots := s.sec.slots.put tgt v } }).showSlots).secResult 4 0 tgt
    | _ => s.secResult 4 3 tgt

/-- LOAD_KEY. -/
def execLoadKey (m : Fin 9) (s : State) : Host.Outcome State Fault Refusal :=
  .next (s.regOp m F.SEC_CMD_OP.off State.loadKey)

/-- ERASE (R656): slot 31 names every slot. -/
def State.erase (s : State) (slot : Nat) : State :=
  if slot = 31 then (s.eraseSlots (List.range 24)).secResult 5 0 slot
  else if slot < 24 then (s.eraseSlots [slot]).secResult 5 0 slot
  else s.secResult 5 2 slot

/-- ERASE. -/
def execErase (m : Fin 9) (slot : Nat) (s : State) : Host.Outcome State Fault Refusal :=
  .next (s.regOp m F.SEC_CMD_OP.off (fun s => s.erase (slot % 32)))

/-- READ_DEV (R651). -/
def State.readDev (s : State) : State :=
  if s.keyed then (s.setBytes F.SEC_PUB (ecPublic s.devKey)).secResult 6 0 0 else s.secResult 6 1 0

/-- READ_DEV. -/
def execReadDev (m : Fin 9) (s : State) : Host.Outcome State Fault Refusal :=
  .next (s.regOp m F.SEC_CMD_OP.off State.readDev)

/-! ## Debug (R660 to R662) -/

/-- The bytes of the debug token as written. -/
def State.token (s : State) : List Byte := ((List.range 64).map (fun i => leBytes 4 (s.get (F.SEC_TOKEN i)))).flatten

/-- The nonce as read. -/
def State.dbgNonce (s : State) : Nat := (List.range 8).foldl (fun a i => a + s.get (F.SEC_DBG_NONCE i) * 2 ^ (32 * i)) 0

/-- The result of the checks of R661: 0 OK, 1 BUSY, 2 FORMAT, 3 SERIAL, 4 NONCE, 5 EXPIRED, 6 KEY, 7 SIG. -/
def State.unlockResult (s : State) : Nat :=
  let k := s.token
  if s.armedOrRunning || s.armWaiting then 1
  else if s.get F.SEC_LIFE != 2 then 0
  else if leAt k 0 4 != 0x4B4F5444 || leAt k 4 2 != 1 || decide (7 < leAt k 6 2) || leAt k 56 8 != 0 then 2
  else if leAt k 8 8 != s.get F.TOP_SERIAL then 3
  else if leAt k 16 32 != s.dbgNonce then 4
  else if s.expired (leAt k 48 8) then 5
  else if List.lookup 3 s.sec.keyHash != some (leVal (sha384 ((k.drop 64).take 96))) || s.sec.revoked.contains 3
    then 6
  else if !ecdsaVerify ((k.drop 64).take 96) (k.take 160) (k.drop 160) then 7
  else 0

/-- The Copy buffer and its segment table are overwritten with zeros (R661). -/
def State.wipeCopy (s : State) : State :=
  let top := s.copyTop
  ({ s with mem := { s.mem with cells := s.mem.cells.filter (fun c => decide (top ≤ c.1))
                                poison := s.mem.poison.filter (fun u => decide (top ≤ 64 * u))
                                hurt := s.mem.hurt.filter (fun p => decide (top ≤ 64 * p.2)) }
            copy := { s.copy with layers := [] } } : State).showCopy

/-- SEC_DBG_NONCE takes a new random value (R661, R672). -/
def State.newNonce (s : State) : State :=
  let (n, s) := s.draw
  s.setBytes F.SEC_DBG_NONCE (leBytes 32 n)

/-- A domain is reset and at once leaves reset again. -/
def State.resetNow (s : State) (d : Dom) : State := (((s.domReset d).formeRegs d).domStart d).beam false

/-- A write of 1 to SEC_DBG_CTL.UNLOCK (R661). -/
def State.unlock (s : State) : State :=
  let r := s.unlockResult
  let scope := if s.get F.SEC_LIFE = 2 then leAt s.token 6 2 % 8 else 7
  let s := s.newNonce
  let s := (s.set F.SEC_DBG_STAT_RESULT r).set F.SEC_DBG_STAT_VALID 1
  let s := if r = 0 then
      let s := ((s.eraseSlots (List.range 16)).wipeCopy)
      let s := if s.domUp .comp then s.resetNow .comp else s
      (s.set F.SEC_DBG_STAT_OPEN 1).set F.SEC_DBG_STAT_SCOPE scope
    else s
  let s := (s.raise 0x7F r 0).dbkNow 0x14 0xFF (r + 16 * (if r = 0 then scope else 0) + 256) 0 0
  if r = 6 ∨ r = 7 then s.authCount else s

/-- UNLOCK (R661). -/
def execUnlock (m : Fin 9) (s : State) : Host.Outcome State Fault Refusal :=
  .next (s.regOp m F.SEC_DBG_CTL_UNLOCK.off State.unlock)

/-- A write of 1 to SEC_DBG_CTL.LOCK (R662). -/
def State.lock (s : State) : State :=
  (((s.set F.SEC_DBG_STAT_OPEN 0).set F.SEC_DBG_STAT_SCOPE 0).raise 0x7F 0 0).dbkNow 0x14 0xFF 0 0 0

/-- LOCK (R662). -/
def execLock (m : Fin 9) (s : State) : Host.Outcome State Fault Refusal :=
  .next (s.regOp m F.SEC_DBG_CTL_LOCK.off State.lock)

/-- Debug is open with a scope bit: within a token's scope, or in BLANK and RETIRED (R650). -/
def State.scope (s : State) (b : Nat) : Bool :=
  !s.keyed || (s.flag F.SEC_DBG_STAT_OPEN && bitOf (s.get F.SEC_DBG_STAT_SCOPE) b)

/-- What a debugger asks of the JTAG port (R659): IDCODE, BYPASS or SAMPLE/PRELOAD; EXTEST, CLAMP or HIGHZ; halting, stepping or
memory access of a Journeyman core. -/
inductive JtagUse where
  | always | boundary | core
  deriving DecidableEq, Repr

/-- The use is available (R659). -/
def State.jtagMay (s : State) (u : JtagUse) : Bool :=
  s.domUp .ctrl && match u with
    | .always => true
    | .boundary => s.scope 1
    | .core => s.scope 0

/-- JTAG_EXTEST (R659): while selected, BEAM_ENABLE is low, every lane is at electrical idle and FAULT_N is low. -/
def execJtagExtest (t : Nat) (select : Bool) (s : State) : Host.Outcome State Fault Refusal :=
  let s := s.at t
  .next (if !s.domUp .ctrl then s
    else if select then
      if s.jtagMay .boundary then
        ((({ s with pins := { s.pins with extest := true } }).lanesOff).showPin).beam false
      else s
    else
      let s := ({ s with pins := { s.pins with extest := false } }).showPin
      (if s.forme.isSome then s.lanesWake else s).beam false)

end Sys2Proof.Machine
end

