-- ==== Sys2Proof/Machine/Sram.lean ====
section
/-! DEFINITION. On-die SRAM (R268 to R278): verdicts from the standing upsets of a block, and the scrubber. -/

namespace Sys2Proof.Machine
open Sys2Proof

/-- The size of array a in bytes (R268): 96 MiB, 8 MiB, 1.5 MiB and 16 MiB. -/
def sramSize (a : Nat) : Nat := [100663296, 8388608, 1572864, 16777216].getD a 0

/-- The blocks of array a (R268). -/
def sramBlocks (a : Nat) : Nat := sramSize a / 64

/-- Toggle one upset of a block. -/
def toggle (u : Upset) (l : List Upset) : List Upset := if l.contains u then l.erase u else u :: l

/-- The row syndrome of a block: failing (word, byte) pairs (R272). -/
def rowSyn (l : List Upset) : List (Nat × Nat) :=
  ((List.range 64).map (fun i => (i / 8, i % 8))).filter (fun p =>
    (l.filter (fun u => match u with
      | .data w b => w.val == p.1 && b.val / 8 == p.2
      | .row w y => w.val == p.1 && y.val == p.2
      | .col _ => false)).length % 2 == 1)

/-- The column syndrome of a block: the bits of S that are set (R272). -/
def colSyn (l : List Upset) : List Nat :=
  (List.range 64).filter (fun b =>
    (l.filter (fun u => match u with
      | .data _ c => c.val == b
      | .row _ _ => false
      | .col c => c.val == b)).length % 2 == 1)

/-- The verdicts of R272. -/
inductive Verdict where
  | clean
  | data (word bit : Nat)
  | row (word byte : Nat)
  | col (bit : Nat)
  | bad
  deriving DecidableEq, Repr

/-- The verdict on a block (R272). -/
def verdict (l : List Upset) : Verdict :=
  match rowSyn l, colSyn l with
  | [], [] => .clean
  | [(w, y)], [b] => if b / 8 = y then .data w b else .bad
  | [(w, y)], [] => .row w y
  | [], [b] => .col b
  | _, _ => .bad

/-- SRM_ERR and SRM_ERR_ADDR describe an event at a block (R289, R290). -/
def State.sramErr (s : State) (a word bit : Nat) (parity : Bool) (addr : Nat) : State :=
  (((s.set (F.SRM_ERR_WORD a) word).set (F.SRM_ERR_BIT a) bit).setB (F.SRM_ERR_PARITY a) parity).set (F.SRM_ERR_ADDR a)
    addr

/-- A corrected error in a block (R272); the word of a mended column parity word is shown as 0 (DESIGN CHOICE, log entry
105). -/
def State.sramCe (s : State) (a word bit : Nat) (parity : Bool) (blk : Nat) : State :=
  (((s.inc (F.SRM_CE a)).set (F.SRM_ERR_CE a) 1).sramErr a word bit parity (64 * blk)).raise 0x38 a (64 * blk)

/-- An uncorrectable read of the word at an array address (R272, R273, R290). -/
def State.sramUe (s : State) (a addr : Nat) : State :=
  (((((s.inc (F.SRM_UE a)).set (F.SRM_ERR_UE a) 1).set (F.SRM_ERR_WORD a) (addr / 8 % 8)).set (F.SRM_ERR_ADDR a)
    (addr / 64 * 64))).raise 0x39 a (addr / 64 * 64)

/-- A read of a word that nothing has written, in a block not yet armed (R273). -/
def State.sramUninit (s : State) (a addr : Nat) : State :=
  (((((s.inc (F.SRM_UNINIT a)).set (F.SRM_ERR_UNINIT a) 1).set (F.SRM_ERR_WORD a) (addr / 8 % 8)).set (F.SRM_ERR_ADDR a)
    (addr / 8 * 8))).raise 0x3A a (addr / 8 * 8)

/-- A bit of a block flips. -/
def State.sramFlip (s : State) (a blk : Nat) (u : Upset) : State := s.setUpsets a blk (toggle u (s.upsetsOf a blk))

/-- A block is armed (R271). -/
def State.isArmed (s : State) (a blk : Nat) : Bool := (s.arr a).armed.any (fun p => decide (p.1 ≤ blk ∧ blk < p.1 + p.2))

/-- A word of a block has been written (R271, R273). -/
def State.isWritten (s : State) (a blk w : Nat) : Bool := s.isArmed a blk || bitOf ((s.arr a).masks.get blk 0) w

/-- The block with the mask bits of its words lo to hi set: its last one arms it (R271). -/
def Sram.touch (x : Sram) (blk lo hi : Nat) : Sram :=
  let m := x.masks.get blk 0 ||| ((2 ^ (hi + 1 - lo) - 1) * 2 ^ lo)
  if x.armed.any (fun p => decide (p.1 ≤ blk ∧ blk < p.1 + p.2)) then x
  else if m = 255 then { x with armed := (blk, 1) :: x.armed, masks := x.masks.erase blk }
  else { x with masks := x.masks.put blk m }

/-- The parts of a write of n bytes at a, one for each block: block, first and last byte in it. -/
def blockSplit (a n : Nat) : List (Nat × Nat × Nat) :=
  if n = 0 then []
  else (List.range ((a + n - 1) / 64 - a / 64 + 1)).map (fun i =>
    let b := a / 64 + i
    (b, max a (64 * b) - 64 * b, min (a + n - 1) (64 * b + 63) - 64 * b))

/-- The row and column parity of the bytes written, and the mask bits of the words touched (R270, R271). -/
def State.sramMark (s : State) (a addr n : Nat) : State :=
  (blockSplit addr n).foldl (fun s p =>
    let s := s.setArr a ((s.arr a).touch p.1 (p.2.1 / 8) (p.2.2 / 8))
    s.setUpsets a p.1 ((s.upsetsOf a p.1).filter (fun u => !upsetIn p.2.1 p.2.2 u))) s

/-- The word map with a byte at an array address. -/
def wordPut (m : SMap Nat) (addr : Nat) (b : Byte) : SMap Nat :=
  let v := putBits (m.get (addr / 8) 0) (8 * (addr % 8)) 8 b.toNat
  if v = 0 then m.erase (addr / 8) else m.put (addr / 8) v

/-- The word map with a string from an array address. -/
def wordPuts (m : SMap Nat) (addr : Nat) : List Byte → SMap Nat
  | [] => m
  | b :: r => wordPuts (wordPut m addr b) (addr + 1) r

/-- A functional write (R270, R271).  The values of array 2 are those of the shot buffers, which decoding alone writes
(R291, R293), and those of the Daybook its records (R611). -/
def State.sramWrite (s : State) (a addr : Nat) (d : List Byte) : State :=
  if sramSize a < addr + d.length then s
  else
    let s := s.sramMark a addr d.length
    if a = 3 then (if addr + d.length ≤ dbkBase then { s with jmem := cellPuts s.jmem addr d } else s)
    else if a = 2 then s
    else s.setArr a { s.arr a with words := wordPuts (s.arr a).words addr d }

/-- The part acts on a block whose check has failed or that the scrubber reads, for the word w (R272, R276): a single flipped
bit is mended and counted, anything else is uncorrectable. -/
def State.blockCheck (s : State) (a blk w : Nat) : State :=
  let l := s.upsetsOf a blk
  match verdict l with
  | .clean => s
  | .data w b => (s.setUpsets a blk (toggle (.data (.ofNat 8 w) (.ofNat 64 b)) l)).sramCe a w b false blk
  | .row w y => (s.setUpsets a blk (toggle (.row (.ofNat 8 w) (.ofNat 8 y)) l)).sramCe a w 0 true blk
  | .col b => (s.setUpsets a blk (toggle (.col (.ofNat 64 b)) l)).sramCe a 0 0 true blk
  | .bad => s.sramUe a (64 * blk + 8 * w)

/-- The scrubber reads a block and acts on its verdict (R276).  The word it names for an uncorrectable block is the first of
the row syndrome, else 0 (DESIGN CHOICE, log entry 105). -/
def State.scrubBlk (s : State) (a blk : Nat) : State :=
  s.blockCheck a blk (((rowSyn (s.upsetsOf a blk)).head?.map Prod.fst).getD 0)

/-- A word of a block fails its row parity check (R272). -/
def wordFails (l : List Upset) (w : Nat) : Bool := (rowSyn l).any (fun p => p.1 == w)

/-- A functional read of the word at an array address (R272, R273): whether it is delivered poisoned, and the state after
it.  Its row parity is checked; where that fails, an armed block gets its verdict and one not yet armed is uncorrectable. -/
def State.sramRead (s : State) (a addr : Nat) : Bool × State :=
  let blk := addr / 64
  let w := addr / 8 % 8
  if !s.isWritten a blk w then (false, s.sramUninit a addr)
  else if !wordFails (s.upsetsOf a blk) w then (false, s)
  else if s.isArmed a blk then (verdict (s.upsetsOf a blk) == .bad, s.blockCheck a blk w)
  else (true, s.sramUe a addr)

/-- An access of array a from the datapath or the firmware, below a limit; or a bit that flips (R270 to R273): whether it is an
uncorrectable read, and the state after it. -/
def State.sramAcc (s : State) (a lim : Nat) : SramAcc → Bool × State
  | .write addr d => (false, if addr + d.length ≤ lim then s.sramWrite a addr d else s)
  | .flip blk u => (false, if blk < sramBlocks a then s.sramFlip a blk u else s)
  | .read addr => if addr + 8 ≤ lim then s.sramRead a addr else (false, s)

/-- The bytes of an array that its user writes: those of the Chase window (R49), of the cores' memory below the Daybook (R611), or
the whole array. -/
def State.arrLimit (s : State) (a : Nat) : Nat := if a = 0 then s.scan.chase else if a = 3 then dbkBase else sramSize a

/-! ## The scrubber (R276 to R278) -/

/-- A functional write of an array by its user. -/
def State.userWrite (s : State) (a addr : Nat) (d : List Byte) : State :=
  if addr + d.length ≤ s.arrLimit a then s.sramWrite a addr d else s

/-- The next armed block at or after a block. -/
def nextArmed (l : List (Nat × Nat)) (n : Nat) : Option Nat :=
  (l.filter (fun p => decide (n < p.1 + p.2))).foldl (fun (a : Option Nat) p =>
    let v := max p.1 n
    some (match a with | none => v | some b => min b v)) none

/-- A lap ends (R278): its time in µs is recorded. -/
def State.lapEnd (s : State) (a t0 : Nat) : State :=
  let d := min ((s.clk.now - t0) / us 1) 0xFFFFFF
  (s.set (F.SRM_LAP_LAST a) d).setMax (F.SRM_LAP_MAX a) d

/-- A lap has passed its limit: SCRUB_SLOW once for the lap (R278). -/
def State.slow (s : State) (a : Nat) : State :=
  let x := s.arr a
  match x.lapStart with
  | none => s
  | some t0 =>
    if s.flag (F.SRM_CTL_SCRUB_EN a) && !x.slowRaised && decide (t0 + us (s.get (F.SRM_LAP_LIMIT a)) < s.clk.now) then
      (((s.setArr a { x with slowRaised := true }).set (F.SRM_ERR_SLOW a) 1).set (F.SRM_ERR_ADDR a) (64 * x.nextBlk)).raise
        0x3B a (64 * x.nextBlk)
    else s

/-- While SCRUB_EN is 0 no lap runs and none is timed (R278): the next one starts anew. -/
def State.lapStop (s : State) (a : Nat) : State :=
  if s.flag (F.SRM_CTL_SCRUB_EN a) then s
  else s.setArr a { s.arr a with lapStart := none, nextBlk := 0, slowRaised := false }

/-- The scrubber visits its next armed block (R276, R278).  A functional write that lands in the same clock takes effect and
the block is read again, so that its verdict is that of the block after the write (R277). -/
def State.scrub (s : State) (a : Nat) (clash : Option (Nat × List Byte)) : State :=
  let s := match clash with
    | some w => s.userWrite a w.1 w.2
    | none => s
  let x := s.arr a
  match nextArmed x.armed x.nextBlk with
  | none => s
  | some b =>
    let t0 := x.lapStart.getD s.clk.now
    let s := (s.setArr a { x with lapStart := some t0, nextBlk := b }).scrubBlk a b
    let x := s.arr a
    match nextArmed x.armed (b + 1) with
    | some n => (s.setArr a { x with nextBlk := n }).slow a
    | none =>
      let s := (s.slow a).lapEnd a t0
      s.setArr a { s.arr a with lapStart := none, nextBlk := 0, slowRaised := false }

/-- SCRUB_SLOW (R278). -/
def execScrubSlow (t : Nat) (a : Fin 4) (s : State) : Host.Outcome State Fault Refusal :=
  let s := s.at t
  .next (if s.domUp (sramDom a) then s.slow a else s)

end Sys2Proof.Machine
end

