-- ==== Sys2Proof/Machine/Quire.lean ====
section
/-! DEFINITION. The Quire tile codec (R195 to R225): leaves and tiles, the token decoder, the compressor and the checks of
the Platen, all as functions on bytes and values. -/

namespace Sys2Proof.Machine
open Sys2Proof

/-! ## Leaves -/

/-- A mark (R206): value index, cause, value before zeroing. -/
structure Mark where
  t : Nat
  cause : Nat
  value : Nat
  deriving DecidableEq, Repr

/-- A decoded leaf: 8,192 values, its marks and WHOLE. -/
structure Leaf where
  vals : Array Nat
  marks : List Mark
  whole : Nat
  deriving DecidableEq, Repr

/-- Values per leaf. -/
def leafN : Nat := 8192

/-- The packed form of R196: value t in the low half of byte t / 2 for even t. -/
def packLeaf (v : Array Nat) : List Byte :=
  (List.range 4096).map (fun i => BitVec.ofNat 8 (v.getD (2 * i) 0 % 16 + 16 * (v.getD (2 * i + 1) 0 % 16)))

/-- The values of a packed form. -/
def unpackLeaf (l : List Byte) : Array Nat :=
  (l.flatMap (fun b => [b.toNat % 16, b.toNat / 16])).toArray

/-- The 32-bit word of a mark (R206). -/
def Mark.word (m : Mark) : Nat := m.t / 512 + m.t % 512 * 2 ^ 4 + m.cause % 4 * 2 ^ 13 + m.value % 16 * 2 ^ 15

/-- A mark from its word. -/
def markOf (w : Nat) : Mark := ⟨bits w 0 4 * 512 + bits w 4 9, bits w 13 2, bits w 15 4⟩

/-- The LCRC of a leaf (R208) from its first 8 bytes, its values and its mark entries. -/
def leafCrc (shot stripe lane : Nat) (head : List Byte) (v : Array Nat) (marks : List Byte) : Nat :=
  crc32c (leBytes 8 shot ++ leBytes 4 stripe ++ leBytes 1 lane ++ zeros 3 ++ head ++ packLeaf v ++ marks)

/-! ## The token decoder (R209 to R213) -/

/-- The w bits from bit p of a stream of n bits; none past its end. -/
def getb (v n p w : Nat) : Option Nat := if p + w ≤ n then some (bits v p w) else none

/-- Append n literal values of 4 bits from bit p. -/
def litRun (v n : Nat) : Nat → Nat → Array Nat → Option (Array Nat)
  | 0, _, out => some out
  | k + 1, p, out =>
    match getb v n p 4 with
    | none => none
    | some x => litRun v n k (p + 4) (out.push x)

/-- Append len values copied from dist values back, through the previous leaf where they reach it. -/
def copyRun (prev : Array Nat) (dist : Nat) : Nat → Array Nat → Array Nat
  | 0, out => out
  | k + 1, out =>
    let x := if dist ≤ out.size then out.getD (out.size - dist) 0 else prev.getD (leafN + out.size - dist) 0
    copyRun prev dist k (out.push x)

/-- The distance of class cls and its DX (R210): bits read and distance. -/
def distBits (cls : Nat) : Nat := [0, 4, 9, 13].getD cls 0
/-- The base of a class's distances. -/
def distBase (cls : Nat) : Nat := [8192, 1, 17, 529].getD cls 0

/-- The token loop of R212 over a stream v of n bits; an error is its cause code. -/
def tokens (v n : Nat) (prev : Array Nat) (hcount : Nat) (bad : Bool) : Nat → Nat → Array Nat → Except Nat (Array Nat)
  | 0, _, _ => .error 6
  | fuel + 1, p, out =>
    match getb v n p 1, getb v n (p + 1) 1 with
    | none, _ => .error 6
    | some 0, _ =>
      match getb v n (p + 1) 3 with
      | none => .error 6
      | some cnt =>
        match (if cnt < 7 then some (cnt + 1, p + 4) else (getb v n (p + 4) 13).map (fun e => (e + 8, p + 17))) with
        | none => .error 6
        | some (k, p) =>
          if leafN < out.size + k then .error 7
          else
            match litRun v n k p out with
            | none => .error 6
            | some out => tokens v n prev hcount bad fuel (p + 4 * k) out
    | some _, none => .error 6
    | some _, some 0 =>
      match getb v n (p + 2) 4 with
      | none => .error 6
      | some lf =>
        match (if lf < 15 then some (lf + 3, p + 6) else (getb v n (p + 6) 13).map (fun e => (e + 18, p + 19))) with
        | none => .error 6
        | some (len, p) =>
          match getb v n p 2 with
          | none => .error 6
          | some cls =>
            match getb v n (p + 2) (distBits cls) with
            | none => .error 6
            | some dx =>
              let dist := distBase cls + dx
              if leafN < out.size + len then .error 8
              else if out.size + hcount < dist then .error 9
              else if out.size < dist ∧ bad then .error 10
              else tokens v n prev hcount bad fuel (p + 2 + distBits cls) (copyRun prev dist len out)
    | some _, some _ =>
      if out.size < leafN then .error 11
      else if bits v (p + 2) (n - (p + 2)) ≠ 0 ∨ n < p + 2 ∨ 8 ≤ n - (p + 2) then .error 12
      else .ok out

/-- Decode a token body (R212): the previous leaf, none where it is absent, and whether it failed. -/
def decodeBody (body : List Byte) (prev : Option (Array Nat)) (bad : Bool) : Except Nat (Array Nat) :=
  let n := 8 * body.length
  tokens (leVal body) n (prev.getD #[]) (if prev.isSome || bad then leafN else 0) bad (n + 1) 0 #[]

/-! ## Checking a leaf (R222) -/

/-- What a leaf is expected to be. -/
structure LeafCtx where
  shot : Nat
  stripe : Nat
  lane : Nat
  raw : Bool
  deriving DecidableEq, Repr

/-- Marks in ascending order of t, of a cause 1 or 2, a value above 0, on a beam whose value is 0 (R207, R222). -/
def marksOk (v : Array Nat) : List Mark → Bool
  | [] => true
  | [m] => (m.cause == 1 || m.cause == 2) && m.value != 0 && v.getD m.t 0 == 0
  | m :: k :: r => (m.cause == 1 || m.cause == 2) && m.value != 0 && v.getD m.t 0 == 0 && decide (m.t < k.t)
      && marksOk v (k :: r)

/-- A leaf's size (R205). -/
def leafSize (body marks : Nat) : Nat := upTo 8 (upTo 4 (16 + body) + 4 * marks)

/-- Check and decode the leaf whose bytes run from its start to the next leaf or the tile's end (R222): causes 4 to 14. -/
def decodeLeaf (c : LeafCtx) (l : List Byte) (last : Bool) (prev : Option (Array Nat)) (bad : Bool) : Except Nat Leaf :=
  let blen := leAt l 0 2
  let nm := leAt l 2 2
  let whole := leAt l 4 1
  let size := leafSize blen nm
  let mOff := upTo 4 (16 + blen)
  let mBytes := (l.drop mOff).take (4 * nm)
  let words := (List.range nm).map (fun i => leAt l (mOff + 4 * i) 4)
  if (if c.raw then blen != 4096 else blen == 0 || decide (8192 < blen)) || decide (8192 < nm)
      || (if last then decide (l.length < size) || decide (64 ≤ l.length - size) else size != l.length) then .error 4
  else if (l.drop 5).take 3 != zeros 3 || leAt l 12 4 != 0 || ((l.drop (16 + blen)).take (mOff - 16 - blen)).any (· != 0)
      || (l.drop (mOff + 4 * nm)).any (· != 0) || words.any (fun w => decide (2 ^ 19 ≤ w))
      || !(whole == 0 || whole == 3 || whole == 4) then .error 5
  else
    let body := (l.drop 16).take blen
    match (if c.raw then .ok (unpackLeaf body) else decodeBody body prev bad) with
    | .error e => .error e
    | .ok v =>
      let ms := words.map markOf
      if !marksOk v ms || (whole != 0 && (nm != 0 || v.any (· != 0))) then .error 13
      else if leafCrc c.shot c.stripe c.lane (l.take 8) v mBytes != leAt l 8 4 then .error 14
      else .ok ⟨v, ms, whole⟩

/-! ## Checking a tile (R222) -/

/-- What a tile is expected to be: stripe, cycle, lane, leaves, its address and the TILE_LEN of its directory entry. -/
structure TileCtx where
  stripe : Nat
  cycle : Nat
  lane : Nat
  leaves : Nat
  addr : Nat
  len : Nat
  deriving DecidableEq, Repr

/-- The first leaf offset (R203). -/
def firstOff (c : Nat) : Nat := upTo 8 (64 + 4 * c)

/-- The TCRC of a tile (R202). -/
def tileCrc (addr : Nat) (l : List Byte) (c : Nat) : Nat :=
  crc32c (leBytes 8 addr ++ l.take 60 ++ (l.drop 64).take (firstOff c - 64))

/-- Leaf offsets of a tile's directory. -/
def tileOffs (l : List Byte) (c : Nat) : List Nat := (List.range c).map (fun i => leAt l (64 + 4 * i) 4)

/-- Offsets are multiples of 8 that rise. -/
def offsOk : List Nat → Bool
  | [] => true
  | [a] => a % 8 == 0
  | a :: b :: r => a % 8 == 0 && decide (a < b) && offsOk (b :: r)

/-- Check a tile's header and directory (R222): cause 1 TILE_ID, 2 TILE_CRC, 3 TILE_DIR. -/
def tileCheck (x : TileCtx) (l : List Byte) : Option Nat :=
  let offs := tileOffs l x.leaves
  if leAt l 0 4 != 0x52495551 || leAt l 4 1 != 1 || decide (2 ≤ leAt l 5 1) || leAt l 7 1 != x.lane
      || leAt l 8 4 != x.stripe || leAt l 12 4 != x.cycle % 2 ^ 32 || leAt l 16 2 != x.leaves || leAt l 18 2 != 0
      || ((l.drop 24).take 36).any (· != 0) then some 1
  else if tileCrc x.addr l x.leaves != leAt l 60 4 then some 2
  else if offs.head? != some (firstOff x.leaves) || !offsOk offs || leAt l 20 4 % 64 != 0 || leAt l 20 4 != x.len
      || offs.any (fun o => decide (x.len < o + 16))
      || ((l.drop (64 + 4 * x.leaves)).take (firstOff x.leaves - 64 - 4 * x.leaves)).any (· != 0) then some 3
  else none

/-- The bytes of leaf i of a tile. -/
def leafBytes (l : List Byte) (offs : List Nat) (len i : Nat) : List Byte :=
  let o := offs.getD i 0
  (l.drop o).take ((offs.getD (i + 1) len) - o)

/-- Decode the leaves of a tile from leaf i on, each against the one before it; none where one fails (R222). -/
def decodeLeaves (x : TileCtx) (raw : Bool) (b : List Byte) (offs : List Nat) :
    Nat → Nat → Option (Array Nat) → Option (List Leaf)
  | 0, _, _ => some []
  | k + 1, i, prev =>
    match decodeLeaf ⟨x.cycle * x.leaves + i, x.stripe, x.lane, raw⟩ (leafBytes b offs x.len i) (k == 0) prev false with
    | .error _ => none
    | .ok f => (decodeLeaves x raw b offs k (i + 1) (some f.vals)).map (f :: ·)

/-- Check and decode a whole tile as the Platen would (R218, R266): its leaves, none where it or a leaf of it fails. -/
def decodeTile (x : TileCtx) (b : List Byte) (prev : Option (Array Nat)) : Option (List Leaf) :=
  match tileCheck x b with
  | some _ => none
  | none => decodeLeaves x (leAt b 5 1 % 2 == 1) b (tileOffs b x.leaves) x.leaves 0 prev

/-! ## The compressor (R214 to R217) -/

/-- The class of a distance (R210). -/
def clsOf (d : Nat) : Nat := if d = 8192 then 0 else if d ≤ 16 then 1 else if d ≤ 528 then 2 else 3

/-- The bits of a MATCH of a length and distance. -/
def matchBits (len dist : Nat) : Nat := 2 + 4 + (if len < 18 then 0 else 13) + 2 + distBits (clsOf dist)

/-- The value dist back from position p, through the previous leaf. -/
def backVal (prev : Option (Array Nat)) (v : Array Nat) (p dist : Nat) : Option Nat :=
  if dist ≤ p then some (v.getD (p - dist) 0)
  else match prev with
    | some h => if dist ≤ p + leafN then some (h.getD (leafN + p - dist) 0) else none
    | none => none

/-- The length of the match at position p with a distance, up to k values. -/
def matchLen (prev : Option (Array Nat)) (v : Array Nat) (dist : Nat) : Nat → Nat → Nat
  | _, 0 => 0
  | p, k + 1 => if backVal prev v p dist = some (v.getD p 0) then matchLen prev v dist (p + 1) k + 1 else 0

/-- The distances of a hash chain of a depth over the next 3 values: the nearest places in the history at which these three
values stand, all 12 bits of them hashed (DESIGN CHOICE, log entry 62). -/
def chainDists (prev : Option (Array Nat)) (v : Array Nat) (p depth : Nat) : List Nat :=
  if leafN < p + 3 then []
  else (((List.range 8720).map (· + 1)).filter (fun d => matchLen prev v d p 3 == 3)).take depth

/-- The candidate distances of a level at a position (R214): the chain's depth is 2 at level 2 and doubles with each level. -/
def candidates (level : Nat) (prev : Option (Array Nat)) (v : Array Nat) (p : Nat) : List Nat :=
  let base := if level = 0 then [8192, 1, 512] else [8192, 1, 2, 16, 512, 1024]
  if level ≤ 1 then base else base ++ chainDists prev v p (2 ^ (level - 1))

/-- The best match at a position: the longest of at least 3, then the shortest code, then the smallest distance. -/
def bestMatch (level : Nat) (prev : Option (Array Nat)) (v : Array Nat) (p : Nat) : Option (Nat × Nat) :=
  ((candidates level prev v p).map (fun d => (matchLen prev v d p (leafN - p), d))).foldl
    (fun (a : Option (Nat × Nat)) m =>
      if m.1 < 3 then a
      else match a with
        | none => some m
        | some b =>
          if b.1 < m.1 ∨ (b.1 = m.1 ∧ (matchBits m.1 m.2 < matchBits b.1 b.2
              ∨ (matchBits m.1 m.2 = matchBits b.1 b.2 ∧ m.2 < b.2))) then some m else a) none

/-- A token. -/
inductive Tok where
  | lit (vs : List Nat)
  | mat (len dist : Nat)
  deriving DecidableEq, Repr

/-- The lazy step (R214): at levels 5 and above a longer match at the next position defers this one. -/
def deferred (level : Nat) (prev : Option (Array Nat)) (v : Array Nat) (p len : Nat) : Bool :=
  decide (5 ≤ level) && (match bestMatch level prev v (p + 1) with
    | some m => decide (len < m.1)
    | none => false)

/-- The tokens of a leaf from a position, with the literals not yet closed (latest first). -/
def tokenise (level : Nat) (prev : Option (Array Nat)) (v : Array Nat) : Nat → Nat → List Nat → List Tok
  | 0, _, ls => if ls.isEmpty then [] else [.lit ls.reverse]
  | fuel + 1, p, ls =>
    if leafN ≤ p then (if ls.isEmpty then [] else [.lit ls.reverse])
    else
      match bestMatch level prev v p with
      | some (len, d) =>
        if deferred level prev v p len then tokenise level prev v fuel (p + 1) (v.getD p 0 :: ls)
        else (if ls.isEmpty then [] else [.lit ls.reverse]) ++ .mat len d :: tokenise level prev v fuel (p + len) []
      | none => tokenise level prev v fuel (p + 1) (v.getD p 0 :: ls)

/-- The bits of a token, as (value, width), first bit lowest. -/
def Tok.bits : Tok → List (Nat × Nat)
  | .lit vs =>
    let n := vs.length
    (0, 1) :: (if n < 8 then [(n - 1, 3)] else [(7, 3), (n - 8, 13)]) ++ vs.map (fun x => (x, 4))
  | .mat len d =>
    [(1, 1), (0, 1)] ++ (if len < 18 then [(len - 3, 4)] else [(15, 4), (len - 18, 13)])
      ++ [(clsOf d, 2), (d - distBase (clsOf d), distBits (clsOf d))]

/-- Join bit fields into a stream: its value and its length in bits. -/
def joinBits (l : List (Nat × Nat)) : Nat × Nat :=
  l.foldl (fun a f => (a.1 + f.1 % 2 ^ f.2 * 2 ^ a.2, a.2 + f.2)) (0, 0)

/-- The token body of a leaf. -/
def encodeBody (level : Nat) (prev : Option (Array Nat)) (v : Array Nat) : List Byte :=
  let b := joinBits ((tokenise level prev v (leafN + 1) 0 []).flatMap Tok.bits ++ [(1, 1), (1, 1)])
  leBytes ((b.2 + 7) / 8) b.1

/-- The bytes of a leaf with a body (R204). -/
def leafOf (c : LeafCtx) (x : Leaf) (body : List Byte) : List Byte :=
  let ms := (x.marks.map (fun m => leBytes 4 m.word)).flatten
  let head := leBytes 2 body.length ++ leBytes 2 x.marks.length ++ leBytes 1 x.whole ++ zeros 3
  let l := padTo (upTo 4 (16 + body.length))
    (head ++ leBytes 4 (leafCrc c.shot c.stripe c.lane head x.vals ms) ++ zeros 4 ++ body) ++ ms
  padTo (upTo 8 l.length) l

/-- The leaves of a tile in order: its first shot, its leaves and the history. -/
def encodeLeaves (raw : Bool) (level stripe lane : Nat) : Nat → Option (Array Nat) → List Leaf → List (List Byte)
  | _, _, [] => []
  | shot, prev, x :: r =>
    leafOf ⟨shot, stripe, lane, raw⟩ x (if raw then packLeaf x.vals else encodeBody level prev x.vals)
      :: encodeLeaves raw level stripe lane (shot + 1) (some x.vals) r

/-- Offsets of leaves from their sizes. -/
def offsets : Nat → List (List Byte) → List Nat
  | _, [] => []
  | o, l :: r => o :: offsets (o + l.length) r

/-- A tile (R200, R201) without its TCRC resolved to an address: the address is folded in. -/
def tileOf (raw : Bool) (level stripe cycle lane addr : Nat) (ls : List (List Byte)) : List Byte :=
  let c := ls.length
  let dir := padTo (firstOff c - 64) ((offsets (firstOff c) ls).map (leBytes 4)).flatten
  let len := upTo 64 (firstOff c + (ls.map List.length).sum)
  let h := leBytes 4 0x52495551 ++ leBytes 1 1 ++ leBytes 1 (b2n raw) ++ leBytes 1 level ++ leBytes 1 lane
    ++ leBytes 4 stripe ++ leBytes 4 cycle ++ leBytes 2 c ++ zeros 2 ++ leBytes 4 len ++ zeros 36
  padTo len (h ++ leBytes 4 (crc32c (leBytes 8 addr ++ h ++ dir)) ++ dir ++ ls.flatten)

/-- A tile's length. -/
def tileLen (ls : List (List Byte)) : Nat := upTo 64 (firstOff ls.length + (ls.map List.length).sum)

end Sys2Proof.Machine
end

