-- ==== Sys2Proof/Machine/Platen.lean ====
section
/-! DEFINITION. The Platen and Tally (R220 to R225, R250 to R255, R291 to R308): directory entries, shot decoding, Tally's
evaluation and ring, the lead of composition and the release of tiles. -/

namespace Sys2Proof.Machine
open Sys2Proof

/-! ## Shots of a stripe -/

/-- The last shot a stripe covers (R449, R451). -/
def Stripe.lastShot (x : Stripe) (c : Nat) : Nat := (x.lastCycle + 1) * c - 1

/-- The first shot a stripe covers. -/
def Stripe.firstShot (x : Stripe) (c : Nat) : Nat := x.firstCycle * c

/-- The first shot of the next attempt of a stripe (R296, R440). -/
def Stripe.attemptShot (x : Stripe) (c : Nat) : Nat :=
  match x.resume with
  | some n => n / c * c
  | none => x.firstShot c

/-- The low half of a stripe identity: the STRIPE field of tiles, entries and trailers (R417). -/
def Stripe.low (x : Stripe) : Nat := x.id % 2 ^ 32

/-- The place of the checkpoint record or of the Tally ring (R15): as last applied; as written where no value that lies within
the tables and records has been applied since the reset of PD_PLAT, so that a record survives IDLE (R306; DESIGN CHOICE, log
entry 75). -/
def State.stv (s : State) (f : Fld) (n : Nat) : Nat := if s.inTables (s.app f) n then s.app f else s.get f

/-- The place of the checkpoint record (R228). -/
def State.ckptAddr (s : State) : Nat := s.stv F.PLT_CKPT_BASE 131136

/-- The registers that apply at stripe start take effect (R15). -/
def State.stripeStart (s : State) : State :=
  { s with strip := stripeStartFlds.foldl (fun r f => r.set f (s.get f)) s.strip }

/-! ## Values of shots -/

/-- The values of one lane. -/
def laneArr (v : Vals) (l : Nat) : Array Nat := ((List.range leafN).map (fun t => v.get (leafN * l + t) 0)).toArray

/-- The nonzero values of a leaf under the keys of lane l. -/
def laneVals (l : Nat) (a : Array Nat) : Vals :=
  (List.range leafN).filterMap (fun t => if a.getD t 0 = 0 then none else some (leafN * l + t, a.getD t 0))

/-- Hold the values of one lane. -/
def putLane (v : Vals) (l : Nat) (a : Array Nat) : Vals :=
  v.filter (fun p => decide (p.1 / leafN < l)) ++ laneVals l a ++ v.filter (fun p => decide (l < p.1 / leafN))

/-- The packed form of a whole shot, lane after lane (R291). -/
def shotBytes (v : Vals) : List Byte := (List.range 32).flatMap (fun l => packLeaf (laneArr v l))

/-- The values of a packed shot. -/
def shotVals (b : List Byte) : Vals :=
  (List.range 32).flatMap (fun l => laneVals l (unpackLeaf ((b.drop (4096 * l)).take 4096)))

/-- The sum of a shot's values. -/
def valSum (v : Vals) : Nat := (v.map Prod.snd).sum

/-- Beam-wise sum of two maps. -/
def valAdd (w v : Vals) : Vals := v.foldl (fun w p => w.put p.1 (w.get p.1 0 + p.2)) w

/-- Beam-wise difference; beams whose sum is 0 leave the map. -/
def valSub (w v : Vals) : Vals :=
  v.foldl (fun w p => let x := w.get p.1 0 - p.2; if x = 0 then w.erase p.1 else w.put p.1 x) w

/-- The row and column of a beam key (R195, R332). -/
def State.beamOf (s : State) (k : Nat) : Nat × Nat := (s.mapBase (k / leafN) + k % leafN / 512, k % 512)

/-- The usage block of a beam key (R317). -/
def State.blockOf (s : State) (k : Nat) : Nat := let b := s.beamOf k; 8 * (b.1 / 64) + b.2 / 64

/-! ## The Galley directory (R252 to R255) -/

/-- The address of the entry of a publish sequence. -/
def State.dirAddr (s : State) (seq : Nat) : Nat := s.galleyTop + 320 * (seq % 2 ^ s.get F.MEM_PART_DIR_LOG2)

/-- The bytes of a directory entry for a cycle whose tiles lie at the addresses and lengths given. -/
def dirEntry (addr stripe cycle seq : Nat) (tiles : List (Nat × Nat)) : List Byte :=
  let h := leBytes 4 0x52494447 ++ leBytes 2 1 ++ zeros 2 ++ leBytes 4 stripe ++ leBytes 4 cycle ++ leBytes 8 seq ++ zeros 36
  let t := (tiles.map (fun p => leBytes 8 (p.1 / 64 % 2 ^ 29 + p.2 / 64 * 2 ^ 32))).flatten
  h ++ leBytes 4 (crc32c (leBytes 8 addr ++ h ++ t)) ++ t

/-- An entry passes the checks of R255. -/
def dirOk (addr stripe cycle seq : Nat) (e : List Byte) : Bool :=
  leAt e 0 4 == 0x52494447 && leAt e 4 2 == 1 && leAt e 6 2 == 0 && leAt e 8 4 == stripe && leAt e 12 4 == cycle % 2 ^ 32
    && leAt e 16 8 == seq && ((e.drop 24).take 36).all (· == 0)
    && leAt e 60 4 == crc32c (leBytes 8 addr ++ e.take 60 ++ (e.drop 64).take 256)
    && (List.range 32).all (fun l => let w := leAt e (64 + 8 * l) 8; bits w 29 3 == 0 && bits w 52 12 == 0)

/-- The publication of a cycle of a stripe. -/
def State.pubOf (s : State) (stripe cycle : Nat) : Option PubCycle :=
  s.mem.published.find? (fun p => p.stripe == stripe && p.cycle == cycle)

/-- The entry of a published cycle as the Platen reads it: none, raised as GAL_DIR, where it fails (R255, R258). -/
def State.readDir (s : State) (x : Stripe) (p : PubCycle) : Option (List Byte) × State :=
  let a := s.dirAddr p.seq
  match s.rdOr 3 a 320 with
  | (none, s) => (none, s.raise 0x36 0 0)
  | (some e, s) => if dirOk a x.low p.cycle p.seq e then (some e, s) else (none, s.raise 0x36 0 0)

/-! ## Releases (R250) -/

/-- Tiles and publications of the current stripe's cycles below a bound count as released. -/
def State.releaseBelow (s : State) (x : Stripe) (k : Nat) : State :=
  { s with mem := { s.mem with
      tiles := s.mem.tiles.filter (fun t => t.stripe != x.id || decide (k ≤ t.cycle))
      published := s.mem.published.filter (fun p => p.stripe != x.id || decide (k ≤ p.cycle)) } }

/-- The cycles of a stripe that the shot counter has left: all of them once its last shot has fallen due (R250). -/
def State.cyclesDue (s : State) (x : Stripe) : Nat :=
  if x.st = .ended then x.lastCycle + 1
  else
    match s.esc.att with
    | none => 0
    | some a =>
      match a.due with
      | some d => if d.1 = a.last then d.1 / s.cyc + 1 else d.1 / s.cyc
      | none => 0

/-- The Platen releases the cycles it has decoded and whose shots have fallen due. -/
def State.release250 (s : State) (x : Stripe) : State := s.releaseBelow x (min (s.cyclesDue x) (s.plt.nextDec / s.cyc))

/-! ## Decoding (R221 to R225, R292) -/

/-- PLT_QDEC_ERR and the counts of a tile or leaf failure (R223, R238). -/
def State.qdecErr (s : State) (cause lane : Nat) (tile : Bool) (shot : Nat) : State :=
  let s := ((((s.set F.PLT_QDEC_ERR_CAUSE cause).set F.PLT_QDEC_ERR_LANE lane).setB F.PLT_QDEC_ERR_TILE tile).set
    F.PLT_QDEC_ERR_VALID 1).set F.PLT_QDEC_ERR_SHOT shot
  if tile then (s.inc F.PLT_QDEC_TFAIL).raise 0x48 cause shot else (s.inc F.PLT_QDEC_LFAIL).raise 0x49 cause shot

/-- What decoding the lanes of one shot gathers. -/
structure DecAcc where
  s : State
  vals : Vals
  marks : List (Nat × Nat × Nat)
  wholes : List (Nat × Nat)
  bad : List Nat

/-- The tile of a lane has failed, however late it is found: every shot of the cycle that a prefetch buffer holds is lost with it
(R223). -/
def State.tileLost (s : State) (l cycle : Nat) : State :=
  let lost (b : ShotBuf) : ShotBuf :=
    if b.shot / s.cyc = cycle ∧ !b.bad.contains l then { b with bad := b.bad ++ [l] } else b
  { s with plt := { s.plt with tileBad := s.plt.tileBad ++ [l], bufs := s.plt.bufs.map lost } }

/-- The leaf of one lane fails. -/
def DecAcc.fail (a : DecAcc) (l : Nat) (s : State) : DecAcc := { a with s := s, bad := a.bad ++ [l] }

/-- The tile of a lane as the Platen checks it for shot n: a cause, or the tile's bytes and length. -/
def State.openTile (s : State) (x : Stripe) (n l : Nat) (ent : Option (List Byte)) : Except Nat (List Byte) × State :=
  let c := s.cyc
  match ent with
  | none => (.error 1, s)
  | some e =>
    let w := leAt e (64 + 8 * l) 8
    let addr := bits w 0 29 * 64
    let len := bits w 32 20 * 64
    if len < upTo 64 (64 + 4 * c) then (.error 3, s)
    else
      match s.rdOr 3 addr (firstOff c) with
      | (none, s) => (.error 2, s)
      | (some _, s) =>
        let b := s.rd addr len
        match tileCheck ⟨x.low, n / c, l, c, addr, len⟩ b with
        | some k => (.error k, s)
        | none =>
          let o := (tileOffs b c).getD (n % c) 0
          let e := (tileOffs b c).getD (n % c + 1) len
          match s.rdOr 3 (addr + o) (e - o) with
          | (none, s) => (.error 2, s)
          | (some _, s) => (.ok b, s)

/-- Decode the leaf of lane l of shot n. -/
def DecAcc.lane (x : Stripe) (n : Nat) (ent : Option (List Byte)) (a : DecAcc) (l : Nat) : DecAcc :=
  let s := a.s
  let c := s.cyc
  if s.plt.tileBad.contains l then a.fail l s
  else
    match s.openTile x n l ent with
    | (.error k, s) =>
      a.fail l ((s.tileLost l (n / c)).qdecErr k l true (n / c * c))
    | (.ok b, s) =>
      let offs := tileOffs b c
      let len := leAt b 20 4
      let prev := if n = x.firstShot c ∨ s.plt.histBad.contains l then none else some (laneArr s.plt.hist l)
      match decodeLeaf ⟨n, x.low, l, leAt b 5 1 % 2 == 1⟩ (leafBytes b offs len (n % c)) (n % c + 1 == c) prev
          (n != x.firstShot c && s.plt.histBad.contains l) with
      | .error k => a.fail l (s.qdecErr k l false n)
      | .ok f =>
        { s := { s with plt := { s.plt with hist := putLane s.plt.hist l f.vals
                                            histBad := s.plt.histBad.filter (· != l) } }
          vals := a.vals ++ laneVals l f.vals
          marks := a.marks ++ f.marks.map (fun m => (leafN * l + m.t, m.cause, m.value))
          wholes := a.wholes ++ [(l, f.whole)]
          bad := a.bad }

/-- Every valid leaf of a shot carries the same WHOLE, else the first that differs fails as BAD_MARK (R224). -/
def DecAcc.sameWhole (a : DecAcc) (n : Nat) : DecAcc :=
  match a.wholes with
  | [] => a
  | (_, w) :: r =>
    match r.find? (fun p => p.2 != w) with
    | none => a
    | some p => { (a.fail p.1 (a.s.qdecErr 13 p.1 false n)) with wholes := a.wholes.filter (fun q => q.1 != p.1) }

/-- Blocks of a shot buffer: 128 KiB. -/
def bufBlocks : Nat := 2048

/-- The checkpoint buffer (log entry 105). -/
def ckptSlot : Nat := 11

/-- The buffer a decoded shot takes: the lowest free one (DESIGN CHOICE, log entry 105). -/
def State.freeBuf (s : State) : Nat :=
  let used := s.plt.bufs.map (fun b => b.slot) ++ s.plt.draining.toList.map (fun b => b.slot)
  ((List.range ckptSlot).find? (fun k => !used.contains k)).getD 0

/-- Decode and check shot n of a stripe into a buffer.  Failures of one shot are recorded in ascending order of their lanes, so
that PLT_QDEC_ERR keeps that of the highest (DESIGN CHOICE, log entry 71). -/
def State.decodeShot (s : State) (x : Stripe) (n : Nat) (p : PubCycle) : ShotBuf × State :=
  let s := if n % s.cyc = 0 then { s with plt := { s.plt with tileBad := [] } } else s
  let (ent, s) := if s.plt.tileBad.length = 32 then (none, s) else s.readDir x p
  let a := ((List.range 32).foldl (DecAcc.lane x n ent) ⟨s, [], [], [], []⟩).sameWhole n
  let s := { a.s with plt := { a.s.plt with histBad := a.bad, nextDec := n + 1 } }
  (⟨n, s.freeBuf, a.vals, a.marks, (a.wholes.find? (fun q => q.2 != 0)).map Prod.snd, a.bad, none⟩, s)

/-- D (R292, R326). -/
def State.depth (s : State) : Nat := clampN (s.app F.PLT_CTL_DEPTH) 6 9

/-- Decoded shots beyond the on-air shot (R326). -/
def State.ahead (s : State) : Nat :=
  (s.plt.bufs.filter (fun b => match s.plt.onAir with
    | some n => decide (n < b.shot)
    | none => true)).length

/-- PLT_STAT follows the stripe and the buffers. -/
def State.showPlt (s : State) : State :=
  let run : Bool := match s.cur with
    | some x => x.st == .running
    | none => false
  if s.domUp .plat then (s.setB F.PLT_STAT_RUN run).set F.PLT_STAT_AHEAD s.ahead else s

/-- The Platen serves a stripe from its first shot, with no leaf before it. -/
def State.serve (s : State) (x : Stripe) : State :=
  let n := x.firstShot s.cyc
  { s with plt := { Platen.fresh with serving := some x.id, nextDec := n, nextTally := n } }

/-- The current stripe as the Platen may decode it. -/
def State.served (s : State) : Option (Stripe × State) :=
  match s.cur with
  | none => none
  | some x =>
    if s.plt.serving = some x.id then some (x, s)
    else if x.st = .opened then some (x, s.serve x)
    else none

/-! ## The shot buffers in SRAM array 2 (R268, R272 to R275, R291) -/

/-- The leaves of the lanes given are written into a buffer: lane l at byte 4096·l (R291). -/
def State.bufWrite (s : State) (slot : Nat) (lanes : List Nat) : State :=
  lanes.foldl (fun s l => s.sramFill 2 (bufBlocks * slot + 64 * l) 64) s

/-- The lane whose leaf a block of array 2 holds (R291). -/
def blockLane (blk : Nat) : Nat := blk % bufBlocks / 64

/-- The value with one bit of its nibble flipped by a data upset of a block of its buffer (R196, R291). -/
def flipVal (v : Vals) (blk : Nat) : Upset → Vals
  | .data w b =>
    let o := 64 * (blk % bufBlocks) + 8 * w.val + b.val / 8
    let k := leafN * (o / 4096) + 2 * (o % 4096) + b.val % 8 / 4
    let x := v.get k 0 ^^^ 2 ^ (b.val % 4)
    if x = 0 then v.erase k else v.put k x
  | .row _ _ => v
  | .col _ => v

/-- The Platen reads every word of one block of a buffer: the lane is lost where one reads uncorrectable; what no check has
found stays in the values (R272, R274). -/
def State.readBlock (a : List Nat × Vals × State) (blk : Nat) : List Nat × Vals × State :=
  let r := (List.range 8).foldl (fun (p : Bool × State) w =>
    let q := p.2.sramRead 2 (64 * blk + 8 * w)
    (p.1 || q.1, q.2)) (false, a.2.2)
  let l := blockLane blk
  (if r.1 && !a.1.contains l then a.1 ++ [l] else a.1, (r.2.upsetsOf 2 blk).foldl (fun v u => flipVal v blk u) a.2.1, r.2)

/-- The Platen reads a buffer that holds the values v: the lanes with an uncorrectable word and the values read.  Only
blocks with upsets can differ from what was written. -/
def State.readBuf (s : State) (slot : Nat) (v : Vals) : List Nat × Vals × State :=
  (((s.arr 2).upsets.map Prod.fst).filter (fun b => b / bufBlocks == slot)).foldl State.readBlock ([], v, s)

/-- A lane of the leaf that a buffer holds is lost to an uncorrectable read (R275). -/
def State.bufLost (s : State) (addr : Nat) : State :=
  let slot := addr / 64 / bufBlocks
  let l := blockLane (addr / 64)
  let add (k : List Nat) : List Nat := if k.contains l then k else k ++ [l]
  { s with plt := { s.plt with bufs := s.plt.bufs.map (fun b => if b.slot = slot then { b with bad := add b.bad } else b)
                               ckpt := s.plt.ckpt.map (fun c => if slot = ckptSlot then (c.1, c.2.1, add c.2.2) else c) } }

/-- The array address of an access. -/
def accAddr : SramAcc → Nat
  | .write addr _ => addr
  | .read addr => addr
  | .flip blk _ => 64 * blk

/-- An access of the Platen's array; an uncorrectable read loses its lane (R275). -/
def State.platenAcc (s : State) (c : SramAcc) : State :=
  match s.sramAcc 2 (sramSize 2) c with
  | (true, s) => s.bufLost (accAddr c)
  | (false, s) => s

/-- SHOT_DECODE_DONE (R292): the next shot of the stripe is decoded into a prefetch buffer; accs are what has happened to the
words of array 2 since the last command that reads it. -/
def execShotDecodeDone (t : Nat) (accs : List SramAcc) (s : State) : Host.Outcome State Fault Refusal :=
  let s := s.at t
  .next (if !s.domUp .plat || !s.memUp then s
    else
      match s.served with
      | none => s
      | some (x, s) =>
        let n := s.plt.nextDec
        match s.pubOf x.id (n / s.cyc) with
        | none => s
        | some p =>
          if x.lastShot s.cyc < n ∨ s.depth ≤ s.ahead then s
          else
            let d := s.decodeShot x n p
            let (b, s) := (d.1, d.2.bufWrite d.1.slot ((List.range 32).filter (fun l => !d.1.bad.contains l)))
            let late : Bool := match s.plt.onAir with
              | some m => decide (n ≤ m)
              | none => false
            let s := if late then
                if (n + 1) % s.cyc = 0 then { s with plt := { s.plt with ckpt := some (n, b.vals, b.bad) } } else s
              else { s with plt := { s.plt with bufs := s.plt.bufs ++ [b] } }
            ((accs.foldl State.platenAcc s).release250 x).showPlt)

/-! ## The Tally ring (R301 to R306) -/

/-- The address of the slot of a shot. -/
def State.tallySlot (s : State) (n : Nat) : Nat := s.stv F.PLT_TALLY_RING (1024 * 131136) + 131136 * (n % 1024)

/-- A trailer (R301): bit 0 ZERO and bit 1 BYPASS of its flags. -/
def tallyTrailer (addr stripe n total flags : Nat) (body : List Byte) : List Byte :=
  let h := leBytes 4 0x594C4154 ++ leBytes 2 1 ++ leBytes 2 flags ++ leBytes 4 stripe ++ zeros 4 ++ leBytes 8 n
    ++ leBytes 4 total ++ zeros 32
  h ++ leBytes 4 (crc32c (leBytes 8 addr ++ h ++ body))

/-- Tally writes the slot of a shot with its emitted values (R302). -/
def State.tallyWrite (s : State) (x : Stripe) (n : Nat) (e : Vals) : State :=
  let a := s.tallySlot n
  let flags := b2n e.isEmpty + 2 * b2n s.tallyBypass
  let body := if flags = 0 then shotBytes e else []
  let s := if flags = 0 then s.wr 3 a body else s
  s.wr 3 (a + 131072) (tallyTrailer (a + 131072) x.low n (valSum e) flags body)

/-- The values and total of the slot of shot m, none where a check fails (R304). -/
def State.tallyRead (s : State) (x : Stripe) (m : Nat) : Option (Vals × Nat) × State :=
  let a := s.tallySlot m
  match s.rdOr 3 (a + 131072) 64 with
  | (none, s) => (none, s)
  | (some h, s) =>
    let flags := leAt h 6 2
    let (body, s) := if flags = 0 then s.rdOr 3 a 131072 else (some [], s)
    match body with
    | none => (none, s)
    | some b =>
      if leAt h 0 4 == 0x594C4154 && leAt h 4 2 == 1 && decide (flags < 4) && (decide (flags < 2) || s.tallyBypass)
          && leAt h 8 4 == x.low && leAt h 12 4 == 0 && leAt h 16 8 == m && ((h.drop 28).take 32).all (· == 0)
          && leAt h 60 4 == crc32c (leBytes 8 (a + 131072) ++ h.take 60 ++ b)
      then (some (if s.tallyBypass then [] else shotVals b, leAt h 24 4), s)
      else (none, s)

/-- TALLY_STATE is raised (R304 to R306). -/
def State.tallyState (s : State) : State := (s.set F.PLT_TALLY_STAT_STATE 1).raise 0x42 0 0

/-- The shot that leaves the window of shot n leaves the sums (R304); false where its slot fails. -/
def State.tallyLeave (s : State) (x : Stripe) (n : Nat) : Bool × State :=
  if x.firstShot s.cyc + 1024 ≤ n then
    match s.tallyRead x (n - 1024) with
    | (none, s) => (false, s.tallyState)
    | (some (v, tot), s) =>
      (true, { s with plt := { s.plt with wsum := valSub s.plt.wsum v, hsum := s.plt.hsum - tot } })
  else (true, s)

/-- The slots that fell to be read while the controller accepted no request are read now (R263, R304); false where one
fails. -/
def State.tallyOwed (s : State) (x : Stripe) : Bool × State :=
  s.plt.owed.foldl (fun (a : Bool × State) m => if a.1 then a.2.tallyLeave x m else a)
    (true, { s with plt := { s.plt with owed := [] } })

/-- Tally's evaluation of shot n reads a slot of its ring (R304). -/
def State.tallyReads (s : State) (x : Stripe) (n : Nat) : Bool :=
  !s.plt.owed.isEmpty || decide (x.firstShot s.cyc + 1024 ≤ n)

/-- Rebuild the sums from the slots of the 1,024 shots before shot n (R306). -/
def State.tallyRebuild (s : State) (x : Stripe) (n : Nat) : Bool × State :=
  let lo := max (x.firstShot s.cyc) (n - 1024)
  let s := { s with plt := { s.plt with wsum := [], hsum := 0 } }
  (List.range (n - lo)).foldl (fun (a : Bool × State) i =>
    if !a.1 then a
    else
      match a.2.tallyRead x (lo + i) with
      | (none, s) => (false, s.tallyState)
      | (some (v, tot), s) =>
        (true, { s with plt := { s.plt with wsum := valAdd s.plt.wsum v, hsum := s.plt.hsum + tot } })) (true, s)

/-- Tally's evaluation of a decoded shot (R175, R298): beams to zero, with cause and value, and a whole-shot cause. -/
def State.tallyEval (s : State) (b : ShotBuf) : List (Nat × Nat × Nat × Bool) × Option (Nat × Bool) :=
  let zero := b.vals.filterMap (fun p =>
    if s.limMaxValue < p.2 then some (p.1, 1, p.2, true)
    else if s.limBeamDuty < s.plt.wsum.get p.1 0 + p.2 ∧ !s.tallyBypass then some (p.1, 2, p.2, true)
    else none)
  let t := valSum b.vals - (zero.map (fun z => z.2.2.1)).sum
  (zero, if s.limHeadShot < t then some (3, true)
         else if 0 < t ∧ s.limHeadWindow < s.plt.hsum + t then some (4, true) else none)

/-- Each zeroing by Tally that the preview did not mark is counted and raised (R300). -/
def State.tallyGuard (s : State) (n k : Nat) : State :=
  (List.range k).foldl (fun s _ => ((s.inc F.PLT_TALLY_GUARD).set F.PLT_TALLY_STAT_GUARD 1).raise 0x41 0 n) s

/-- Hold the result of an evaluation in the shot's buffer. -/
def State.tallyDone (s : State) (b : ShotBuf) : State :=
  let r := s.tallyEval b
  let s := s.tallyGuard b.shot (r.1.length + b2n r.2.isSome)
  let t := if r.2.isSome then 0 else valSum b.vals - (r.1.map (fun z => z.2.2.1)).sum
  let s := s.set F.PLT_TALLY_HSUM (s.plt.hsum + t)
  { s with plt := { s.plt with nextTally := b.shot + 1
                               bufs := s.plt.bufs.map (fun x => if x.shot = b.shot then { x with tally := some r } else x) } }

/-- The shot before n has fixed its emitted values, or n is the first shot Tally evaluates (R298). -/
def State.tallyMay (s : State) (x : Stripe) (n : Nat) : Bool :=
  let c := s.cyc
  let na := x.attemptShot c
  let first := match x.resume with
    | some m => max m na
    | none => na
  if n = first ∧ n = na then true
  else match s.esc.att with
    | some a => match a.due with
      | some d => decide (n ≤ d.1 + 1)
      | none => false
    | none => false

/-- TALLY_EVAL_DONE (R298, R300, R304, R305): mismatch says that the two copies of a sum differ. -/
def execTallyEvalDone (t : Nat) (mismatch : Bool) (s : State) : Host.Outcome State Fault Refusal :=
  let s := s.at t
  .next (if !s.domUp .plat then s
    else if mismatch then (s.tallyState).stopArmed 11
    else
      match s.cur with
      | none => s
      | some x =>
        let n := s.plt.nextTally
        match s.plt.bufs.find? (fun b => b.shot == n) with
        | none => s
        | some b =>
          if (s.memUp ∨ !s.tallyReads x n) ∧ s.plt.serving = some x.id ∧ s.tallyMay x n then
            match s.tallyOwed x with
            | (false, s) => s.stopAt 11 n
            | (true, s) =>
              match s.tallyLeave x n with
              | (true, s) => s.tallyDone b
              | (false, s) => s.stopAt 11 n
          else s)

end Sys2Proof.Machine
end

