-- ==== Sys2Proof/Machine/Governor.lean ====
section
/-! DEFINITION. The Governor (R393 to R409): motion segments and set-points, the deflection law of each mode, the tick of the
deflection loops. -/

namespace Sys2Proof.Machine
open Sys2Proof

/-! ## Profiles (R394, R395) -/

/-- The least n in [lo, lo + 2^k] at which a monotone test holds. -/
def bisect (p : Nat → Bool) : Nat → Nat → Nat
  | 0, lo => lo
  | k + 1, lo => if p (lo + 2 ^ k - 1) then bisect p k lo else bisect p k (lo + 2 ^ k)

/-- Phases of a profile for a distance of d pu (none: as long as V needs) under V in µm/s, A in mm/s², J in m/s³ and a
period of p ns: each the shortest whole number of ticks for which the limits hold (R395). -/
def phases (d : Option Nat) (v a j p : Nat) : Nat × Nat × Nat :=
  let n1 := bisect (fun n => n != 0 && (decide (a * 10 ^ 6 ≤ j * p * n) || decide (v * 10 ^ 12 ≤ j * p * p * n * n)
    || (match d with | some d => decide (d * 10 ^ 18 ≤ 256 * j * p ^ 3 * n ^ 3) | none => false))) 56 0
  let am := min (a * 10 ^ 6) (j * p * n1)
  let n2 := bisect (fun n => decide (v * 10 ^ 12 ≤ am * p * (n1 + n))
    || (match d with | some d => decide (d * 10 ^ 18 ≤ 128 * p * p * am * (n1 + n) * (2 * n1 + n)) | none => false)) 56 0
  let vm := min (v * 10 ^ 12) (am * p * (n1 + n2))
  let n3 := match d with
    | some d => bisect (fun n => decide (d * 10 ^ 18 ≤ 128 * p * vm * (2 * n1 + n2 + n))) 56 0
    | none => 0
  (n1, n2, n3)

/-- The profile of an axis that stands at p0. -/
def SCurve.still (p0 : Int) : SCurve := ⟨p0, 0, 0, 0, 0⟩

/-- The profile of a segment without velocity that is not at its end: it stands and never ends. -/
def SCurve.stuck (p0 : Int) : SCurve := ⟨p0, 0, 0, 0, 1⟩

/-- The profile of a MOVE from p0 to a target; without velocity it stands for ever. -/
def moveCurve (p0 target : Int) (v a j p : Nat) : SCurve :=
  if p0 = target then .still p0
  else if v = 0 then .stuck p0
  else
    let n := phases (some (target - p0).natAbs) v a j p
    ⟨p0, (target - p0) * 10 ^ 6, n.1, n.2.1, n.2.2⟩

/-- The profile of a RUN (R393): up to V, held until the set-point reaches X_END, then down. -/
def runCurve (p0 xend : Int) (v a j p : Nat) : SCurve :=
  if v = 0 then .stuck p0
  else
    let n := phases none v a j p
    let d := (xend - p0).natAbs
    let n3 := bisect (fun k => decide (d * 10 ^ 6 * 2 ≤ v * p * 128 * (2 * n.1 + n.2.1 + 2 * k))) 56 0
    ⟨p0, (if p0 ≤ xend then 1 else -1) * (v * p * 128 * (2 * n.1 + n.2.1 + n3) : Nat), n.1, n.2.1, n3⟩

/-- The ticks of a profile. -/
def SCurve.total (c : SCurve) : Nat := 4 * c.n1 + 2 * c.n2 + c.n3

/-- The profile has ended at tick i. -/
def SCurve.ends (c : SCurve) (i : Nat) : Bool := decide (c.total ≤ i ∧ (c.n3 = 0 ∨ c.dist ≠ 0))

/-- The sum over the changes of jerk before tick i of their sign times a power of the ticks since. -/
def SCurve.sum (c : SCurve) (i e : Nat) : Int :=
  let f (s : Nat) : Int := if s < i then ((i - s) ^ e : Nat) else 0
  f 0 - f c.n1 - f (c.n1 + c.n2) + f (2 * c.n1 + c.n2) - f (2 * c.n1 + c.n2 + c.n3) + f (3 * c.n1 + c.n2 + c.n3)
    + f (3 * c.n1 + 2 * c.n2 + c.n3) - f (4 * c.n1 + 2 * c.n2 + c.n3)

/-- The set-point of a profile at tick i of a period p ns, in the units of the set-point word (R395, R397). -/
def SCurve.at_ (c : SCurve) (i p : Nat) : SetPt :=
  let k := c.n1 * (c.n1 + c.n2) * (2 * c.n1 + c.n2 + c.n3)
  if k = 0 then ⟨c.p0, 0, 0⟩
  else if c.total ≤ i then ⟨c.p0 + rhu c.dist (10 ^ 6), 0, 0⟩
  else ⟨c.p0 + rhu (c.dist * c.sum i 3) (6 * k * 10 ^ 6), rhu (c.dist * c.sum i 2 * 65536) (2 * k * p * 1000),
        rhu (c.dist * c.sum i 1 * 65536) (k * p * p)⟩

/-! ## Segments (R393 to R396) -/

/-- GOV_SEG_STAT follows the queue. -/
def State.showSeg (s : State) : State :=
  (s.set F.GOV_SEG_STAT_QUEUED s.gov.queue.length).setB F.GOV_SEG_STAT_RUNNING s.gov.run.isSome

/-- A segment starts (R394). -/
def State.segStart (s : State) (g : Seg) : State :=
  let own := min g.vel (s.get F.GOV_PRF_VEL * 1000)
  let v := min own (s.limVelCeil * 1000)
  let a := s.get F.GOV_PRF_ACC
  let j := s.get F.GOV_PRF_JERK
  let p := s.get F.GOV_SP_CTL_PERIOD
  let cx := if g.run then runCurve s.gov.sx.pos g.x v a j p else moveCurve s.gov.sx.pos g.x v a j p
  let cy := if g.run then SCurve.still s.gov.sy.pos else moveCurve s.gov.sy.pos g.y v a j p
  let s := { s with gov := { s.gov with run := some ⟨g, cx, cy, 0, a, j, p⟩ } }
  let s := s.setB F.GOV_STAT_VCLAMP (v != own)
  if v != own then s.raise 0x56 0 0 else s

/-- The next queued segment starts, if there is one. -/
def State.segNext (s : State) : State :=
  match s.gov.queue with
  | [] => s
  | g :: r => { s with gov := { s.gov with queue := r } }.segStart g

/-- The profile of the running segment at its next tick; at its end vector 17 is set and the next one starts. -/
def State.segTick (s : State) : State :=
  match s.gov.run with
  | none => s.segNext
  | some r =>
    let i := r.tick + 1
    let s := { s with gov := { s.gov with run := some { r with tick := i }, sx := r.cx.at_ i r.period,
                                          sy := r.cy.at_ i r.period } }
    if r.cx.ends i && r.cy.ends i then
      (({ s with gov := { s.gov with run := none } }).set F.GOV_STAT_VCLAMP 0 |>.irq 17).segNext
    else s

/-- A set-point at rest. -/
def SetPt.rests (q : SetPt) : Bool := q.vel == 0 && q.acc == 0

/-- A in units of an acceleration set-point times 10^6, and the change of acceleration that J allows in one tick of p ns,
times 10^12. -/
def accUnit (a : Nat) : Nat := a * 8388608
/-- J over one tick, times 10^12. -/
def jerkUnit (j p : Nat) : Nat := j * p * 8388608

/-- 2000 times the velocity that is left once the acceleration of a set-point has gone to 0 in n1 ticks of p ns. -/
def SetPt.coast (q : SetPt) (n1 p : Nat) : Int := 2000 * q.vel + q.acc * (n1 * p : Nat)

/-- The stop of an axis (R396) under A, J and a period: the acceleration goes to 0, then the velocity, in phases of whole ticks
as in R395, each at least the shortest for which A and J hold.  How much longer the last ones are is free: e2 and e3. -/
def stopCurve (q : SetPt) (a j p e2 e3 : Nat) : StopCurve :=
  let n1 := bisect (fun n => decide (q.acc.natAbs * 10 ^ 12 ≤ jerkUnit j p * n)) 40 0
  let w := (q.coast n1 p).natAbs
  if w = 0 then ⟨q, n1, 0, 0⟩
  else
    let n2 := bisect (fun n => n != 0 && (decide (accUnit a * 10 ^ 6 ≤ jerkUnit j p * n)
      || decide (w * 10 ^ 12 ≤ 2 * jerkUnit j p * p * n * n))) 40 0
    let am := min (accUnit a * 10 ^ 6) (jerkUnit j p * n2)
    let n3 := bisect (fun n => decide (w * 10 ^ 12 ≤ 2 * am * p * (n2 + n))) 40 0
    ⟨q, n1, n2 + e2, n3 + e3⟩

/-- The ticks of a stop. -/
def StopCurve.total (c : StopCurve) : Nat := c.n1 + 2 * c.n2 + c.n3

/-- The sum over the changes of jerk of the last phases before tick i of their sign times a power of the ticks since. -/
def StopCurve.sum (c : StopCurve) (i e : Nat) : Int :=
  let f (s : Nat) : Int := if s < i then ((i - s) ^ e : Nat) else 0
  f 0 - f c.n2 - f (c.n2 + c.n3) + f (2 * c.n2 + c.n3)

/-- 3·10^6 times the distance covered in the first i ticks of the phase that takes the acceleration to 0, i at most n1. -/
def StopCurve.away (c : StopCurve) (i p : Nat) : Int :=
  if c.n1 = 0 then 0
  else floorDiv (6000 * c.q.vel * (i * p * c.n1 : Nat) + c.q.acc * ((3 * c.n1 * i ^ 2 - i ^ 3) * p ^ 2 : Nat)) (2 * c.n1)

/-- The set-point of a stop at tick i of a period p ns, its velocity within a ceiling (R37, R396); at rest from its last tick
on. -/
def StopCurve.at_ (c : StopCurve) (i p : Nat) (ceil : Int) : SetPt :=
  if i < c.n1 then
    ⟨c.q.pos + rhu (c.away i p) (3 * 10 ^ 6 * 65536),
     clampI (c.q.vel + rhu (c.q.acc * ((2 * c.n1 * i - i ^ 2) * p : Nat)) (2000 * c.n1)) (-ceil) ceil,
     rhu (c.q.acc * (c.n1 - i : Nat)) c.n1⟩
  else
    let w := c.q.coast c.n1 p
    let d := c.n2 * (c.n2 + c.n3)
    if d = 0 then ⟨c.q.pos + rhu (c.away c.n1 p) (3 * 10 ^ 6 * 65536), 0, 0⟩
    else
      let k := min (i - c.n1) (2 * c.n2 + c.n3)
      let pos := c.q.pos + rhu (4 * d * c.away c.n1 p + w * p * ((6 * d * k : Nat) - c.sum k 3)) (12 * 10 ^ 6 * d * 65536)
      if c.total ≤ i then ⟨pos, 0, 0⟩
      else ⟨pos, clampI (rhu (w * ((2 * d : Nat) - c.sum k 2)) (4000 * d)) (-ceil) ceil, rhu (-(w * c.sum k 1)) (2 * p * d)⟩

/-- LIM_VEL_CEIL in the unit of a velocity set-point, rounded down (R37, R397). -/
def State.velCeil (s : State) : Int := (s.limVelCeil * 128 * 65536 : Nat)

/-- One tick of the stop of R396. -/
def State.stopTick (s : State) (r : StopRun) : State :=
  let i := r.tick + 1
  let x := r.cx.at_ i r.period s.velCeil
  let y := r.cy.at_ i r.period s.velCeil
  let ended := decide (max r.cx.total r.cy.total ≤ i)
  let s := { s with gov := { s.gov with sx := x, sy := y, stop := if ended then none else some { r with tick := i } } }
  if ended then s.set F.GOV_STAT_STOPPING 0 else s

/-- The queue is discarded and the set-points are brought to rest (R381, R396). -/
def State.segAbort (s : State) : State :=
  let s := { s with gov := { s.gov with queue := [] } }
  let s := match s.gov.run with
    | none => s
    | some r =>
      let s := ({ s with gov := { s.gov with run := none } }).set F.GOV_STAT_VCLAMP 0
      if s.gov.sx.rests && s.gov.sy.rests then s
      else
        let (e1, s) := s.fresh
        let (e2, s) := s.fresh
        let (e3, s) := s.fresh
        let (e4, s) := s.fresh
        ({ s with gov := { s.gov with stop := some ⟨stopCurve s.gov.sx r.acc r.jerk r.period e1 e2,
                                                     stopCurve s.gov.sy r.acc r.jerk r.period e3 e4, 0, r.period⟩ } }).set
          F.GOV_STAT_STOPPING 1
  s.showSeg

/-! ## Set-point words (R375, R397) -/

/-- CRC-16 of R375 continued over a string. -/
def crc16 (c : Nat) (l : List Byte) : Nat :=
  l.foldl (fun c b => (List.range 8).foldl (fun c _ =>
    if bitOf c 15 then (c * 2 % 65536) ^^^ 0x1021 else c * 2 % 65536) (c ^^^ (b.toNat * 256))) c

/-- A set-point word. -/
def setpWord (seq kind axis : Nat) (last : Bool) (st : Nat) (v : Int) (tick link : Nat) : Nat :=
  let w := seq % 256 + kind * 2 ^ 8 + axis * 2 ^ 10 + b2n last * 2 ^ 11 + st * 2 ^ 12 + tc 48 v * 2 ^ 16 + tick % 65536 * 2 ^ 64
  w + crc16 0xFFFF (leBytes 1 seq ++ leBytes 1 link ++ leBytes 10 w) * 2 ^ 80

/-- The six words of a set-point tick. -/
def State.setpWords (s : State) : State :=
  if !s.flag F.GOV_SP_CTL_EN then s
  else
    let g := s.gov
    let st := if g.stop.isSome then 2 else if g.run.isSome then 1 else 0
    let vs := [(0, 0, g.sx.pos), (1, 0, g.sx.vel), (2, 0, g.sx.acc), (0, 1, g.sy.pos), (1, 1, g.sy.vel), (2, 1, g.sy.acc)]
    vs.foldl (fun s v =>
      let w := setpWord s.gov.spSeq v.1 v.2.1 (v.1 == 2 && v.2.1 == 1) st v.2.2 s.gov.spTick (s.get F.GOV_SP_CTL_LINK_ID)
      ({ s with gov := { s.gov with spSeq := (s.gov.spSeq + 1) % 256, spSent := some s.gov.spSeq } }).emit (.setp w)) s

/-- The period of the set-point ticks in ns: that of the segment under way, whatever is written meanwhile (R395). -/
def State.spPeriod (s : State) : Nat :=
  match s.gov.run, s.gov.stop with
  | some r, _ => r.period
  | none, some r => r.period
  | none, none => s.get F.GOV_SP_CTL_PERIOD

/-- SETPOINT_TICK (R395, R397). -/
def execSetpointTick (t : Nat) (s : State) : Host.Outcome State Fault Refusal :=
  let s := s.at t
  .next (if s.domUp .motion && s.beatDue .setpoint (ns s.spPeriod) then
      let s := s.beat .setpoint
      let s := match s.gov.stop with
        | some l => s.stopTick l
        | none => s.segTick
      let s := (s.showSeg).setpWords
      { s with gov := { s.gov with spTick := s.gov.spTick + 1
                                   spHist := ((s.clk.now, s.gov.sx, s.gov.sy) :: s.gov.spHist).take 16 } }
    else s)

/-- The commanded set-point of an axis at an instant (R395): of the last set-point tick at or before it. -/
def State.setAt (s : State) (y : Bool) (t : Int) : SetPt :=
  match s.gov.spHist.find? (fun h => decide ((h.1 : Int) ≤ t)) with
  | some h => if y then h.2.2 else h.2.1
  | none => ⟨0, 0, 0⟩

/-- A write of 1 to GOV_SEG_PUSH.PUSH (R393, R415). -/
def State.segPush (s : State) : State :=
  if 4 ≤ s.gov.queue.length then s.set F.GOV_SEG_STAT_REFUSED 1
  else
    let g : Seg := ⟨s.get F.GOV_SEG_KIND == 1, s.getS F.GOV_SEG_X, s.getS F.GOV_SEG_Y, s.get F.GOV_SEG_VEL⟩
    (({ s with gov := { s.gov with queue := s.gov.queue ++ [g] } }).set F.GOV_SEG_STAT_REFUSED 0).showSeg

/-- PUSH. -/
def execPush (m : Fin 9) (s : State) : Host.Outcome State Fault Refusal :=
  .next (s.regOp m F.GOV_SEG_PUSH_PUSH.off State.segPush)

/-- A write of 1 to GOV_SEG_PUSH.FLUSH (R415). -/
def State.segFlush (s : State) : State := ({ s with gov := { s.gov with queue := [] } }).showSeg

/-- FLUSH. -/
def execFlush (m : Fin 9) (s : State) : Host.Outcome State Fault Refusal :=
  .next (s.regOp m F.GOV_SEG_PUSH_PUSH.off State.segFlush)

/-- SEG_ABORT (R396). -/
def execSegAbort (m : Fin 9) (s : State) : Host.Outcome State Fault Refusal :=
  .next (s.regOp m F.GOV_SEG_PUSH_PUSH.off State.segAbort)

/-- A write of GOV_MODE (R407): TRACK is ignored; 3 acts as PARK; a REQ that takes effect at once replaces a pending one. -/
def State.modeReq (s : State) (req after : Nat) : State :=
  let s := (s.set F.GOV_MODE_REQ req).set F.GOV_MODE_AFTER after
  if req = 2 then s
  else
    let m := if req = 1 then 1 else 0
    if s.armedOrRunning || s.armWaiting then
      ({ s with gov := { s.gov with pend := some m } }).set F.GOV_STAT_REQ_PEND 1
    else s.noPend.govMode m

/-- MODE_REQ (R407). -/
def execModeReq (m : Fin 9) (req after : Nat) (s : State) : Host.Outcome State Fault Refusal :=
  .next (s.regOp m F.GOV_MODE_REQ.off (fun s => s.modeReq (req % 4) (after % 4)))

/-! ## The estimate and the deflection law (R384, R399, R406) -/

/-- One pu in the units of deflections. -/
def puU : Int := 2 ^ 32 * 390625

/-- The estimate of a loop at a time in quarters of 50 ps, in 2^-16 pu (R384). -/
def Loop.at_ (l : Loop) (t4 : Int) : Int := l.xh + rhu (l.vh * (t4 - 4 * l.tl)) 262144

/-- Ŝ of R399 in deflection units: the estimate, the velocity over the latency and half the acceleration over its square. -/
def Loop.look (l : Loop) (t4 : Int) (lat : Nat) (acc : Int) : Int :=
  l.at_ t4 * 65536 * 390625 + l.vh * 50 * lat * 390625 + acc * lat * lat * 80000

/-- A port has role Y (R372). -/
def State.hasY (s : State) : Bool := (List.range 3).any (fun n => s.get (F.ESC_POS_CTL_ROLE n) == 2)

/-- Ŝ of an axis at a time; for Y without a port, Y_s of the current stripe, or of the last one (R76, R372). -/
def State.sHat (s : State) (y : Bool) (t4 : Int) : Int :=
  let lat := s.app F.GOV_DEF_LAT
  let acc := (s.setAt y (t4 * 66 / 4)).acc
  if y then
    if s.hasY then s.esc.ly.look t4 lat acc else ((s.cur.map Stripe.ys).getD (s.getS F.ESC_CUR_YS)) * puU
  else s.esc.lx.look t4 lat acc

/-- The law w of TRACK for an axis and a deflection shot (R399). -/
def State.wTrack (s : State) (x : Stripe) (y : Bool) (shot : Nat) (t4 : Int) : Int :=
  let g := s.scan
  let c := s.cyc
  let uv := g.sub (shot % c)
  if y then (uv.2 * g.p : Nat) * puU - (s.sHat true t4 - x.ys * puU)
  else
    let k := shot / c
    let mid2 : Int := 2 * x.x0 + dirOf x.dir * ((2 * k * c + c - 1) * g.q : Nat)
    dirOf x.dir * (uv.1 * g.p : Nat) * puU - (s.sHat false t4 - mid2 * (puU / 2))

/-- The end of slice 15 of a shot, in quarters of 50 ps. -/
def slices15 (tn : Int) : Int := 4 * tn + 46875

/-- The deflection shot at a time (R399): the oldest placed shot whose slices are not over, else the next one to place. -/
def Attempt.deflShot (a : Attempt) (t4 : Int) : Nat :=
  match (a.recent ++ a.fixed).find? (fun f => decide (t4 < slices15 f.tn)) with
  | some f => f.shot
  | none => min a.next a.last

/-- The law w of the mode in force for an axis at a time. -/
def State.wLaw (s : State) (ax : Axis) (y : Bool) (t4 : Int) : Int :=
  match s.get F.GOV_STAT_MODE with
  | 2 =>
    match s.cur, s.esc.att with
    | some x, some a =>
      if a.tPrev.isNone then
        if y then s.wTrack x true a.na t4 else dirOf x.dir * ((s.cyc - 1) * s.scan.q : Nat) * (puU / 2)
      else s.wTrack x y (a.deflShot t4) t4
    | _, _ => ax.y
  | 1 => ax.wEntry - (s.sHat y t4 - ax.sEntry)
  | _ => s.getS (if y then F.GOV_PARK_Y else F.GOV_PARK_X) * puU

/-- The code of a deflection before the integrator (R400), and the deflection clamped to the limit. -/
def State.defCode (s : State) (a : Nat) (y : Int) (hv : Nat) : Int × Int :=
  let lim : Int := s.limDefRange a * puU
  let yl := clampI y (-lim) lim
  (yl, rhu (yl * 256 * s.get F.GOV_HV_NOM) (puU.toNat * s.get (F.GOV_DEF_SENS a) * hv) + s.getS (F.GOV_TRIM_OFF a))

/-- Hold an axis. -/
def State.setAxis (s : State) (a : Nat) (ax : Axis) : State :=
  { s with gov := if a = 0 then { s.gov with ax := ax } else { s.gov with ay := ax } }

/-- One tick of one axis (R400, R401, R408): on entry h is preset, to 0 in HOLD (R406, log entry 76). -/
def State.axisTick (s : State) (a : Nat) (hv : Nat) (rb : Int) : State :=
  let y := a == 1
  let ax := if y then s.gov.ay else s.gov.ax
  let t4 : Int := 4 * (s.clk.now / 66 : Nat)
  let est := s.sHat y t4
  let ax := if s.gov.entered then { ax with wEntry := ax.y, sEntry := ax.sLast } else ax
  let w := s.wLaw ax y t4
  let ax := if s.gov.entered then { ax with h := if s.get F.GOV_STAT_MODE = 1 then 0 else ax.y - w } else ax
  let yv := w + ax.h
  let (yl, t) := s.defCode a yv hv
  let code := t + ax.c
  let out := clampI code (-131071) 131071
  let sat := yl != yv || out != code
  let slew : Int := s.get (F.GOV_SLEW (min 2 (s.get F.GOV_STAT_MODE))) * puU
  let ax := if sat then ax
            else { ax with h := ax.h - clampI ax.h (-slew) slew
                           c := if s.flag F.GOV_RB_CTL_EN
                             then clampI (ax.c + floorDiv (ax.tprev - rb) (2 ^ s.get F.GOV_RB_CTL_SHIFT)) (-4095) 4095
                             else ax.c }
  let ax := { ax with tprev := t, y := yv, sLast := est, sat := sat, from_ := s.getS (F.GOV_DEF_OUT a) }
  (s.setAxis a ax).setS (F.GOV_DEF_OUT a) out

/-- An axis keeps the estimate of the tick, the one at which a mode may be entered (R406), and holds its code. -/
def State.keepEst (s : State) : State :=
  let t4 : Int := 4 * (s.clk.now / 66 : Nat)
  { s with gov := { s.gov with ax := { s.gov.ax with sLast := s.sHat false t4, from_ := s.getS (F.GOV_DEF_OUT 0) }
                               ay := { s.gov.ay with sLast := s.sHat true t4, from_ := s.getS (F.GOV_DEF_OUT 1) } } }

/-- The shot whose slices 1..15 hold an instant (R403). -/
def State.sliceShot (s : State) : Option FixShot :=
  match s.esc.att with
  | none => none
  | some a => a.recent.find? (fun f => decide (f.tn * 66 ≤ s.clk.now ∧ 4 * (s.clk.now : Int) < slices15 f.tn * 66))

/-- An axis saturates in the slices of a shot that was not out of range (R403). -/
def State.satCheck (s : State) (wasX wasY : Bool) : State :=
  match s.sliceShot with
  | none => s
  | some f =>
    let first := decide ((s.clk.now : Int) < f.tn * 66 + 66000)
    let hit := (s.gov.ax.sat && (!wasX || first)) || (s.gov.ay.sat && (!wasY || first))
    if hit && !f.outRange then ((s.set F.GOV_SAT_SHOT f.shot).raise 0x54 0 f.shot).stopArmed 12 else s

/-- The tolerance of VHV_SENSE (R404). -/
def State.hvTick (s : State) (hv : Nat) : State :=
  let s := s.set F.GOV_HV_MEAS hv
  let nom := s.get F.GOV_HV_NOM
  let d := ((hv : Int) - nom).natAbs
  if nom * s.get F.GOV_HV_TOL < d * 256 then { s with gov := { s.gov with hvRun := s.gov.hvRun + 1 } }
  else ({ s with gov := { s.gov with hvRun := 0 } }).set F.GOV_STAT_HV_BAD 0

/-- The code of VHV_SENSE at a voltage in nV (R690): 65,536 codes over 2.5 V, rounded half up and clamped. -/
def hvCode (nV : Int) : Nat := min 65535 (rhu (nV * 65536) 2500000000).toNat

/-- GOV_TICK (R400 to R404, R408, R690): one 50 ns tick with the voltage of VHV_SENSE and the readings of the pairs. -/
def execGovTick (t : Nat) (nV : Int) (rbx rby : Int) (s : State) : Host.Outcome State Fault Refusal :=
  let s := s.at t
  let hv := hvCode nV
  .next (if !s.domUp .motion || !s.beatDue .govTick (ns 50) then s
    else
      let s := s.beat .govTick
      let s := ((s.hvTick hv).setS (F.GOV_DEF_RB 0) rbx).setS (F.GOV_DEF_RB 1) rby
      let wasX := s.gov.ax.sat
      let wasY := s.gov.ay.sat
      let s := if hv = 0 then
          let s := s.keepEst
          { s with gov := { s.gov with ax := { s.gov.ax with sat := true }, ay := { s.gov.ay with sat := true } } }
        else if s.flag F.GOV_STAT_FREEZE then s.keepEst
        else
          let s := (s.axisTick 0 hv (s.getS (F.GOV_DEF_RB 0))).axisTick 1 hv (s.getS (F.GOV_DEF_RB 1))
          { s with gov := { s.gov with entered := false } }
      let s := ((s.setB F.GOV_STAT_BLEND (s.gov.ax.h != 0 || s.gov.ay.h != 0)).setB F.GOV_STAT_SAT_X s.gov.ax.sat).setB
        F.GOV_STAT_SAT_Y s.gov.ay.sat
      s.satCheck wasX wasY)

/-- HV_RANGE (R404): VHV_SENSE has been out of tolerance for 20 consecutive ticks. -/
def execHvRange (t : Nat) (s : State) : Host.Outcome State Fault Refusal :=
  let s := s.at t
  .next (if s.domUp .motion && decide (20 ≤ s.gov.hvRun) && !s.flag F.GOV_STAT_HV_BAD then
      (s.set F.GOV_STAT_HV_BAD 1).raise 0x55 0 0 else s)

/-- A shot is out of range (R402): the deflection predicted at t_n or at the end of slice 15 leaves the limit less the
margin, or the code its range. -/
def State.outOfRange (s : State) (x : Stripe) (shot : Nat) (tn : Int) : Bool :=
  let hv := s.get F.GOV_HV_MEAS
  let margin : Int := s.app F.GOV_DEF_MARGIN * puU
  [4 * tn, slices15 tn].any (fun t4 => [0, 1].any (fun a =>
    let ax := if a = 0 then s.gov.ax else s.gov.ay
    let y := s.wTrack x (a == 1) shot t4 + ax.h
    let code := (s.defCode a y hv).2 + ax.c
    decide (s.limDefRange a * puU < (y.natAbs : Int) + margin) || decide (code < -131071 ∨ 131071 < code) || hv == 0))

end Sys2Proof.Machine
end

