-- ==== Sys2Proof/Machine/Escapement.lean ====
section
/-! DEFINITION. The Escapement (R371 to R391): position ports, the tracking loops, and placing shots. -/

namespace Sys2Proof.Machine
open Sys2Proof

/-! ## Ports -/

/-- A port's state. -/
def State.port (s : State) (n : Nat) : Port := s.esc.ports.get n Port.seek

/-- Hold a port's state. -/
def State.setPort (s : State) (n : Nat) (p : Port) : State := { s with esc := { s.esc with ports := s.esc.ports.put n p } }

/-- The slot period of a port in units of 5 ns: values below 10 act as 10 (R412). -/
def State.period (s : State) (n : Nat) : Nat := max 10 (s.get (F.ESC_POS_CTL_PERIOD n))

/-- The port is read. -/
def State.portOn (s : State) (n : Nat) (quad : Bool) : Bool :=
  s.domUp .motion && s.get (F.ESC_POS_CTL_ROLE n) != 0 && s.flag (F.ESC_POS_CTL_QUAD n) == quad

/-- Loss is checked on the port (R379). -/
def State.lossChecked (s : State) (n : Nat) : Bool :=
  let r := s.get (F.ESC_POS_CTL_ROLE n)
  r == 1 || r == 2 || (r == 3 && s.flag (F.ESC_POS_CTL_AUX_CHECK n))

/-- A cause whose first shot not written is n stops or cancels the attempt (R413, R427, R428): a stripe whose last shot has
fallen due by then is past its stop. -/
def State.willStop (s : State) (n : Nat) : Bool :=
  s.armedOrRunning && (match s.esc.att with
    | some a => decide (n ≤ a.last)
    | none => false)

/-- Position loss or freeze of a port (R381): the stripe stops, the set-points stop, the outputs hold. -/
def State.posLoss (s : State) (n : Nat) (frozen : Bool) : State :=
  let p := s.port n
  let s := s.setPort n { p with lastSeq := none, good := 0, same := 0, declared := 0
                                frozenPos := if frozen then some p.lastPos else p.frozenPos }
  let s := s.set (F.ESC_POS_STAT_STATE n) 3
  let s := if frozen then (s.set (F.ESC_POS_STAT_FROZEN n) 1).set F.ESC_STAT_FROZEN 1 else s.set F.ESC_STAT_POSLOSS 1
  let s := ((s.set F.ESC_STAT_PORT n).set F.GOV_STAT_FREEZE 1).segAbort
  let k := match s.asy.stop with
    | some r => min r.ns s.nextClock
    | none => s.nextClock
  let s := if s.willStop k then s.set F.ESC_STOP_SHOT k else s
  (s.raise 0x50 0 0).stopAt (if frozen then 5 else 4) k

/-- Position is lost on a port that is checked once three consecutive slots have not been accepted (R379): a port that comes
to be checked after them loses it then. -/
def State.lossNow (s : State) (n : Nat) : State :=
  let b := (s.port n).bad
  if s.lossChecked n && (b == 3 || (decide (3 ≤ b) && s.get (F.ESC_POS_STAT_STATE n) != 3)) then s.posLoss n false else s

/-- A slot of a port is bad or missing (R376, R379). -/
def State.slotLost (s : State) (n : Nat) (miss : Bool) : State :=
  let p := s.port n
  let s := s.setPort n { p with declared := p.declared + 1, good := 0, same := 0, bad := p.bad + 1 }
  let s := (s.inc (if miss then F.ESC_POS_MISS n else F.ESC_POS_BAD n)).raise 0x51 0 0
  s.lossNow n

/-- The outputs resume through a hand-over once position has returned: every checked port is in SERVICE (R381, R382).  No
estimate is known before, so the hand-over takes that of the present instant as the one of the tick before (log entry
74). -/
def State.unfreeze (s : State) : State :=
  if s.flag F.GOV_STAT_FREEZE && (List.range 3).all (fun n => !s.lossChecked n || s.get (F.ESC_POS_STAT_STATE n) == 2) then
    { s.set F.GOV_STAT_FREEZE 0 with gov := { s.keepEst.gov with entered := true } }
  else s

/-! ## The tracking loop (R383, R385) -/

/-- The bandwidth code in force for a slot period of tw units of 50 ps. -/
def State.trkBw (s : State) (tw : Nat) : Nat :=
  ((List.range (s.get F.ESC_TRK_CTL_BW + 1)).reverse.find? (fun b => decide (2 ^ b * tw ≤ 125000))).getD 0

/-- One update of a loop with a position at a sample time (R383). -/
def Loop.update (l : Loop) (bw tw : Nat) (pos ts : Int) : Loop :=
  let wt := rhu ((0x6487ed511 * 2 ^ bw * tw : Nat) : Int) 2000000
  let k1 := rhu (1414 * wt) 1000
  let k2 := rhu (wt * wt) (2 ^ 32)
  let xp := l.xh + rhu (l.vh * (ts - l.tl)) 65536
  let r := pos * 65536 - xp
  ⟨xp + rhu (k1 * r) (2 ^ 32), l.vh + rhu (k2 * r) (65536 * tw), ts⟩

/-- A loop restarts at a position with the commanded velocity (R382). -/
def Loop.restart (pos vel ts : Int) : Loop := ⟨pos * 65536, rhu (vel * 65536) 20000, ts⟩

/-- Feed a position to the loop of a port's role, or restart it. -/
def State.loopWord (s : State) (n : Nat) (restart : Bool) (pos ts : Int) : State :=
  let tw := 100 * s.period n
  let bw := s.trkBw tw
  let upd (y : Bool) (l : Loop) : Loop :=
    if restart then Loop.restart pos (s.setAt y (ts * 66)).vel ts else l.update bw tw pos ts
  match s.get (F.ESC_POS_CTL_ROLE n) with
  | 1 => { s with esc := { s.esc with lx := upd false s.esc.lx } }
  | 2 => { s with esc := { s.esc with ly := upd true s.esc.ly } }
  | _ => s

/-! ## Accepted words (R376, R379, R382) -/

/-- A frozen port ends its freeze at the first word with another POS (R382); the count of words in SEEK or LOST. -/
def Port.counts (p : Port) (pos : Int) : Port :=
  match p.frozenPos with
  | some f => if pos = f then { p with good := 0 } else { p with good := p.good + 1, frozenPos := none }
  | none => { p with good := p.good + 1 }

/-- A word is accepted: its POS at its sample time in units of 50 ps. -/
def State.acceptWord (s : State) (n : Nat) (pos ts : Int) : State :=
  let role := s.get (F.ESC_POS_CTL_ROLE n)
  let p := (s.port n).counts pos
  let moving := (role == 1 || role == 2) && (s.setAt (role == 2) (ts * 66)).vel != 0
  let same := if !moving then 0 else if pos = p.lastPos ∧ p.same ≠ 0 then p.same + 1 else 1
  let s := s.setPort n { p with declared := 0, bad := 0, same := same, lastPos := pos }
  let s := s.setS (F.ESC_POS_VAL n) pos
  let st := s.get (F.ESC_POS_STAT_STATE n)
  if st = 2 then
    let s := s.loopWord n false pos ts
    if same = 64 then s.posLoss n true else s
  else if 16 ≤ p.good then
    (((s.set (F.ESC_POS_STAT_STATE n) 2).set (F.ESC_POS_STAT_FROZEN n) 0).loopWord n true pos ts).unfreeze
  else s

/-- The launch position of the attempt (R440, R449). -/
def State.launchPos (s : State) (x : Stripe) (na : Nat) : Int := x.x0 + dirOf x.dir * (na * s.scan.q : Nat)

/-- The stage estimate has passed a position in the stripe's direction: d·(x_a − x̂) is not above 0 (R425). -/
def State.passed (s : State) (x : Stripe) (xa : Int) : Bool :=
  decide (dirOf x.dir * (xa * 65536 - s.esc.lx.at_ (4 * (s.clk.now / 66 : Nat))) ≤ 0)

/-- An ARM that waits fails at once when the launch position has been passed (R425). -/
def State.armPast (s : State) : State :=
  match s.cur, s.esc.att with
  | some x, some a => if s.armWaiting && s.passed x (s.launchPos x a.na) then s.armFail 9 else s
  | _, _ => s

/-- POSITION_WORD (R376): t is the instant at which the first SYNC bit reaches the lands. -/
def execPositionWord (t : Nat) (n : Fin 3) (w : PosWord) (s : State) : Host.Outcome State Fault Refusal :=
  let s := s.at t
  let n := n.val
  .next (if !s.portOn n false then s
    else
      let p := s.port n
      let s := s.setPort n { p with slotEnd := s.clk.now }
      let gap := match p.lastSeq with
        | none => 1
        | some q => (w.seq.val + 256 - q) % 256
      if w.line && w.crc && w.valid && decide (1 ≤ gap ∧ gap ≤ 127) then
        let s := (List.range (gap - 1 - p.declared)).foldl (fun s _ => s.slotLost n true) s
        let s := s.setPort n { s.port n with lastSeq := some w.seq.val }
        let s := s.set (F.ESC_POS_STAT_SEQ n) w.seq.val
        (s.acceptWord n w.pos (rhu s.clk.now 66 - (w.age : Int))).armPast
      else s.slotLost n false)

/-- POSITION_SLOT_MISSING (R376): no word within 1.5 periods of the slot before. -/
def execPositionSlotMissing (t : Nat) (n : Fin 3) (s : State) : Host.Outcome State Fault Refusal :=
  let s := s.at t
  let n := n.val
  .next (
    let p := s.port n
    let per := ns (5 * s.period n)
    if s.portOn n false && decide (2 * p.slotEnd + 3 * per ≤ 2 * s.clk.now) then
      (s.setPort n { p with slotEnd := p.slotEnd + per }).slotLost n true
    else s)

/-- The change of count of a transition of (A, B): +1 where A leads (R378); none where both change. -/
def quadStep (a0 b0 a1 b1 : Bool) : Option Int :=
  let q (a b : Bool) : Nat := match a, b with
    | false, false => 0 | true, false => 1 | true, true => 2 | false, true => 3
  match (q a1 b1 + 4 - q a0 b0) % 4 with
  | 0 => some 0 | 1 => some 1 | 3 => some (-1) | _ => none

/-- The pair takes new levels in a CK_SHOT clock (R378): the count follows the levels as the clock began, and a clock in which
both A and B change is illegal and counts nothing. -/
def Port.edge (p : Port) (clk : Nat) (a b lost : Bool) : Port :=
  let p := if clk = p.qClk then p
           else { p with qClk := clk, qA := p.phA, qB := p.phB, qCount := p.count, movA := false, movB := false }
  let mA := p.movA || a != p.phA
  let mB := p.movB || b != p.phB
  { p with phA := a, phB := b, movA := mA, movB := mB, sigLost := lost
           count := if mA && mB then p.qCount else p.qCount + (quadStep p.qA p.qB a b).getD 0
           illegal := p.illegal || (mA && mB) || lost }

/-- QUAD_EDGE (R378): the lines A and B take new levels, whatever the port does with them; lost says that a signal is lost. -/
def execQuadEdge (t : Nat) (n : Fin 3) (a b : Bool) (lost : Bool) (s : State) : Host.Outcome State Fault Refusal :=
  let s := s.at t
  let n := n.val
  let p := s.port n
  .next (s.setPort n (if s.portOn n true then p.edge (s.clk.now / 3300) a b lost
    else { p with phA := a, phB := b, sigLost := lost }))

/-- QUAD_PERIOD (R378): a virtual word from the count. -/
def execQuadPeriod (t : Nat) (n : Fin 3) (s : State) : Host.Outcome State Fault Refusal :=
  let s := s.at t
  let n := n.val
  .next (if s.portOn n true && decide ((s.port n).slotEnd + ns (5 * s.period n) ≤ s.clk.now) then
      let p := s.port n
      let s := s.setPort n { p with illegal := p.sigLost, slotEnd := s.clk.now }
      if p.illegal then s.slotLost n false
      else (s.acceptWord n (rhu (p.count * s.get (F.ESC_Q_SCALE n)) 65536) (rhu s.clk.now 66)).armPast
    else s)

/-- The count is 0; a transition later in the same CK_SHOT clock counts from the levels as they are (R378). -/
def Port.home (p : Port) : Port := { p with count := 0, qCount := 0, qA := p.phA, qB := p.phB }

/-- QIDX_EDGE (R378): the first rising edge while IDX_HOME is 1 homes the count. -/
def execQidxEdge (t : Nat) (n : Fin 3) (s : State) : Host.Outcome State Fault Refusal :=
  let s := s.at t
  let n := n.val
  .next (if s.portOn n true && s.flag (F.ESC_POS_CTL_IDX_HOME n) then
      ((s.setPort n (s.port n).home).set (F.ESC_POS_CTL_IDX_HOME n) 0).set (F.ESC_POS_STAT_HOMED n) 1
    else s)

/-! ## Placing shots (R386 to R391) -/

/-- The position of shot n, pu (R386). -/
def State.shotPos (s : State) (x : Stripe) (n : Nat) : Int := s.launchPos x n

/-- The crossing time of shot n in units of 50 ps (R386): it exists while the estimate moves in direction d. -/
def State.crossing (s : State) (x : Stripe) (n : Nat) : Option Int :=
  let l := s.esc.lx
  if 0 < dirOf x.dir * l.vh then
    let num := (s.shotPos x n * 65536 - l.xh) * 65536
    some (l.tl + (if 0 < l.vh then rhu num l.vh.natAbs else rhu (-num) l.vh.natAbs))
  else none

/-- The time at which the next shot of an attempt is to be placed (R386, R391). -/
def State.target (s : State) (x : Stripe) (a : Attempt) : Option Int :=
  if a.next = a.na then (match a.t0 with
    | some t => some t
    | none => s.crossing x a.next)
  else s.crossing x a.next

/-- x₀ is replaced by the estimate at t_0 (R391). -/
def State.timeLaunch (s : State) (x : Stripe) (a : Attempt) : State :=
  match a.t0 with
  | none => s
  | some t =>
    let x0 := rhu (s.esc.lx.at_ (4 * t)) 65536 - dirOf x.dir * (a.na * s.scan.q : Nat)
    let s := s.setCur { s.cur.getD x with x0 := x0, timeLaunch := true }
    (s.setS F.ESC_CUR_X0 x0).set F.ESC_STAT_TIME_LAUNCH 1

/-- Place the next shot of the attempt (R387, R389, R402). -/
def State.shotFix (s : State) (x : Stripe) (a : Attempt) (tc now : Int) : State :=
  let first := a.tPrev.isNone
  let s := if first then s.stripeStart.bindLead else s
  let tf : Int := s.frameLead
  let tn := max (max tc (now + tf)) (match a.tPrev with
    | some p => p + 12500
    | none => tc)
  let slip := tn - tc
  let n := a.next
  if (s.app F.ESC_SLIP_MAX : Int) < slip then
    (((s.set F.ESC_STAT_OVERSPEED 1).set F.ESC_STOP_SHOT n).raise 0x52 0 n).stopAt 6 n
  else
    let s := if first then s.timeLaunch x a else s
    let x := s.cur.getD x
    let s := s.setMax F.ESC_SLIP_PEAK slip.toNat
    let s := match a.tPrev with
      | some p => s.setMin F.ESC_INTV_MIN (tn - p).toNat
      | none => s
    let s := { s with esc := { s.esc with att := some { a with tPrev := some tn } } }
    let out := s.outOfRange x n tn
    let s := { s with esc := { s.esc with att := some { a with next := n + 1, tPrev := some tn,
                                                               fixClk := some (s.clk.now / 3300), fixed := a.fixed ++ [⟨n, tn, out⟩] } } }
    if out then s.raise 0x53 0 n else s

/-- SHOT_FIX (R387): the next shot of the attempt is placed once its crossing is near, one shot at most in a CK_SHOT clock. -/
def execShotFix (t : Nat) (s : State) : Host.Outcome State Fault Refusal :=
  let s := s.at t
  .next (match s.cur, s.esc.att with
    | some x, some a =>
      if s.domUp .motion && a.launched && decide (a.next ≤ a.last) && a.bar.isNone && s.armedOrRunning
          && a.fixClk != some (s.clk.now / 3300) then
        let now : Int := (s.clk.now / 66 : Nat)
        let hf := 50 * clampN (if a.tPrev.isNone then s.get F.ESC_FIX else s.app F.ESC_FIX) 8 80
        match s.target x a with
        | none => s
        | some tc => if tc - now ≤ (s.frameLead + hf : Nat) then s.shotFix x a tc now else s
      else s
    | _, _ => s)

end Sys2Proof.Machine
end

