-- ==== Sys2Proof/Machine/Shot.lean ====
section
/-! DEFINITION. A shot from its due event to its darn entries (R20, R293 to R308, R335 to R337, R351, R392, R443 to R447), the
end of an attempt (R407) and the stop sequence (R228, R439). -/

namespace Sys2Proof.Machine
open Sys2Proof

/-! ## Values and causes at the due event (R36, R294, R295) -/

/-- Tally has evaluated a decoded shot. -/
def ShotBuf.complete (b : ShotBuf) : Bool := b.tally.isSome

/-- A whole-shot Tally cause: WHOLE of a valid leaf, else Tally's own zeroing (R36). -/
def ShotBuf.tallyWhole (b : ShotBuf) : Option (Nat × Bool) :=
  match b.whole with
  | some w => some (w, false)
  | none =>
    match b.tally with
    | some t => t.2
    | none => none

/-- The whole-shot cause that holds at the due event, with GUARD (R36); a masked shot is never late. -/
def wholeCause (buf : Option ShotBuf) (mask outRange : Bool) : Option (Nat × Bool) :=
  let data : Option (Nat × Bool) :=
    match buf with
    | none => if mask then none else some (5, false)
    | some b =>
      match b.tallyWhole with
      | some w => some w
      | none => if !b.bad.isEmpty then some (6, false)
                else if !b.complete && !mask then some (5, false) else none
  match data with
  | some w => some w
  | none => if outRange then some (7, false) else none

/-- The beams that marks or Tally zero (R295): key, cause, value, GUARD. -/
def ShotBuf.zeroed (b : ShotBuf) : List (Nat × Nat × Nat × Bool) :=
  b.marks.map (fun m => (m.1, m.2.1, m.2.2, false)) ++ ((b.tally.map Prod.fst).getD [])

/-- The emitted values of R297. -/
def emitted (buf : Option ShotBuf) (mask : Bool) (whole : Option (Nat × Bool)) : Vals :=
  match buf with
  | none => []
  | some b =>
    if mask || whole.isSome then []
    else
      let z := ((b.tally.map Prod.fst).getD []).map Prod.fst
      b.vals.filter (fun p => !z.contains p.1)

/-- The header of a lane's frame (R336). -/
def frameHeader (device lane base shot : Nat) (blank mask first last : Bool) : Nat :=
  device % 64 + lane * 2 ^ 6 + base * 2 ^ 11 + shot * 2 ^ 20 + b2n blank * 2 ^ 60 + b2n mask * 2 ^ 61 + b2n first * 2 ^ 62
    + b2n last * 2 ^ 63

/-- The payload of lane l: its nonzero emitted values by value index (R195, R337). -/
def laneOf (e : Vals) (l : Nat) : Vals := (e.filter (fun p => p.1 / leafN == l)).map (fun p => (p.1 % leafN, p.2))

/-- The frames of a shot leave on all 32 lanes with its emitted values (R295, R335, R337). -/
def State.frames (s : State) (device shot : Nat) (e : Vals) (blank mask last : Bool) : State :=
  (List.range 32).foldl (fun s l =>
    let first := s.bdl.lastFrame.lookup l != some (shot - 1) || shot == 0
    ({ s with bdl := { s.bdl with lastFrame := s.bdl.lastFrame.put l shot
                                  lastSent := s.bdl.lastSent.put l (laneSeed shot l, 32864) } }).emit
      (.frame l (frameHeader device l (s.mapBase l) shot blank mask first last) (laneOf e l))) s

/-- The usage of a shot's emitted values by 64·lane + block (R317, R319). -/
def State.useOf (s : State) (e : Vals) : SMap Nat :=
  e.foldl (fun u p => let k := 64 * (p.1 / leafN) + s.blockOf p.1; u.put k (u.get k 0 + p.2)) []

/-! ## The due event -/

/-- Late shots (R294, R326). -/
def State.lateShot (s : State) (n : Nat) : State := ((s.inc F.PLT_LATE).set F.PLT_LATE_SHOT n).raise 0x40 0 n

/-- Tally takes the emitted values of the shot that falls due (R298, R302, R327). -/
def State.tallyDue (s : State) (x : Stripe) (n : Nat) (e : Vals) : State :=
  let s := if s.plt.nextTally ≤ n then
      let s := { s with plt := { s.plt with nextTally := n + 1 } }
      if !s.memUp then { s with plt := { s.plt with owed := s.plt.owed ++ [n] } }
      else match s.tallyLeave x n with
        | (true, s) => s
        | (false, s) => s.stopAt 11 (n + 1)
    else s
  let w := if s.tallyBypass then [] else valAdd s.plt.wsum e
  let s := { s with plt := { s.plt with wsum := w, hsum := s.plt.hsum + valSum e } }
  let s := s.set F.PLT_TALLY_HSUM s.plt.hsum
  let s := if s.tallyBypass then s else s.setMax F.PLT_TALLY_BMAX ((w.map Prod.snd).foldl max 0)
  s.tallyWrite x n e

/-- The shot counter's registers (R392). -/
def State.escShot (s : State) (n : Nat) (tn : Int) : State :=
  let m := s.mtFr (tn * 66).toNat g50
  ((s.set F.ESC_SHOT n).set F.ESC_TN (m / 65536)).set F.ESC_TN_FR (m % 65536)

/-- The machine time of a t_n: nanoseconds and fraction (R454, R713). -/
def State.stampTn (s : State) (tn : Int) : Nat × Nat :=
  let m := s.mtFr (tn * 66).toNat g50
  (m / 65536, m % 65536)

/-- The buffers after a due event (R211, R291): older ones are released, but the shot before drains while a write to the Tally
ring waits; the last shot of a cycle is kept in the checkpoint buffer. -/
def State.bufsDue (s : State) (n : Nat) (buf : Option ShotBuf) : State :=
  let s := { s with plt := { s.plt with
    onAir := some n
    bufs := s.plt.bufs.filter (fun b => decide (n ≤ b.shot))
    draining := if s.mem.waiting.any (fun w => w.1 == 3) then s.plt.bufs.find? (fun b => b.shot + 1 == n) else none } }
  match buf with
  | some b =>
    if (n + 1) % s.cyc = 0 then
      { s with plt := { s.plt with ckpt := some (n, b.vals, b.bad) } }.bufWrite ckptSlot
        ((List.range 32).filter (fun l => !b.bad.contains l))
    else s
  | none => s

/-- The buffer of a shot as the Platen reads it for the lanes: the values read, with the lanes lost to an uncorrectable
word (R272, R275). -/
def State.readShot (s : State) (n : Nat) : Option ShotBuf × State :=
  match s.plt.bufs.find? (fun b => b.shot == n) with
  | none => (none, s)
  | some b =>
    let r := s.readBuf b.slot b.vals
    (some { b with vals := r.2.1, bad := b.bad ++ r.1.filter (fun l => !b.bad.contains l) }, r.2.2)

/-- The due event of a placed shot (R20, R295, R297, R308, R392, R421). -/
def State.shotDue (s : State) (x : Stripe) (a : Attempt) (f : FixShot) : State :=
  let n := f.shot
  let mask := decide (n < a.ns)
  let last := n == a.last
  let start := x.st == .armed
  let s := if start then s.setCur { x with st := .running } else s
  let (buf, s) := s.readShot n
  let whole := wholeCause buf mask f.outRange
  let late := !mask && (match buf with | some b => !b.complete | none => true)
  let e := emitted buf mask whole
  let zero : List (Nat × Nat × Nat × Bool) :=
    match buf with
    | some b => if mask || whole.isSome then [] else b.zeroed
    | none => []
  let beams := zero.map (fun z => let r := s.beamOf z.1; (r.1, r.2, z.2.1, z.2.2.1, z.2.2.2))
  let s := if late then s.lateShot n else s
  let s := if f.outRange && !mask then s.inc F.GOV_DEF_RANGE else s
  let s := s.frames a.device n e whole.isSome mask last
  let o : ShotOut := ⟨n, (f.tn * 66).toNat, whole.isSome, mask, List.range 32, [], [], beams,
                      if mask then none else whole, s.useOf e⟩
  let s := { s with bdl := { s.bdl with out := s.bdl.out ++ [o] } }
  let s := if mask then s else s.tallyDue x n e
  let s := (s.bufsDue n buf).escShot n f.tn
  let s := { s with esc := { s.esc with att := s.esc.att.map (fun (a : Attempt) => { a with
      due := some (n, f.tn), fixed := a.fixed.filter (fun g => decide (n < g.shot))
      recent := (a.recent ++ [f]).drop (a.recent.length + 1 - 4) }) } }
  let s := s.lgrShot
  let s := if start && s.domUp .ring && s.get F.KOR_SYNC_CTL_OUT == 1 then s.emit (.syncOut (f.tn * 66).toNat) else s
  let x1 : Stripe := { x with
    st := if last then .ended else .running
    resumes := if start && x.resume.isSome then x.resumes + 1 else x.resumes
    sdig := if mask then x.sdig else crc64From x.sdig (shotBytes e)
    tStart := if x.tStart.isNone && n == x.firstShot s.cyc then some (s.stampTn f.tn) else x.tStart
    tEnd := if last then some (s.stampTn f.tn) else x.tEnd }
  let s := s.setCur x1
  let s := if last then s.lanesIdle else s
  let s := (s.release250 x1).showPlt
  (s.setMin F.PLT_AHEAD_MIN s.ahead).showLead

/-- SHOT_DUE (R20): the oldest placed shot falls due; accs are what has happened to the words of array 2 since the last
command that reads it (R272). -/
def execShotDue (t : Nat) (accs : List SramAcc) (s : State) : Host.Outcome State Fault Refusal :=
  let s := s.at t
  .next (match s.cur, s.esc.att with
    | some x, some a =>
      match a.fixed with
      | f :: _ => if s.domUp .plat && s.domUp .motion && s.armedOrRunning && decide (s.dueAt f ≤ (s.clk.now : Int)) then
          (accs.foldl State.platenAcc s).shotDue x a f else s
      | [] => s
    | _, _ => s)

/-- The slices of the last shot of the attempt that falls due are over (R407). -/
def State.attemptOver (s : State) (a : Attempt) : Bool :=
  a.fixed.isEmpty && (match a.due with
    | some d => decide (slices15 d.2 * 66 ≤ 4 * (s.clk.now : Int))
    | none => true)

/-- TRACK_EXIT (R407): a stripe that has ended or is stopping leaves TRACK at the end of slice 15 of its last shot. -/
def execTrackExit (t : Nat) (s : State) : Host.Outcome State Fault Refusal :=
  let s := s.at t
  .next (match s.cur, s.esc.att with
    | some x, some a =>
      if s.attemptOver a then
        if x.st = .ended then ({ s with esc := { s.esc with att := none } }).leaveTrack
        else if s.asy.stop.isSome then s.leaveTrack.lanesIdle
        else s
      else s
    | _, _ => s)

/-! ## Darn entries (R443 to R447) -/

/-- The code of a scope (R443). -/
def DScope.code : DScope → Nat
  | .beam => 0 | .lane => 1 | .shot => 2

/-- Bytes 0..11 of an entry. -/
def DarnE.head (e : DarnE) : List Byte :=
  leBytes 5 e.shot ++ leBytes 1 e.scope.code ++ leBytes 2 e.row ++ leBytes 2 e.col ++ leBytes 1 e.cause ++ leBytes 1 e.value

/-- Insert a beam entry by row, then column. -/
def beamIns (e : DarnE) : List DarnE → List DarnE
  | [] => [e]
  | x :: r => if e.row < x.row ∨ (e.row = x.row ∧ e.col < x.col) then e :: x :: r else x :: beamIns e r

/-- The lanes of a settled shot that take a LANE entry, with the cause (R353). -/
def ShotOut.laneDarns (o : ShotOut) : List (Nat × Nat) :=
  (List.range 32).filterMap (fun l =>
    if o.naks.contains l then some (l, 8) else if o.silents.contains l then some (l, 9) else none)

/-- The entries of a settled shot (R445): one SHOT entry, or LANE entries and the BEAM entries they do not cover. -/
def State.darnsOf (s : State) (o : ShotOut) : List DarnE :=
  match o.whole with
  | some w => [⟨o.shot, .shot, 0xFFFF, 0xFFFF, w.1, 128 * b2n w.2⟩]
  | none =>
    let lanes := o.laneDarns
    let covered (row : Nat) : Bool := lanes.any (fun p => decide (s.mapBase p.1 ≤ row ∧ row < s.mapBase p.1 + 16))
    let beams := (o.beams.filter (fun b => !covered b.1)).foldl (fun l b =>
      beamIns ⟨o.shot, .beam, b.1, b.2.1, b.2.2.1, b.2.2.2.1 % 16 + 128 * b2n b.2.2.2.2⟩ l) []
    lanes.map (fun p => ⟨o.shot, .lane, s.mapBase p.1, p.1, p.2, 0⟩) ++ beams

/-- Write one entry of the current stripe; one that finds no room is counted and folded only (R446, R447). -/
def State.darnPut (s : State) (e : DarnE) : State :=
  match s.cur with
  | none => s
  | some x =>
    let h := e.head
    let x := { x with darnCount := x.darnCount + 1, ddig := crc64From x.ddig h }
    if x.darnNext < x.darnSize then
      let a := x.darnBase + 16 * x.darnNext
      let s := s.wr 4 a (h ++ leBytes 4 (crc32c (leBytes 8 a ++ h)))
      let x := { x with darnNext := x.darnNext + 1, wdig := crc64From x.wdig h }
      let s := s.setCur x
      if x.darnSize - x.darnNext ≤ s.app F.ASY_DARN_RESERVE ∧ !s.asy.darnFull then
        (({ s with asy := { s.asy with darnFull := true } }).raise 0x4F 0 x.darnNext).stopArmed 13
      else s
    else s.setCur { x with incomplete := true }

/-- DARN_ENTRY_WRITE (R445): the entries of the oldest shot, once every lane-shot of it is settled. -/
def execDarnEntryWrite (t : Nat) (s : State) : Host.Outcome State Fault Refusal :=
  let s := s.at t
  .next (if s.domUp .plat && s.memUp then
      match s.bdl.out with
      | o :: r =>
        if o.open_.isEmpty then
          ((s.darnsOf o).foldl State.darnPut { s with bdl := { s.bdl with out := r } }).drain
        else s
      | [] => s
    else s)

/-! ## The stop sequence (R228, R439) -/

/-- A checkpoint record (R228). -/
def ckptRecord (empty : Bool) (stripe cycle shot missing : Nat) (body : List Byte) : List Byte :=
  let h := leBytes 4 0x504B4351 ++ leBytes 2 1 ++ leBytes 2 (b2n empty) ++ leBytes 4 stripe ++ leBytes 4 cycle ++ leBytes 8 shot
    ++ leBytes 4 missing ++ zeros 32
  h ++ leBytes 4 (crc32c (h ++ body)) ++ body

/-- Lanes whose leaf of shot k₀·C − 1 is not usable. -/
def State.ckptMissing (s : State) (shot : Nat) (lost : List Nat) : List Nat :=
  match s.plt.ckpt with
  | some (n, _, bad) => if n = shot then (List.range 32).filter (fun l => bad.contains l || lost.contains l)
                        else List.range 32
  | none => List.range 32

/-- The Platen reads the checkpoint buffer: its values as read, and the lanes lost to an uncorrectable word (R275). -/
def State.readCkpt (s : State) : List Nat × State :=
  match s.plt.ckpt with
  | none => ([], s)
  | some c =>
    let r := s.readBuf ckptSlot c.2.1
    (r.1, { r.2.2 with plt := { r.2.2.plt with ckpt := some (c.1, r.2.1, c.2.2) } })

/-- The Platen writes the checkpoint of cycle k₀ (R228). -/
def State.ckptWrite (s : State) (x : Stripe) (k0 : Nat) (lost : List Nat) : State :=
  let empty := k0 == 0
  let shot := k0 * s.cyc - 1
  let miss := if empty then [] else s.ckptMissing shot lost
  let v : Vals := match s.plt.ckpt with
    | some c => if c.1 = shot ∧ !empty then c.2.1.filter (fun p => !miss.contains (p.1 / leafN)) else []
    | none => []
  let rec_ := ckptRecord empty x.low k0 shot (miss.foldl (fun m l => m + 2 ^ l) 0) (shotBytes v)
  (s.wr 3 s.ckptAddr rec_).set F.PLT_CKPT_STAT_WRITTEN 1

/-- The stop completes (R439): checkpoint, Galley, usage report, STOPPED. -/
def State.stopDone (s : State) (x : Stripe) (r : StopRec) : State :=
  let n := max r.ns (x.resume.getD 0)
  let s := if r.noCkpt then s
           else
             let q := s.readCkpt
             q.2.ckptWrite x (n / s.cyc) q.1
  let s := { s with asy := { s.asy with stop := none, awaitLaunch := false }, esc := { s.esc with att := none } }
  let s := s.setCur { (s.cur.getD x) with st := .stopped, resume := some n }
  let s := ((s.leaveTrack).lanesIdle).galleyEmpty
  let s := s.usageReport
  let s := ((((s.set F.ASY_RESUME_SHOT n).set F.ASY_STOP_CAUSE r.cause).setB F.ASY_STOP_MORE r.more).set
    F.ASY_STOP_VALID 1).irq 8
  let s := s.dbkNow 4 0xFF (r.cause + 16 * b2n r.more) (n % 2 ^ 32) (n / 2 ^ 32)
  (s.showPlt).showLead

/-- STOP_COMPLETE (R439): every shot before n_s has fallen due and every lane-shot is settled and recorded; accs are what has
happened to the words of array 2 since the last command that reads it (R275).  The checkpoint needs a controller that
accepts requests (R263). -/
def execStopComplete (t : Nat) (accs : List SramAcc) (s : State) : Host.Outcome State Fault Refusal :=
  let s := s.at t
  .next (match s.cur, s.asy.stop, s.esc.att with
    | some x, some r, some a =>
      if s.domUp .plat && (s.memUp || r.noCkpt) && s.bdl.out.isEmpty && s.attemptOver a then
        (accs.foldl State.platenAcc s).stopDone x r
      else s
    | _, _, _ => s)

end Sys2Proof.Machine
end

