-- ==== Sys2Proof/Machine/Raster.lean ====
section
/-! DEFINITION. Exact rasterisation (R127 to R141): bands, coverage, the raster dose of a layer pixel, the pixels a stripe
reads and its layout digest. -/

namespace Sys2Proof.Machine
open Sys2Proof

/-! ## Bands (R128, R129) -/

/-- An edge, y0 < y1. -/
structure Edge where
  x0 : Int
  y0 : Int
  x1 : Int
  y1 : Int
  deriving DecidableEq, Repr

/-- A band between two edges. -/
structure Band where
  ya : Int
  yb : Int
  le : Edge
  re : Edge
  deriving DecidableEq, Repr

/-- Numerator and denominator of an edge's key on a strip (R129). -/
def Edge.key (e : Edge) (ya yb : Int) : Int × Int :=
  (2 * e.x0 * (e.y1 - e.y0) + (e.x1 - e.x0) * (ya + yb - 2 * e.y0), 2 * (e.y1 - e.y0))

/-- Insert an edge by ascending key. -/
def edgeIns (ya yb : Int) (e : Edge) : List Edge → List Edge
  | [] => [e]
  | f :: r =>
    let a := e.key ya yb
    let b := f.key ya yb
    if a.1 * b.2 < b.1 * a.2 then e :: f :: r else f :: edgeIns ya yb e r

/-- Insert a value into an ascending list without repeats. -/
def intIns (x : Int) : List Int → List Int
  | [] => [x]
  | y :: r => if x < y then x :: y :: r else if x = y then y :: r else y :: intIns x r

/-- The bands of consecutive pairs of a strip's edges. -/
def pairBands (ya yb : Int) : List Edge → List Band
  | l :: r :: rest => ⟨ya, yb, l, r⟩ :: pairBands ya yb rest
  | _ => []

/-- The strips between neighbouring cut lines. -/
def strips : List Int → List (Int × Int)
  | a :: b :: r => (a, b) :: strips (b :: r)
  | _ => []

/-- The edges of a polygon that are not horizontal. -/
def polyEdges (vs : List (Int × Int)) : List Edge :=
  (List.range vs.length).filterMap (fun i =>
    let p := vs.getD i (0, 0)
    let q := vs.getD ((i + 1) % vs.length) (0, 0)
    if p.2 = q.2 then none
    else if p.2 < q.2 then some ⟨p.1, p.2, q.1, q.2⟩ else some ⟨q.1, q.2, p.1, p.2⟩)

/-- The polygon sweep (R129). -/
def polyBands (vs : List (Int × Int)) : List Band :=
  let es := polyEdges vs
  (strips ((vs.map Prod.snd).foldl (fun l y => intIns y l) [])).flatMap (fun s =>
    pairBands s.1 s.2 ((es.filter (fun e => decide (e.y0 ≤ s.1 ∧ s.2 ≤ e.y1))).foldl
      (fun l e => edgeIns s.1 s.2 e l) []))

/-- The bands of a primitive under a placement (R97, R128). -/
def Rec.bands (r : Rec) (t : Tr) : List Band :=
  match r.typ with
  | 0x20 =>
    let b := t.box r.shapeBox
    [⟨b.ylo, b.yhi, ⟨b.xlo, b.ylo, b.xlo, b.yhi⟩, ⟨b.xhi, b.ylo, b.xhi, b.yhi⟩⟩]
  | 0x21 =>
    let y0 := r.i 8 4
    let y1 := r.i 12 4
    let lo := (r.i 16 4, r.i 20 4)
    let hi := (r.i 24 4, r.i 28 4)
    let flip (p : Int × Int) : Int × Int := if t.mx then (-p.2, -p.1) else p
    let (ya, yb, a, b) := if t.my then (-y1, -y0, flip hi, flip lo) else (y0, y1, flip lo, flip hi)
    let ya := ya + t.oy
    let yb := yb + t.oy
    [⟨ya, yb, ⟨a.1 + t.ox, ya, b.1 + t.ox, yb⟩, ⟨a.2 + t.ox, ya, b.2 + t.ox, yb⟩⟩]
  | _ => polyBands (r.verts.map t.pt)

/-! ## Coverage (R130 to R132) -/

/-- gam of R130. -/
def gam (t h : Int) : Int :=
  let k := 256 * h
  if t ≤ 0 then 0 else if t ≤ k then t * t else k * k + 2 * k * (t - k)

/-- The integral of an edge over a pixel column, as num and den (R130). -/
def Edge.int (e : Edge) (cx lo hi : Int) : Int × Int :=
  if e.x0 = e.x1 then ((hi - lo) * clampI (e.x0 - cx) 0 256, 1)
  else
    let h := e.y1 - e.y0
    let dx := e.x1 - e.x0
    let ta := h * (e.x0 - cx) + dx * (lo - e.y0)
    let tb := h * (e.x0 - cx) + dx * (hi - e.y0)
    let num := gam tb h - gam ta h
    let den := 2 * h * dx
    if den < 0 then (-num, -den) else (num, den)

/-- The coverage of an instance in a layer pixel (R131). -/
def cover (bs : List Band) (gx gy : Int) : Nat :=
  let cx := 256 * gx
  let cy := 256 * gy
  let a := bs.foldl (fun (a : Int × Int) b =>
    let lo := max b.ya cy
    let hi := min b.yb (cy + 256)
    if lo < hi then
      let r := b.re.int cx lo hi
      let l := b.le.int cx lo hi
      (a.1 * r.2 * l.2 + (r.1 * l.2 - l.1 * r.2) * a.2, a.2 * r.2 * l.2)
    else a) (0, 1)
  (rhu (a.1 * 255) (a.2 * 65536).toNat).toNat

/-! ## The raster dose (R127, R134, R135) -/

/-- Coverages of the instances a record gives in a pixel, with their classes: cells to the depth of fuel (R98, R99). -/
def coverages (cells : List Cell) (gx gy : Int) : Nat → Tr → Rec → List (Nat × Nat)
  | 0, _, _ => []
  | fuel + 1, t, r =>
    if r.placing then
      match findCell cells (r.u 8 4) with
      | none => []
      | some c =>
        (List.range r.rows).flatMap (fun i => (List.range r.cols).flatMap (fun j =>
          c.members.flatMap (coverages cells gx gy fuel (t.comp (r.placeAt i j)))))
    else if r.shape then [(r.cls, cover (r.bands t) gx gy)] else []

/-- The instances a record gives, each as its bands: cells to the depth of fuel (R98, R99, R127). -/
def instances (cells : List Cell) : Nat → Tr → Rec → List (List Band)
  | 0, _, _ => []
  | fuel + 1, t, r =>
    if r.placing then
      match findCell cells (r.u 8 4) with
      | none => []
      | some c =>
        (List.range r.rows).flatMap (fun i => (List.range r.cols).flatMap (fun j =>
          c.members.flatMap (instances cells fuel (t.comp (r.placeAt i j)))))
    else if r.shape then [r.bands t] else []

/-- A band meets a box of layer pixels, as far as its bounding box shows. -/
def Band.meets (b : Band) (p : Box) : Bool :=
  decide (b.ya < 256 * p.yhi ∧ 256 * p.ylo < b.yb ∧ min b.le.x0 b.le.x1 < 256 * p.xhi ∧ 256 * p.xlo < max b.re.x0 b.re.x1)

/-- The factor of a class (R89). -/
def Prelude.factor (p : Prelude) (k : Nat) : Nat := (p.dose.lookup k).getD 0x4000

/-- The sum of coverages weighted and rounded (R134). -/
def doseOf (p : Prelude) (cs : List (Nat × Nat)) : Nat :=
  let acc := ((List.range 64).map (fun k => min ((cs.filter (fun c => c.1 == k)).map Prod.snd).sum 255 * p.factor k)).sum
  min 255 ((acc + 8192) / 16384)

/-- The raster dose of a layer pixel from the records of the take that holds it. -/
def rasterDose (p : Prelude) (rs : List Rec) (gx gy : Int) : Nat :=
  doseOf p (rs.flatMap (coverages p.cells gx gy 18 Tr.id))

/-! ## The dose of a layer pixel -/

/-- A hint's rectangle holds a layer pixel. -/
def Hint.holds (h : Hint) (gx gy : Int) : Bool := decide (h.x0 ≤ gx ∧ gx < h.x1 ∧ h.y0 ≤ gy ∧ gy < h.y1)

/-- A take is rejected (R114). -/
def Lay.takeRejected (l : Lay) (k : Nat) : Bool := l.c.rejTakes.contains k || l.v.takeFaults.any (fun p => p.1 == k)

/-- The take that holds a layer pixel: a rejected one before any other, so that its pixels stay unknown (R162). -/
def Lay.takeAt (l : Lay) (gx gy : Int) : Option Hint :=
  let hs := l.v.hints.filter (fun h => h.holds gx gy)
  match hs.find? (fun h => l.takeRejected h.take) with
  | some h => some h
  | none => hs.head?

/-- The STRIPE_HINTs of all takes have been accepted (R162). -/
def Lay.allHints (l : Lay) : Bool :=
  match l.v.start with
  | none => false
  | some st => ((knownTakes l.v.hints l.c.past).map (fun p => p.take)).eraseDups.length == st.takes

/-- A released take, not fetched again, holds a pixel. -/
def Lay.pastAt (l : Lay) (gx gy : Int) : Bool :=
  l.c.past.any (fun p => !(l.v.hints.any (fun h => h.take == p.take))
    && decide (p.x0 ≤ gx ∧ gx < p.x1 ∧ p.y0 ≤ gy ∧ gy < p.y1))

/-- The raster dose of a layer pixel where it is known (R113, R135, R162): in a ready take, outside the extent, or in no take
once every hint is accepted. -/
def Lay.dose (l : Lay) (gx gy : Int) : Option Nat :=
  match l.v.start, l.v.pre with
  | some st, some p =>
    if l.c.rejected then none
    else
      match l.takeAt gx gy with
      | some h => if l.v.ready l.c h.take then some (rasterDose p (l.v.records h.take) gx gy) else none
      | none =>
        if decide (gx < st.ext.xlo ∨ st.ext.xhi ≤ gx ∨ gy < st.ext.ylo ∨ st.ext.yhi ≤ gy)
            || (l.allHints && !l.pastAt gx gy) then some 0 else none
  | _, _ => none

/-! ## Where a stripe lies (R77, R78, R136) -/

/-- gs and hs of a stripe on a layer (R78). -/
def LStart.place (st : LStart) (x : Stripe) : Int × Int :=
  (floorDiv (x.xs - st.ox) (max 1 st.pitch), floorDiv (x.ys - st.oy) (max 1 st.pitch))

/-- The layer pixel of a stripe pixel (R78). -/
def LStart.pix (st : LStart) (x : Stripe) (px py : Int) : Int × Int :=
  let p := st.place x
  (p.1 + dirOf x.dir * px, p.2 + py)

/-- The stripe pixel of a layer pixel. -/
def LStart.unpix (st : LStart) (x : Stripe) (gx gy : Int) : Int × Int :=
  let p := st.place x
  (dirOf x.dir * (gx - p.1), gy - p.2)

/-- The rasterised window of a stripe: columns x_first..x_last (R136), narrowed for a mend pass (R451). -/
def State.winOf (s : State) (x : Stripe) : Int × Int := s.scan.window x.body

/-- The columns folded into a stripe's layout digest (R141, R451).  The 0 of a beam-shot under BLANK, which R66 has both digests
cover, is in the shot digest alone: R136 and R141 leave the lead zones out of the window (DESIGN CHOICE, log entry 61). -/
def State.digWin (s : State) (x : Stripe) : Int × Int :=
  let w := s.winOf x
  match x.mend with
  | none => w
  | some m =>
    (max w.1 (((m.kFirst : Int) - s.scan.np + 1) * s.scan.adv), min w.2 (((m.kLast : Int) + 1) * s.scan.adv - 1))

/-- A stripe pixel lies in the rasterised window. -/
def State.inWin (s : State) (x : Stripe) (px py : Int) : Bool :=
  let w := s.winOf x
  decide (w.1 ≤ px ∧ px ≤ w.2 ∧ 0 ≤ py ∧ py < s.scan.side)

/-- The columns a cycle adds to the digest: from the next column to fold to the end of band k. -/
def State.foldEnd (s : State) (x : Stripe) (k : Nat) : Int := min (s.digWin x).2 (((k : Int) + 1) * s.scan.adv - 1)

/-- The doses of a column of a stripe; none where one is not known. -/
def Lay.column (l : Lay) (st : LStart) (x : Stripe) (side : Nat) (px : Int) : Option (List Byte) :=
  (List.range side).mapM (fun (y : Nat) =>
    let g := st.pix x px y
    (l.dose g.1 g.2).map (BitVec.ofNat 8))

/-- The doses of n columns from px, in stripe raster order. -/
def Lay.columns (l : Lay) (st : LStart) (x : Stripe) (side : Nat) (px : Int) (n : Nat) : Option (List Byte) :=
  ((List.range n).mapM (fun (i : Nat) => l.column st x side (px + (i : Int)))).map List.flatten

/-! ## Instance and tile pairs (R137, R145) -/

/-- The raster tile (tx, ty) of a stripe as a box of layer pixels (R78, R137). -/
def LStart.tileBox (st : LStart) (x : Stripe) (tx ty : Int) : Box :=
  let p := st.pix x (64 * tx) (64 * ty)
  let q := st.pix x (64 * tx + 63) (64 * ty + 63)
  ⟨min p.1 q.1, p.2, max p.1 q.1 + 1, q.2 + 1⟩

/-- The instances rasterised in a box of layer pixels: those of each take that holds pixels of it, with a band that meets
these pixels (DESIGN CHOICE, log entry 61). -/
def Lay.pairsIn (l : Lay) (b : Box) : Nat :=
  match l.v.pre with
  | none => 0
  | some p => (l.v.hints.map (fun h =>
      let c : Box := ⟨max b.xlo h.x0, max b.ylo h.y0, min b.xhi h.x1, min b.yhi h.y1⟩
      if c.xlo < c.xhi ∧ c.ylo < c.yhi then
        (((l.v.records h.take).flatMap (instances p.cells 18 Tr.id)).filter (fun bs => bs.any (fun k => k.meets c))).length
      else 0)).sum

/-- The instance and tile pairs of the raster tiles whose columns lie in lo..hi (R145). -/
def Lay.pairs (l : Lay) (st : LStart) (x : Stripe) (side : Nat) (lo hi : Int) : Nat :=
  ((List.range ((hi + 1 - lo).toNat / 64)).map (fun (i : Nat) => ((List.range (side / 64)).map (fun (j : Nat) =>
    l.pairsIn (st.tileBox x (floorDiv lo 64 + i) j))).sum)).sum

end Sys2Proof.Machine
end

