-- ==== Sys2Proof/Machine/Shaping.lean ====
section
/-! DEFINITION. From raster doses to the values of shots (R153 to R176): correction, halos, equalisation, pass split and the
duty preview, as functions of the resident records, the bound settings and the bound gain table. -/

namespace Sys2Proof.Machine
open Sys2Proof

/-- A composition as its functions read it: the machine, the stripe, its layer and LAYER_START. -/
structure Work where
  s : State
  x : Stripe
  l : Lay
  st : LStart

/-- A shaping value bound at the opening (R186). -/
def Work.b (w : Work) (f : Fld) : Nat := w.x.comp.bound.get f

/-- The sum of known values; none where one is not known. -/
def sumO (l : List (Option Int)) : Option Int :=
  l.foldl (fun a x => match a, x with
    | some a, some x => some (a + x)
    | _, _ => none) (some 0)

/-- The integers lo..hi. -/
def rangeI (lo hi : Int) : List Int := (List.range (hi + 1 - lo).toNat).map (fun (i : Nat) => lo + (i : Int))

/-! ## Halo bodies (R500) -/

/-- A read of the body at an address is on its way to the Compositor poisoned (R258). -/
def State.bodyHurt (s : State) (a : Nat) : Bool := (s.hurtIn 2 a (2 ^ 25)).isSome

/-- A byte or sum of a body in HBM; none where it reads poisoned. -/
def State.bodyN (s : State) (a o n : Nat) : Option Nat :=
  if (s.poisoned (a + o) n).isSome then none else some (leVal (s.rd (a + o) n))

/-- A signed header field of a body. -/
def State.bodyI (s : State) (a o : Nat) : Int := sx 32 (leVal (s.rd (a + o) 4))

/-- The raster dose a body holds for a layer pixel. -/
def State.bodyDose (s : State) (a : Nat) (gx gy : Int) : Option Nat :=
  let x0 := s.bodyI a 16
  let x1 := s.bodyI a 20
  let y0 := s.bodyI a 24
  if x0 ≤ gx ∧ gx < x1 ∧ y0 ≤ gy ∧ gy < y0 + 7 then s.bodyN a (64 + 7 * (gx - x0).toNat + (gy - y0).toNat) 1 else none

/-- The partial coarse sum a body holds for a cell; a cell outside its rectangle has none of the sender's rows. -/
def State.bodySum (s : State) (a : Nat) (cx cy : Int) : Option Nat :=
  let x0 := s.bodyI a 16
  let x1 := s.bodyI a 20
  let c0 := s.bodyI a 32
  let c1 := s.bodyI a 36
  let d0 := s.bodyI a 40
  let d1 := s.bodyI a 44
  if c0 ≤ cx ∧ cx < c1 ∧ d0 ≤ cy ∧ cy < d1 then
    s.bodyN a (64 + 7 * (x1 - x0).toNat + 4 * ((cx - c0).toNat * (d1 - d0).toNat + (cy - d0).toNat)) 4
  else some 0

/-! ## Raster doses with the halo (R160, R161) -/

/-- Side YLO (false) or YHI (true) is set to RING. -/
def Work.ring (w : Work) (hi : Bool) : Bool := w.b (if hi then F.CMP_HALO_CTL_MODE_YHI else F.CMP_HALO_CTL_MODE_YLO) == 2

/-- Side YLO or YHI is set to LOCAL. -/
def Work.localY (w : Work) (hi : Bool) : Bool := w.b (if hi then F.CMP_HALO_CTL_MODE_YHI else F.CMP_HALO_CTL_MODE_YLO) == 1

/-- The body taken for a side. -/
def Work.body (w : Work) (hi : Bool) : Option Nat := if hi then w.x.comp.yhi else w.x.comp.ylo

/-- The raster dose of a layer pixel as correction reads it: in the window, or from its side of the halo. -/
def Work.dose (w : Work) (gx gy : Int) : Option Nat :=
  let p := w.st.unpix w.x gx gy
  let side (hi : Bool) : Option Nat :=
    if w.ring hi then (w.body hi).bind (fun a => w.s.bodyDose a gx gy)
    else if w.localY hi then w.l.dose gx gy else some 0
  if w.s.inWin w.x p.1 p.2 then w.l.dose gx gy
  else if p.2 < 0 then side false
  else if (w.s.scan.side : Int) ≤ p.2 then side true
  else if w.b F.CMP_HALO_CTL_MODE_X = 0 then some 0 else w.l.dose gx gy

/-! ## Correction (R154 to R158) -/

/-- hx and hy in use. -/
def Work.half (w : Work) (y : Bool) : Nat :=
  if w.b F.CMP_SR_CTL_EN = 0 then 0 else w.b (if y then F.CMP_SR_CTL_HY else F.CMP_SR_CTL_HX)

/-- The short-range sum e (R155). -/
def Work.short (w : Work) (gx gy : Int) : Option Int :=
  if w.b F.CMP_SR_CTL_EN = 0 then (w.dose gx gy).map (fun d => (d : Int) * 2 ^ 30)
  else
    let k (f : Nat → Fld) (i : Int) : Int := sx 16 (w.b (f (i + 7).toNat))
    let hx : Int := w.half false
    let hy : Int := w.half true
    sumO ((rangeI (-hx) hx).flatMap (fun i => (rangeI (-hy) hy).map (fun j =>
      (w.dose (gx + i) (gy + j)).map (fun d => k F.CMP_SR_KX i * k F.CMP_SR_KY j * (d : Int)))))

/-- The stripe row of row j of a coarse cell. -/
def Work.cellRow (w : Work) (cx cy : Int) (j : Nat) : Int := (w.st.unpix w.x (64 * cx) (64 * cy + (j : Int))).2

/-- Row j of a coarse cell lies on a RING side (R164). -/
def Work.ringRow (w : Work) (hi : Bool) (cx cy : Int) (j : Nat) : Bool :=
  w.ring hi && decide (if hi then (w.s.scan.side : Int) ≤ w.cellRow cx cy j else w.cellRow cx cy j < 0)

/-- The part's own sum over a cell: of every pixel that lies on no RING side (R156, R164). -/
def Work.ownSum (w : Work) (cx cy : Int) : Option Int :=
  sumO ((List.range 64).flatMap (fun (j : Nat) =>
    if w.ringRow false cx cy j || w.ringRow true cx cy j then []
    else (List.range 64).map (fun (i : Nat) => (w.dose (64 * cx + (i : Int)) (64 * cy + (j : Int))).map (fun d => (d : Int)))))

/-- The coarse sum of a cell (R156, R164): the part's own sum as the pre-pass stored it, and what each RING side sent. -/
def Work.csum (w : Work) (cx cy : Int) : Option Int :=
  let got (hi : Bool) : Option Int :=
    if (List.range 64).any (w.ringRow hi cx cy) then
      ((w.body hi).bind (fun a => w.s.bodySum a cx cy)).map (fun n => (n : Int))
    else some 0
  sumO [got false, got true,
    (w.x.comp.sums.find? (fun p => p.1 == cx && p.2.1 == cy)).map (fun p => (p.2.2 : Int))]

/-- g[n][i] of component n (R188). -/
def Work.gtab (w : Work) (n i : Nat) : Int :=
  ((if i % 2 = 0 then w.b (F.CMP_LR_G_E (17 * n + i / 2)) else w.b (F.CMP_LR_G_O (17 * n + i / 2)) : Nat) : Int)

/-- h of R157. -/
def Work.radius (w : Work) : Nat := min 32 (w.b F.CMP_LR_CTL_RADIUS)

/-- The long-range multiplier of a cell (R157). -/
def Work.mult (w : Work) (cx cy : Int) : Option Int :=
  if w.b F.CMP_LR_CTL_EN = 0 then some 16384
  else
    let h : Int := w.radius
    let nc := min 3 (w.b F.CMP_LR_CTL_NC + 1)
    let b := sumO ((List.range nc).flatMap (fun n => (rangeI (-h) h).flatMap (fun i => (rangeI (-h) h).map (fun j =>
      (w.csum (cx + i) (cy + j)).map (fun c =>
        sx 16 (w.b (F.CMP_LR_AMP n)) * w.gtab n i.natAbs * w.gtab n j.natAbs * c)))))
    b.map (fun b => clampI (sx 16 (w.b F.CMP_LR_BASE) - rhu b (2 ^ w.b F.CMP_LR_CTL_SHIFT))
      (sx 16 (w.b F.CMP_LR_LIMIT_MIN)) (sx 16 (w.b F.CMP_LR_LIMIT_MAX)))

/-- The corrected dose of a layer pixel (R158). -/
def Work.corrected (w : Work) (gx gy : Int) : Option Int :=
  let x0 := floorDiv (gx - 32) 64
  let fx := gx - 32 - 64 * x0
  let y0 := floorDiv (gy - 32) 64
  let fy := gy - 32 - 64 * y0
  let t (a : Int) (m : Option Int) : Option Int := m.map (fun v => a * v)
  match w.short gx gy, sumO [t ((64 - fx) * (64 - fy)) (w.mult x0 y0), t (fx * (64 - fy)) (w.mult (x0 + 1) y0),
      t ((64 - fx) * fy) (w.mult x0 (y0 + 1)), t (fx * fy) (w.mult (x0 + 1) (y0 + 1))] with
  | some e, some ms => some (clampI (rhu (e * ms) (2 ^ 56)) 0 255)
  | _, _ => none

/-! ## Gains and equalisation (R166 to R170) -/

/-- The address of the image bound by a stripe (R432). -/
def State.imgAddr (s : State) (slot : Nat) : Nat := s.dirTop + slot * 2 ^ 20

/-- The gain entry of a beam. -/
def Work.gain (w : Work) (r c : Nat) : Nat :=
  leVal (w.s.rd (w.s.imgAddr w.x.comp.gainSlot + 524288 + 2 * (r * 512 + c)) 2)

/-- A gain entry is valid (R168). -/
def gainOk (g : Nat) : Bool := decide (0x2000 ≤ g ∧ g ≤ 0x7FFF)

/-- The beams of a stripe pixel. -/
def Work.beams (w : Work) (px : Int) (py : Nat) : List (Nat × Nat) := w.s.scan.gainBeams w.x.dir px py

/-- The equalised dose before its limit (R169). -/
def Work.deqRaw (w : Work) (px : Int) (py : Nat) : Option Int :=
  let g := w.st.pix w.x px py
  let gsum := ((w.beams px py).map (fun b => w.gain b.1 b.2)).sum
  (w.corrected g.1 g.2).map (fun dc => rhu (dc * w.s.scan.np * 16384) gsum)

/-- The pass values of a stripe pixel (R169, R170). -/
def Work.passVals (w : Work) (px : Int) (py : Nat) : Option (List Nat) :=
  let np := w.s.scan.np
  (w.deqRaw px py).map (fun d =>
    let deq := (min 255 d).toNat
    let dp := (rhu ((deq * 15 * np : Nat) : Int) 255).toNat
    (List.range np).map (fun j => if j < dp % np then dp / np + 1 else dp / np))

/-! ## Mend passes (R450) -/

/-- An entry covers a beam-shot. -/
def DarnE.covers (e : DarnE) (n r c : Nat) : Bool :=
  e.shot == n && (match e.scope with
    | .beam => e.row == r && e.col == c
    | .lane => decide (e.row ≤ r ∧ r < e.row + 16)
    | .shot => true)

/-- The beam-shot is written: always, but in a mend pass only where an entry covers it. -/
def Stripe.writes (x : Stripe) (n r c : Nat) : Bool :=
  match x.mend with
  | none => true
  | some m => m.entries.any (fun e => e.covers n r c)

/-! ## Values of shots before the preview -/

/-- val(n, b): 0 in a lead zone under BLANK and where a mend pass writes nothing; none where it is not known. -/
def Work.val (w : Work) (n r c : Nat) : Option Nat :=
  let (px, py, j) := w.s.scan.pixelOf w.x.dir n r c
  if (!w.s.scan.margin && w.s.scan.inLead w.x.body px) || !w.x.writes n r c then some 0
  else (w.passVals px py).map (fun v => v.getD j 0)

/-- The nonzero values of a shot, by ascending key. -/
def Work.shotVals (w : Work) (n : Nat) : Option Vals :=
  ((List.range (32 * leafN)).mapM (fun (k : Nat) =>
    let b := w.s.beamOf k
    (w.val n b.1 b.2).map (fun v => (k, v)))).map (fun l => l.filter (fun p => p.2 != 0))

/-! ## The duty preview (R175, R176) -/

/-- A shot after the preview: its defined values, the marked beams (key, cause, value) and WHOLE. -/
structure Prev where
  out : Vals
  marks : List (Nat × Nat × Nat)
  whole : Nat
  deriving DecidableEq, Repr

/-- The preview of one shot, from the defined values of the 1,023 shots before it. -/
def previewShot (s : State) (hist : List Vals) (v : Vals) : Prev :=
  let sum (k : Nat) : Nat := (hist.map (fun h => h.get k 0)).sum
  let cause (p : Nat × Nat) : Nat :=
    if s.limMaxValue < p.2 then 1 else if s.limBeamDuty < sum p.1 + p.2 then 2 else 0
  let out := v.filter (fun p => cause p == 0)
  let t := valSum out
  let h := (hist.map valSum).sum
  let whole := if s.limHeadShot < t then 3 else if 0 < t ∧ s.limHeadWindow < h + t then 4 else 0
  if whole ≠ 0 then ⟨[], [], whole⟩
  else ⟨out, (v.filter (fun p => cause p != 0)).map (fun p => (p.1, cause p, p.2)), 0⟩

/-- The preview of n shots from a first one, after the defined values of the shots before it; the latest first (R175). -/
def Work.run (w : Work) (hist : List Vals) (first : Nat) : Nat → Option (List Prev)
  | 0 => some []
  | n + 1 =>
    match w.run hist first n, w.shotVals (first + n) with
    | some h, some v => some (previewShot w.s ((h.map (fun p => p.out) ++ hist).take 1023) v :: h)
    | _, _ => none

/-- The outcome of every shot from the stripe's first up to shot n, n not included: what the rebuild of R177 runs over; a
mend pass runs over its own shots. -/
def Work.upTo (w : Work) (n : Nat) : Option (List Prev) :=
  let f := w.x.firstShot w.s.cyc
  w.run [] f (n - f)

/-- The shots of the next cycle to publish, from the state of the preview before it: only what this cycle reads is needed
(R116). -/
def Work.cycle (w : Work) : Option (List Prev) :=
  w.run w.x.comp.hist (w.x.comp.nextCycle * w.s.cyc) w.s.cyc

/-- The leaf of a lane in a previewed shot (R204 to R207). -/
def Prev.leaf (p : Prev) (lane : Nat) : Leaf :=
  ⟨laneArr p.out lane,
   (p.marks.filter (fun m => m.1 / leafN == lane)).map (fun m => ⟨m.1 % leafN, m.2.1, m.2.2⟩), p.whole⟩

/-! ## Which pixels a cycle reads -/

/-- The columns of the window that cycle k reads: bands k - P + 1..k. -/
def Work.cycleCols (w : Work) (k : Nat) : List Int :=
  let win := w.s.winOf w.x
  let g := w.s.scan
  rangeI (max win.1 (((k : Int) - g.np + 1) * g.adv)) (min win.2 (((k : Int) + 1) * g.adv - 1))

/-- The columns first equalised in cycle k (R170). -/
def Work.newCols (w : Work) (k : Nat) : List Int :=
  let win := w.s.winOf w.x
  let g := w.s.scan
  if k = w.x.firstCycle then w.cycleCols k
  else rangeI (max win.1 ((k : Int) * g.adv)) (min win.2 (((k : Int) + 1) * g.adv - 1))

/-- Every gain entry that cycle k needs is valid (R168). -/
def Work.gainsOk (w : Work) (k : Nat) : Bool :=
  (w.cycleCols k).all (fun px => (List.range w.s.scan.side).all (fun py =>
    (w.beams px py).all (fun b => gainOk (w.gain b.1 b.2))))

/-- Pixels first equalised in cycle k whose equalised dose was limited to 255 (R170). -/
def Work.satOf (w : Work) (k : Nat) : Nat :=
  ((w.newCols k).map (fun px => ((List.range w.s.scan.side).filter (fun py =>
    match w.deqRaw px py with
    | some d => decide (255 < d)
    | none => false)).length)).sum

end Sys2Proof.Machine
end

