-- ==== Sys2Proof/Machine/Halo.lean ====
section
/-! DEFINITION. Halos between neighbours (R160, R163, R164, R500 to R505): bodies, blocks and acknowledgements, slots, and
the sides of stripes that take them. -/

namespace Sys2Proof.Machine
open Sys2Proof

/-- Bytes per block and per slot (R501, R503). -/
def haloBlock : Nat := 2032
/-- The size of a halo slot. -/
def haloSlotSize : Nat := 2 ^ 25

/-! ## Sending -/

/-- Blocks of a body. -/
def HaloTx.nblk (b : HaloTx) : Nat := (b.body.length + haloBlock - 1) / haloBlock

/-- Send the blocks lo..hi - 1 of a body. -/
def State.haloBlocks (s : State) (b : HaloTx) (lo hi : Nat) : State :=
  (List.range (hi - lo)).foldl (fun s i =>
    s.ringUni b.dst (.haloData b.id (lo + i) b.nblk ((b.body.drop (haloBlock * (lo + i))).take haloBlock))) s

/-- Hold a body in place of the one with its HALO_ID. -/
def State.putTx (s : State) (b : HaloTx) : State :=
  ({ s with kor := { s.kor with haloTx := s.kor.haloTx.map (fun (x : HaloTx) => if x.id = b.id then b else x) } }).showHalo

/-- A unicast to a device is sent: the part is in the ring and a whole path leads there (R480). -/
def State.uniSent (s : State) (dst : Nat) : Bool := s.inRing && (s.route dst).isSome

/-- Send on, at most 128 blocks beyond NEXT (R501); only blocks that are sent count as sent once or again (R502). -/
def State.haloPump (s : State) (b : HaloTx) : State :=
  let hi := max b.sent (min b.nblk (b.next + 128))
  let out := s.uniSent b.dst
  let s := s.haloBlocks b b.sent hi
  let s := if out then s.addN F.KOR_HALO_RETX (min hi b.top - b.sent) else s
  s.putTx { b with sent := hi, top := if out then max b.top hi else b.top }

/-- Send a body under a new HALO_ID (R500). -/
def State.haloSend (s : State) (hi : Bool) (dst stripe : Nat) (body : List Byte) : State :=
  if !s.domUp .ring then s
  else
    let id := s.kor.haloId
    let b : HaloTx := ⟨id, hi, dst, stripe, body, 0, 0, s.clk.now, 0, true, 0⟩
    let old := s.kor.haloTx.filter (fun x => x.active || x.hi != hi)
    ({ s with kor := { s.kor with haloId := (id + 1) % 2 ^ 16, haloTx := old ++ [b] } }).haloPump b

/-- The sender gives up a body (R502). -/
def State.haloGiveUp (s : State) (b : HaloTx) : State :=
  let s := s.putTx { b with active := false }
  (s.set (if b.hi then F.KOR_HALO_STAT_TX_FAIL_YHI else F.KOR_HALO_STAT_TX_FAIL_YLO) 1).raise 0x66 0 0

/-- HALO_ACK (R501, R502). -/
def execHaloAck (t : Nat) (h : RingHdr) (done refused : Bool) (id next : Nat) (s : State) : Host.Outcome State Fault Refusal :=
  let s := s.at t
  let (used, s) := s.ringRx h ⟨false, false, false⟩ (.haloAck done refused id next)
  .next (if !used then s
    else
      match s.kor.haloTx.find? (fun b => b.active && b.id == id && b.dst == h.src.val) with
      | none => s
      | some b =>
        if refused then s.haloGiveUp b
        else if done then s.putTx { b with active := false }
        else if b.next < next then s.haloPump { b with next := next, sent := max b.sent next, lastAdv := s.clk.now, tmos := 0 }
        else s.putTx { b with next := next, sent := min b.sent (next + 128) })

/-- HALO_TIMEOUT (R502): NEXT has not advanced for KOR_HALO_TMO. -/
def execHaloTimeout (t : Nat) (yhi : Bool) (s : State) : Host.Outcome State Fault Refusal :=
  let s := s.at t
  .next (match s.kor.haloTx.find? (fun b => b.active && b.hi == yhi
      && decide (b.lastAdv + us (s.get F.KOR_HALO_TMO) ≤ s.clk.now)) with
    | none => s
    | some b =>
      if 8 ≤ b.tmos + 1 then s.haloGiveUp b
      else s.haloPump { b with sent := b.next, tmos := b.tmos + 1, lastAdv := s.clk.now })

/-- A write of 1 to a bit of KOR_HALO_CMD (R502): the side's last body again under a new HALO_ID. -/
def State.haloResend (s : State) (hi : Bool) : State :=
  match (s.kor.haloTx.filter (fun b => b.hi == hi)).getLast? with
  | none => s
  | some b =>
    ({ s with kor := { s.kor with haloTx := s.kor.haloTx.filter (fun x => x.id != b.id) } }).haloSend hi b.dst b.stripe b.body

/-- RESEND_YLO. -/
def execResendYlo (m : Fin 9) (s : State) : Host.Outcome State Fault Refusal :=
  .next (s.regOp m F.KOR_HALO_CMD_RESEND_YLO.off (fun s => s.haloResend false))

/-- RESEND_YHI. -/
def execResendYhi (m : Fin 9) (s : State) : Host.Outcome State Fault Refusal :=
  .next (s.regOp m F.KOR_HALO_CMD_RESEND_YHI.off (fun s => s.haloResend true))

/-! ## The halo of a stripe (R160) -/

/-- A value bound by a stripe. -/
def Stripe.b (x : Stripe) (f : Fld) : Nat := x.comp.bound.get f

/-- The halo on the Y sides is empty. -/
def Stripe.yEmpty (x : Stripe) : Bool :=
  (x.b F.CMP_SR_CTL_EN == 0 || x.b F.CMP_SR_CTL_HY == 0) && x.b F.CMP_LR_CTL_EN == 0

/-- A Y side is complete (R164, R190); one whose halo is empty counts as complete. -/
def Stripe.sideDone (x : Stripe) (hi : Bool) : Bool := x.yEmpty || (if hi then x.comp.yhiOk else x.comp.yloOk)

/-- The coarse cells that meet the window, widened by d cells: lowest and highest index of each axis. -/
def State.cellSpan (s : State) (st : LStart) (x : Stripe) (d : Int) : Box :=
  let w := s.winOf x
  let a := st.pix x w.1 0
  let b := st.pix x w.2 ((s.scan.side : Int) - 1)
  ⟨floorDiv (min a.1 b.1) 64 - d, floorDiv a.2 64 - d, floorDiv (max a.1 b.1) 64 + d, floorDiv b.2 64 + d⟩

/-- The radius in use plus 1 (R160). -/
def Stripe.reach (x : Stripe) : Int := (min 32 (x.b F.CMP_LR_CTL_RADIUS) : Nat) + 1

/-- A body with a header covers every pixel of the stripe's halo on a side (R164): its doses, its cells, and the rows that its
sums are taken over, the sender's F rows, which hold every cell of the halo whole. -/
def State.covers (s : State) (st : LStart) (x : Stripe) (hi : Bool) (b : List Byte) : Bool :=
  let w := s.winOf x
  let hx : Int := if x.b F.CMP_SR_CTL_EN = 0 then 0 else x.b F.CMP_SR_CTL_HX
  let hy : Int := if x.b F.CMP_SR_CTL_EN = 0 then 0 else x.b F.CMP_SR_CTL_HY
  let p := st.pix x (w.1 - hx) 0
  let q := st.pix x (w.2 + hx) 0
  let y0 := if hi then p.2 + s.scan.side else p.2 - hy
  let y1 := if hi then p.2 + s.scan.side + hy else p.2
  let doses := hy == 0 || decide (leSAt b 16 4 ≤ min p.1 q.1 ∧ max p.1 q.1 < leSAt b 20 4 ∧ leSAt b 24 4 ≤ y0 ∧ y1 ≤ leSAt b 28 4)
  let c := s.cellSpan st x x.reach
  let n := s.cellSpan st x 0
  let d0 := if hi then n.yhi else c.ylo
  let d1 := if hi then c.yhi else n.ylo
  let edge : Int := if hi then p.2 + s.scan.side else p.2
  let d0 := if hi then (if edge % 64 = 0 then d0 + 1 else d0) else d0
  let d1 := if hi then d1 else (if edge % 64 = 0 then d1 - 1 else d1)
  let sums := x.b F.CMP_LR_CTL_EN == 0
    || (decide (leSAt b 32 4 ≤ c.xlo ∧ c.xhi < leSAt b 36 4 ∧ leSAt b 40 4 ≤ d0 ∧ d1 < leSAt b 44 4)
      && decide (if hi then 64 * (d1 + 1) ≤ edge + s.scan.side else edge - s.scan.side ≤ 64 * d0))
  doses && sums

/-! ## Slots (R503 to R505) -/

/-- The address of a halo slot. -/
def State.slotAddr (s : State) (n : Nat) : Nat := s.get F.KOR_HALO_BASE + haloSlotSize * n

/-- Slots that may be used: none where they do not lie within the tables and records. -/
def State.haloSlots (s : State) : Nat :=
  let n := min 8 (s.get F.KOR_HALO_SLOTS)
  if s.inTables (s.get F.KOR_HALO_BASE) (haloSlotSize * n) then n else 0

/-- Free a slot. -/
def State.freeSlot (s : State) (n : Nat) : State :=
  ({ s with kor := { s.kor with slots := s.kor.slots.filter (fun x => x.slot != n) } }).showHalo

/-- Hold a slot's record. -/
def State.putSlot (s : State) (x : HaloSlot) : State :=
  ({ s with kor := { s.kor with slots := s.kor.slots.map (fun (y : HaloSlot) => if y.slot = x.slot then x else y) } }).showHalo

/-- The layer of the body in a slot. -/
def HaloSlot.layer (r : HaloSlot) : Nat := bits (leAt r.head 8 8) 24 32

/-- A stripe leaves the open queue: slots that only it had taken are freed (R505). -/
def State.haloLeave (s : State) (id : Nat) : State :=
  let s := { s with kor := { s.kor with slots := s.kor.slots.filterMap (fun (x : HaloSlot) =>
    if x.takers.contains id then
      (if x.takers.all (· == id) then none else some { x with takers := x.takers.filter (· != id) })
    else some x) } }
  s.showHaloUp

/-- A layer is released: bodies of it that no stripe holds free their slots (R505). -/
def State.haloLayer (s : State) (layer : Nat) : State :=
  let s := { s with kor := { s.kor with slots := s.kor.slots.filter (fun (x : HaloSlot) =>
    !(x.accepted && x.takers.isEmpty && x.layer == layer)) } }
  s.showHaloUp

/-- A stripe's side matches a body: set to RING, from its source, at its edge (R504). -/
def State.sideMatch (s : State) (x : Stripe) (src side : Nat) (b : List Byte) : Bool :=
  let hi := side == 0
  x.b (if hi then F.CMP_HALO_CTL_MODE_YHI else F.CMP_HALO_CTL_MODE_YLO) == 2
    && x.b (if hi then F.CMP_HALO_CTL_DEV_YHI else F.CMP_HALO_CTL_DEV_YLO) == src
    && (match s.lay x with
      | some l => match l.v.start with
        | some st =>
          let hs := (st.place x).2
          if hi then hs + s.scan.side == leSAt b 24 4 else hs == leSAt b 28 4
        | none => false
      | none => false)

/-- Offer an accepted body to the open stripes of its layer (R164, R504). -/
def State.haloOffer (s : State) (r : HaloSlot) : State :=
  let a := s.slotAddr r.slot
  let side := leAt r.head 6 1
  let ms := s.asy.queue.filter (fun x => x.layer == r.layer && s.sideMatch x r.src side r.head)
  let hi := side == 0
  match ms with
  | [] => s
  | _ :: _ =>
    match ms.find? (fun x => !x.sideDone hi) with
    | none => (s.inc F.CMP_HALO_REJECT_DUP).freeSlot r.slot
    | some x =>
      let ok := match s.lay x with
        | some l => match l.v.start with
          | some st => s.covers st x hi r.head
          | none => false
        | none => false
      if ok then
        let c := if hi then { x.comp with yhi := some a, yhiOk := true } else { x.comp with ylo := some a, yloOk := true }
        (s.setStripe { x with comp := c }).putSlot { r with takers := r.takers ++ [x.id] }
      else ((s.inc F.CMP_HALO_REJECT_SPAN).raise 0x24 0 0).freeSlot r.slot

/-- Offer every accepted body that no stripe has taken (R504). -/
def State.haloOfferAll (s : State) : State :=
  (s.kor.slots.filter (fun r => r.accepted && r.takers.isEmpty)).foldl State.haloOffer s

/-- The bytes of a body meet R500. -/
def bodyOk (b : List Byte) : Bool :=
  let gw := leSAt b 20 4 - leSAt b 16 4
  let cw := leSAt b 36 4 - leSAt b 32 4
  let ch := leSAt b 44 4 - leSAt b 40 4
  leAt b 0 4 == 0x4F4C4148 && leAt b 4 2 == 1 && decide (leAt b 6 1 < 2) && leAt b 7 1 == 0 && leAt b 52 4 == 0
    && leSAt b 28 4 - leSAt b 24 4 == 7 && decide (0 < gw) && decide (0 < cw) && decide (0 < ch)
    && (leAt b 48 4 : Int) == 64 + 7 * gw + 4 * cw * ch && b.length == leAt b 48 4
    && leAt b 56 8 == crc64 (b.take 56 ++ b.drop 64)

/-- Acknowledge to a source. -/
def State.haloReply (s : State) (src : Nat) (done refused : Bool) (id next : Nat) : State :=
  s.ringUni src (.haloAck done refused id next)

/-- Blocks held without a gap from block 0. -/
def HaloSlot.next (r : HaloSlot) : Nat := ((List.range r.nblk).find? (fun i => !r.have_.contains i)).getD r.nblk

/-- A body whose blocks are all held is read and checked (R503, R257): a read that comes back poisoned fails it.  While the
controller accepts no read (R263) nothing is answered, and the sender's next block asks again (DESIGN CHOICE, log entry 63). -/
def State.haloCheck (s : State) (r : HaloSlot) : State :=
  if !s.memUp then s.putSlot r
  else
    match s.rdOr 2 (s.slotAddr r.slot) (haloBlock * (r.nblk - 1) + r.lastLen) with
    | (none, s) => (s.freeSlot r.slot).haloReply r.src false false r.id 0
    | (some b, s) =>
      if bodyOk b then
        let r := { r with accepted := true, head := b.take 64 }
        let s := s.putSlot r
        let s := { s with kor := { s.kor with haloDone := s.kor.haloDone ++ [(r.src, r.id)] } }
        (s.haloReply r.src true false r.id r.nblk).haloOffer r
      else (s.freeSlot r.slot).haloReply r.src false false r.id 0

/-- A block is stored in its slot (R501, R503). -/
def State.haloStore (s : State) (r : HaloSlot) (block : Nat) (data : List Byte) : State :=
  if r.nblk ≤ block ∨ haloSlotSize < haloBlock * block + data.length then s
  else
    let was := r.next
    let s := s.wr 0 (s.slotAddr r.slot + haloBlock * block) data
    let r := { r with have_ := if r.have_.contains block then r.have_ else r.have_ ++ [block]
                      lastLen := if block + 1 = r.nblk then data.length else r.lastLen }
    let now := r.next
    if now = r.nblk then s.haloCheck r
    else
      let s := s.putSlot r
      if was / 16 < now / 16 then s.haloReply r.src false false r.id now else s

/-- HALO_DATA (R501, R503). -/
def execHaloData (t : Nat) (h : RingHdr) (id block nblk : Nat) (data : List Byte) (s : State) :
    Host.Outcome State Fault Refusal :=
  let s := s.at t
  let (used, s) := s.ringRx h ⟨false, false, false⟩ (.haloData id block nblk data)
  let src := h.src.val
  .next (if !used then s
    else if s.kor.haloDone.contains (src, id) then s.haloReply src true false id nblk
    else
      match s.kor.slots.find? (fun r => r.src == src && r.id == id && !r.accepted) with
      | some r => s.haloStore r block data
      | none =>
        match (List.range s.haloSlots).find? (fun i => !s.kor.slots.any (fun r => r.slot == i)) with
        | none => ((s.set F.KOR_HALO_STAT_NOSLOT 1).raise 0x6A 0 0).haloReply src false true id 0
        | some i =>
          let r : HaloSlot := ⟨i, src, id, nblk, [], 0, false, [], []⟩
          (({ s with kor := { s.kor with slots := s.kor.slots ++ [r] } }).showHalo).haloStore r block data)

/-! ## The body a stripe sends (R163, R500) -/

/-- The body of a side; none where a dose it holds is not known.  Its partial sums are those of whole cells: the cells that the
columns x_first - 2,176..x_last + 2,176 meet, over every column of each (DESIGN CHOICE, log entry 111). -/
def Work.haloBody (w : Work) (hi : Bool) : Option (List Byte) :=
  let win := w.s.winOf w.x
  let fy : Int := w.s.scan.side
  let p := w.st.pix w.x (win.1 - 7) 0
  let q := w.st.pix w.x (win.2 + 7) 0
  let x0 := min p.1 q.1
  let x1 := max p.1 q.1 + 1
  let y0 := if hi then p.2 + fy - 7 else p.2
  let doses := (rangeI x0 (x1 - 1)).flatMap (fun gx => (List.range 7).map (fun (j : Nat) => w.dose gx (y0 + (j : Int))))
  let a := w.st.pix w.x (win.1 - 2176) 0
  let b := w.st.pix w.x (win.2 + 2176) 0
  let c0 := floorDiv (min a.1 b.1) 64
  let c1 := floorDiv (max a.1 b.1) 64
  let d0 := floorDiv p.2 64
  let d1 := floorDiv (p.2 + fy - 1) 64
  let own (cx cy : Int) : Option Int :=
    sumO ((List.range 4096).map (fun (i : Nat) =>
      let gx := 64 * cx + (i % 64 : Nat)
      let gy := 64 * cy + (i / 64 : Nat)
      if p.2 ≤ gy ∧ gy < p.2 + fy then (w.dose gx gy).map (fun d => (d : Int)) else some 0))
  let sums := (rangeI c0 c1).flatMap (fun cx => (rangeI d0 d1).map (fun cy => own cx cy))
  match doses.mapM id, sums.mapM id with
  | some ds, some ss =>
    let len := 64 + 7 * (x1 - x0).toNat + 4 * ((c1 - c0 + 1).toNat * (d1 - d0 + 1).toNat)
    let i4 (v : Int) : List Byte := leBytes 4 (tc 32 v)
    let h := leBytes 4 0x4F4C4148 ++ leBytes 2 1 ++ leBytes 1 (b2n hi) ++ zeros 1 ++ leBytes 8 w.x.id
      ++ i4 x0 ++ i4 x1 ++ i4 y0 ++ i4 (y0 + 7) ++ i4 c0 ++ i4 (c1 + 1) ++ i4 d0 ++ i4 (d1 + 1) ++ leBytes 4 len ++ zeros 4
    let rest := ds.map (BitVec.ofNat 8) ++ (ss.map (fun v => leBytes 4 v.toNat)).flatten
    some (h ++ leBytes 8 (crc64 (h ++ rest)) ++ rest)
  | _, _ => none

end Sys2Proof.Machine
end

