-- ==== Sys2Proof/Machine/Copy.lean ====
section
/-! DEFINITION. The Copy buffer (R106, R113 to R117, R123 to R126): segments accepted, layers and takes rejected, what open
stripes need, and releases. -/

namespace Sys2Proof.Machine
open Sys2Proof

/-! ## Segments -/

/-- Insert a segment by rising SEQ. -/
def segIns (g : CSeg) : List CSeg → List CSeg
  | [] => [g]
  | x :: r => if g.seq < x.seq then g :: x :: r else x :: segIns g r

/-- A segment enters the Copy buffer and the segment table; a new layer becomes the newest (R106, R107). -/
def State.addSeg (s : State) (layer : Nat) (g : CSeg) : State :=
  match s.layerOf layer with
  | some c => s.putLayer { c with segs := segIns { g with ord := c.count } c.segs, count := c.count + 1 }
  | none =>
    { s with copy := { s.copy with
        layers := s.copy.layers ++ [⟨layer, [{ g with ord := 0 }], false, [], [], false, [], 1⟩] } }

/-- The segment table's entry of (LAYER, SEQ). -/
def State.segOf (s : State) (layer seq : Nat) : Option CSeg :=
  (s.layerOf layer).bind (fun c => c.segs.find? (fun g => g.seq == seq))

/-- The layer's END has been accepted, and its SEG_COUNT (R106).  An END accepted before LAYER_START closes the layer once
LAYER_START is in, as only then its SEQ is known to be SEG_COUNT - 1 (DESIGN CHOICE, log entry 53). -/
def State.closedAt (s : State) (layer : Nat) : Option Nat :=
  match s.layerOf layer with
  | none => none
  | some c =>
    match (s.viewOf c).start with
    | none => none
    | some st => if c.segs.any (fun g => g.seq + 1 == st.segs && g.layerSeg) then some st.segs else none

/-! ## What an open stripe needs (R117, R160, R166) -/

/-- Two half-open boxes share a pixel. -/
def Box.meets (a b : Box) : Bool :=
  decide (max a.xlo b.xlo < min a.xhi b.xhi ∧ max a.ylo b.ylo < min a.yhi b.yhi)

/-- The common part of two boxes. -/
def Box.cut (a b : Box) : Box := ⟨max a.xlo b.xlo, max a.ylo b.ylo, min a.xhi b.xhi, min a.yhi b.yhi⟩

/-- The pixels of a box. -/
def Box.pixels (b : Box) : List (Int × Int) :=
  (rangeI b.xlo (b.xhi - 1)).flatMap (fun x => (rangeI b.ylo (b.yhi - 1)).map (fun y => (x, y)))

/-- The rasterised window as a box of stripe pixels. -/
def State.winBox (s : State) (x : Stripe) : Box :=
  let w := s.winOf x
  ⟨w.1, 0, w.2 + 1, s.scan.side⟩

/-- A box of layer pixels in stripe pixels. -/
def LStart.toStripe (st : LStart) (x : Stripe) (b : Box) : Box :=
  let p := st.unpix x b.xlo b.ylo
  let q := st.unpix x (b.xhi - 1) (b.yhi - 1)
  ⟨min p.1 q.1, min p.2 q.2, max p.1 q.1 + 1, max p.2 q.2 + 1⟩

/-- The LOCAL halo of a stripe as boxes of stripe pixels (R160, R161). -/
def State.localHalo (s : State) (st : LStart) (x : Stripe) : List Box :=
  let w := s.winBox x
  let hx : Int := if x.b F.CMP_SR_CTL_EN = 0 then 0 else x.b F.CMP_SR_CTL_HX
  let hy : Int := if x.b F.CMP_SR_CTL_EN = 0 then 0 else x.b F.CMP_SR_CTL_HY
  let c := s.cellSpan st x x.reach
  let outer : List Box := ⟨w.xlo - hx, w.ylo - hy, w.xhi + hx, w.yhi + hy⟩
    :: (if x.b F.CMP_LR_CTL_EN = 0 then []
        else [st.toStripe x ⟨64 * c.xlo, 64 * c.ylo, 64 * c.xhi + 64, 64 * c.yhi + 64⟩])
  outer.flatMap (fun o =>
    (if x.b F.CMP_HALO_CTL_MODE_YLO = 1 then [o.cut ⟨o.xlo, o.ylo, o.xhi, 0⟩] else [])
    ++ (if x.b F.CMP_HALO_CTL_MODE_YHI = 1 then [o.cut ⟨o.xlo, w.yhi, o.xhi, o.yhi⟩] else [])
    ++ (if x.b F.CMP_HALO_CTL_MODE_X = 0 then []
        else [o.cut ⟨o.xlo, 0, w.xlo, w.yhi⟩, o.cut ⟨w.xhi, 0, o.xhi, w.yhi⟩]))

/-- A stripe needs a take (R117). -/
def State.needs (s : State) (st : LStart) (x : Stripe) (h : Hint) : Bool :=
  let t := st.toStripe x ⟨h.x0, h.y0, h.x1, h.y1⟩
  t.meets (s.winBox x) || (s.localHalo st x).any t.meets

/-- An open stripe needs a take of a layer.  Where LAYER_START or the take's hint is not held, as after an erased key (R112) or a
poisoned read (R258), its rectangle is not known, and every open stripe of the layer counts as needing it (DESIGN CHOICE, log
entry 53). -/
def State.takeNeeded (s : State) (c : CLayer) (k : Nat) : Bool :=
  let v := s.viewOf c
  s.asy.queue.any (fun x => x.layer == c.layer && (match v.start, v.hints.find? (fun h => h.take == k) with
    | some st, some h => s.needs st x h
    | _, _ => true))

/-! ## Releases (R117, R126) -/

/-- A take of a layer leaves the Copy buffer with its segment table entries. -/
def CLayer.dropTake (c : CLayer) (v : LView) (k : Nat) : CLayer :=
  { c with segs := c.segs.filter (fun g => g.layerSeg || g.take != k)
           rejTakes := c.rejTakes.filter (· != k)
           relTakes := c.relTakes.filter (· != k)
           past := match v.hints.find? (fun h => h.take == k) with
             | some h => c.past.filter (fun p => p.take != k) ++ [h.past]
             | none => c.past }

/-- Releases that wait take effect where no open stripe needs the take. -/
def State.takeEffect (s : State) : State :=
  match s.copy.layers.head? with
  | none => s
  | some c =>
    let go := c.relTakes.filter (fun k => !s.takeNeeded c k)
    let v := s.viewOf c
    (s.putLayer (go.foldl (fun (c : CLayer) k => c.dropTake v k) c)).showCopy

/-- A write to CMP_TAKE_RELEASE (R117, R126). -/
def State.takeRelease (s : State) (k : Nat) : State :=
  match s.copy.layers.head? with
  | none => s
  | some c => (s.putLayer { c with relTakes := if c.relTakes.contains k then c.relTakes else c.relTakes ++ [k] }).takeEffect

/-- TAKE_RELEASE. -/
def execTakeRelease (m : Fin 9) (v : BitVec 32) (s : State) : Host.Outcome State Fault Refusal :=
  .next (s.regOp m F.CMP_TAKE_RELEASE.off (fun s => s.takeRelease v.toNat))

/-- TAKE_RELEASE_EFFECT. -/
def execTakeReleaseEffect (t : Nat) (s : State) : Host.Outcome State Fault Refusal :=
  let s := s.at t
  .next (if s.domUp .comp then s.takeEffect else s)

/-- The older layer's release takes effect once no open stripe refers to it (R126); the newer layer becomes the older. -/
def State.layerEffect (s : State) : State :=
  match s.copy.layers with
  | [] => s
  | c :: r =>
    if c.relLayer && !s.asy.queue.any (fun x => x.layer == c.layer) then
      (({ s with copy := { s.copy with layers := r } }).haloLayer c.layer).showCopy
    else s

/-- A write of 1 to CMP_LAYER_RELEASE. -/
def State.layerRelease (s : State) : State :=
  match s.copy.layers with
  | [] => s
  | c :: _ => (s.putLayer { c with relLayer := true }).layerEffect

/-- LAYER_RELEASE. -/
def execLayerRelease (m : Fin 9) (s : State) : Host.Outcome State Fault Refusal :=
  .next (s.regOp m F.CMP_LAYER_RELEASE.off State.layerRelease)

/-- LAYER_RELEASE_EFFECT. -/
def execLayerReleaseEffect (t : Nat) (s : State) : Host.Outcome State Fault Refusal :=
  let s := s.at t
  .next (if s.domUp .comp then s.layerEffect else s)

end Sys2Proof.Machine
end

