-- ==== Sys2Proof/Machine/Compositor.lean ====
section
/-! DEFINITION. The Compositor's commands (R147 to R152, R163 to R183, R214 to R219, R248 to R254, R433, R434): the pre-pass,
tiles, publishing, the preview's counts and list, the rebuild, and the tap. -/

namespace Sys2Proof.Machine
open Sys2Proof

/-- A stripe's composition with its layer, once LAYER_START is read. -/
def State.work (s : State) (x : Stripe) : Option Work :=
  (s.lay x).bind (fun l => l.v.start.map (fun st => ⟨s, x, l, st⟩))

/-! ## Epoch images (R433, R434) -/

/-- The bytes of an image are those of a configuration epoch and pass their check. -/
def imgOk (addr cfg : Nat) (b : List Byte) : Bool :=
  leAt b 0 4 == 0x48435045 && leAt b 4 2 == 1 && leAt b 6 2 == 0 && leAt b 8 8 == cfg
    && ((b.drop 32).take 28).all (· == 0) && leAt b 60 4 == crc32c (leBytes 8 addr ++ b.take 60 ++ b.drop 64)

/-- The image of an epoch is intact: Assay's read of it would be delivered clean and passes its check. -/
def State.imgIntact (s : State) (slot cfg : Nat) : Bool :=
  let a := s.imgAddr slot
  s.readsClean 4 a (2 ^ 20) && imgOk a cfg (s.rd a (2 ^ 20))

/-- Assay reads an image: a poisoned unit is counted and raised (R257). -/
def State.imgRead (s : State) (slot : Nat) : State := if s.memUp then (s.rdOr 4 (s.imgAddr slot) (2 ^ 20)).2 else s

/-! ## The pre-pass (R162, R163) -/

/-- Every pixel of the window and of the LOCAL halo is known. -/
def Work.allKnown (w : Work) : Bool :=
  (w.s.winBox w.x :: w.s.localHalo w.st w.x).all (fun b => b.pixels.all (fun p =>
    let g := w.st.pix w.x p.1 p.2
    (w.l.dose g.1 g.2).isSome))

/-- Takes the stripe reads whose hint names another stripe number or direction (R96). -/
def Work.hintMisses (w : Work) : Nat :=
  (w.l.v.hints.filter (fun h => w.s.needs w.st w.x h && (h.stripe != w.x.id % 2 ^ 16 || h.dir != w.x.dir))).length

/-- The cells whose coarse sums a stripe's composition reads (R158, R160). -/
def Work.sumCells (w : Work) : List (Int × Int) :=
  if w.b F.CMP_LR_CTL_EN = 0 then []
  else
    let c := w.s.cellSpan w.st w.x w.x.reach
    (rangeI c.xlo c.xhi).flatMap (fun i => (rangeI c.ylo c.yhi).map (fun j => (i, j)))

/-- The coarse sums that the pre-pass stores in the tables and records (R163); the spec gives them no address there (log entry
56). -/
def Work.sums (w : Work) : Option (List (Int × Int × Nat)) :=
  w.sumCells.mapM (fun c => (w.ownSum c.1 c.2).map (fun v => (c.1, c.2, v.toNat)))

/-- The halo bodies of the RING sides are known (R163, R500). -/
def Work.bodiesKnown (w : Work) : Bool := [false, true].all (fun hi => !w.ring hi || (w.haloBody hi).isSome)

/-- Send the halos of the RING sides still owed whose doses are known by now (R163, R500); they wait for PD_RING. -/
def State.sendOwed (s : State) (w : Work) : State :=
  let r := w.x.comp.owes.foldl (fun (a : List Bool × State) hi =>
    match (if s.domUp .ring then w.haloBody hi else none) with
    | some b => (a.1, a.2.haloSend hi (w.b (if hi then F.CMP_HALO_CTL_DEV_YHI else F.CMP_HALO_CTL_DEV_YLO)) w.x.id b)
    | none => (a.1 ++ [hi], a.2)) ([], s)
  if r.1 = w.x.comp.owes then r.2 else r.2.setStripe { w.x with comp := { w.x.comp with owes := r.1 } }

/-- The halos still owed by the stripes of the open queue, the oldest first. -/
def State.sendAll (s : State) : State :=
  (s.asy.queue.filter (fun x => !x.comp.owes.isEmpty)).foldl (fun s x =>
    match s.work x with
    | some w => s.sendOwed w
    | none => s) s

/-- The pre-pass of a stripe is complete (R163, R190). -/
def State.prepassDone (s : State) (w : Work) (sums : List (Int × Int × Nat)) : State :=
  let x := w.x
  let ok (hi : Bool) (was : Bool) : Bool := was || !w.ring hi || x.yEmpty
  let x : Stripe := { x with comp := { x.comp with prepass := true, yloOk := ok false x.comp.yloOk, yhiOk := ok true x.comp.yhiOk
                                                   sums := sums, owes := [false, true].filter w.ring } }
  ((s.addN F.CMP_LUETH_HINT w.hintMisses).setStripe x).sendOwed { w with x := x }

/-- PREPASS_COMPLETE (R163): of the oldest open stripe whose pre-pass is not complete; a later stripe's waits for it (DESIGN
CHOICE, log entry 111).  It is complete with every dose that it rasterises and every dose of the bodies that it then sends; a
halo still owed is sent first. -/
def execPrepassComplete (t : Nat) (s : State) : Host.Outcome State Fault Refusal :=
  let s := s.at t
  .next (if s.domUp .comp && s.memUp then
      let s := s.sendAll
      match (s.asy.queue.find? (fun x => !x.comp.prepass)).bind s.work with
      | some w =>
        match (if w.allKnown && w.bodiesKnown then w.sums else none) with
        | some l => s.prepassDone w l
        | none => s
      | none => s
    else s)

/-- The state of the preview before the next cycle stands: nothing came before it, or the rebuild is complete (R177). -/
def Stripe.previewReady (x : Stripe) : Bool := x.comp.rebuilt || x.comp.nextCycle == x.firstCycle

/-- PREVIEW_REBUILD_DONE (R177). -/
def execPreviewRebuildDone (t : Nat) (s : State) : Host.Outcome State Fault Refusal :=
  let s := s.at t
  .next (if s.domUp .comp && s.memUp then
      match s.composing.bind s.work with
      | some w =>
        match w.upTo (w.x.comp.nextCycle * s.cyc) with
        | some ps => s.setStripe { w.x with comp := { w.x.comp with rebuilt := true, hist := (ps.take 1023).map (fun p => p.out) } }
        | none => s
      | none => s
    else s)

/-! ## The counts and the list of the preview (R178, R179, R192, R193) -/

/-- Set a bit of CMP_DPV_STAT and its vector. -/
def State.dpvStat (s : State) (f : Fld) : State := (s.set f 1).irq 19

/-- The entries of a previewed shot: shot, row, column, cause, value. -/
def State.dpvEntries (s : State) (n : Nat) (p : Prev) : List (List Byte) :=
  let e (r c cause v : Nat) : List Byte :=
    leBytes 8 n ++ leBytes 2 r ++ leBytes 2 c ++ leBytes 1 cause ++ leBytes 1 v ++ zeros 2
  if p.whole ≠ 0 then [e 0xFFFF 0xFFFF p.whole 0]
  else
    let bs := p.marks.foldl (fun l m => let b := s.beamOf m.1; beamIns ⟨n, .beam, b.1, b.2, m.2.1, m.2.2⟩ l) []
    bs.map (fun d => e d.row d.col d.cause d.value)

/-- Write one entry of the list; OVF is set, once, by the first entry that finds the list full (DESIGN CHOICE, log entry 57). -/
def State.dpvEntry (s : State) (c : CompSt) (b : List Byte) : CompSt × State :=
  match c.list with
  | none => (c, s)
  | some (base, size) =>
    if c.listOvf then (c, s)
    else if size ≤ c.dpvWr then ({ c with listOvf := true }, (s.dpvStat F.CMP_DPV_STAT_OVF).raise 0x25 0 0)
    else ({ c with dpvWr := c.dpvWr + 1 }, s.wr 2 (base + 16 * c.dpvWr) b)

/-- One shot passes the preview for the first time.  DONE is set as the last shot passes so: a later composition of that shot
sets it no more (DESIGN CHOICE, log entry 57). -/
def State.dpvShot (s : State) (c : CompSt) (n last : Nat) (p : Prev) : CompSt × State :=
  let r := (s.dpvEntries n p).foldl (fun (a : CompSt × State) b => a.2.dpvEntry a.1 b) (c, s)
  let c : CompSt := { r.1 with dpvNext := n + 1
                               dpvBeam := r.1.dpvBeam + (if p.whole = 0 then p.marks.length else 0)
                               dpvShot := r.1.dpvShot + b2n (p.whole != 0) }
  (c, if n = last then r.2.dpvStat F.CMP_DPV_STAT_DONE else r.2)

/-- Cycle k passes equalisation and the preview: what has not been counted before is counted (R170, R179). -/
def State.passCycle (s : State) (w : Work) (k : Nat) (ps : List Prev) : State :=
  let x := w.x
  let c := s.cyc
  let comp : CompSt := if x.comp.eqNext ≤ k then { x.comp with eqSat := x.comp.eqSat + w.satOf k, eqNext := k + 1 } else x.comp
  let r := (List.range c).foldl (fun (a : CompSt × State) i =>
    let n := k * c + i
    if a.1.dpvNext ≤ n then
      match ps[c - 1 - i]? with
      | some p => a.2.dpvShot a.1 n (x.lastShot c) p
      | none => a
    else a) (comp, s)
  r.2.setStripe { x with comp := r.1 }

/-! ## Tiles (R217 to R219, R248 to R250) -/

/-- The size of a lane ring. -/
def State.ringSize (s : State) : Nat := s.get F.MEM_PART_GALLEY * 2 ^ 30 / 32

/-- The offset at which the next tile of a lane starts (R249). -/
def State.tileStart (s : State) (l len : Nat) : Nat :=
  let p := s.mem.wptr.get l 0
  if p + len ≤ s.ringSize then p else 0

/-- The space of a tile holds no tile of a cycle not yet released (R250). -/
def State.spaceFree (s : State) (l addr len : Nat) : Bool :=
  !s.mem.tiles.any (fun t => t.lane == l && decide (t.addr < addr + len ∧ addr < t.addr + t.len))

/-- Composition of a stripe is held at its cycle. -/
def State.holdComp (s : State) (x : Stripe) : State := s.setStripe { x with comp := { x.comp with held := true } }

/-- The leaves of a cycle for a lane, and the leaf before them (R173, R211). -/
def cycleLeaves (ps : List Prev) (c l : Nat) : List Leaf := ((ps.take c).map (fun p => p.leaf l)).reverse
/-- The values of a lane in the last shot before the next cycle (R173, R211): none before the stripe's first cycle. -/
def Stripe.prevLeaf (x : Stripe) (l : Nat) : Option (Array Nat) := x.comp.hist.head?.map (fun v => laneArr v l)

/-- The tile of a lane in token form or RAW (R217): whether RAW, and its leaves. -/
def tileForm (level stripe l shot : Nat) (prev : Option (Array Nat)) (ls : List Leaf) : Bool × List (List Byte) :=
  let tok := encodeLeaves false level stripe l shot prev ls
  let raw := encodeLeaves true level stripe l shot prev ls
  if tileLen raw ≤ tileLen tok then (true, raw) else (false, tok)

/-- A form of a tile that the back end has built: whether RAW, its place in the ring, its bytes, and what they stand for. -/
structure Form where
  raw : Bool
  lane : Nat
  start : Nat
  bytes : List Byte
  leaves : List Leaf

/-- The address of a form (R248). -/
def State.formAddr (s : State) (f : Form) : Nat := s.copyTop + f.lane * s.ringSize + f.start

/-- A form of lane l's tile of cycle k at an offset of its ring (R200, R217). -/
def State.mkForm (s : State) (x : Stripe) (k l start : Nat) (raw : Bool) (ls : List Leaf) : Form :=
  let level := x.b F.CMP_QUIRE_CTL_LEVEL
  ⟨raw, l, start, tileOf raw level x.low k l (s.copyTop + l * s.ringSize + start)
    (encodeLeaves raw level x.low l (k * s.cyc) (x.prevLeaf l) ls), ls⟩

/-- The bytes as stored by the first write of a tile or by its rewrite: with those changed that the faults name. -/
def Form.stored (f : Form) (again : Bool) (faults : List TileFault) : List Byte :=
  (faults.filter (fun e => e.raw == again)).foldl (fun b e => b.set e.off (b.getD e.off 0 ^^^ e.mask)) f.bytes

/-- A back end writes a form, reads it back and decodes it (R218, R258): it is good where no read comes back poisoned, every
check passes and the values, WHOLE and marks are those of its input. -/
def State.verify (s : State) (x : Stripe) (k : Nat) (f : Form) (again : Bool) (faults : List TileFault) : Bool × State :=
  let a := s.formAddr f
  let n := f.bytes.length
  if (s.hurtIn 2 a n).isSome then (false, (s.wr 2 a (f.stored again faults)).taken 2 a n)
  else
    match (s.wr 2 a (f.stored again faults)).rdOr 2 a n with
    | (none, s) => (false, s)
    | (some b, s) => (decodeTile ⟨x.low, k, f.lane, s.cyc, a, n⟩ b (x.prevLeaf f.lane) == some f.leaves, s)

/-- A verification failure (R219). -/
def State.verifyFail (s : State) : State :=
  ((s.inc F.CMP_QUIRE_VFAIL).set F.CMP_QUIRE_STAT_VFAIL 1).raise 0x26 0 0

/-- A verified tile counts toward its cycle (R218, R249). -/
def State.tileDone (s : State) (x : Stripe) (k : Nat) (f : Form) : State :=
  let t : Tile := ⟨x.id, k, f.lane, s.formAddr f, f.bytes.length⟩
  let s := { s with mem := { s.mem with wptr := s.mem.wptr.put f.lane (f.start + f.bytes.length), tiles := s.mem.tiles ++ [t] } }
  let s := if f.raw then s.inc F.CMP_QUIRE_RAW else s
  s.setStripe { x with comp := { x.comp with tilesOf := x.comp.tilesOf.put f.lane t, rewrite := none } }

/-- Composition waits for space; the cycle is counted as delayed once (R250). -/
def State.stall (s : State) (x : Stripe) : State :=
  if x.comp.stalled then s.setStripe x
  else ((s.inc F.MEM_GAL_STALL).raise 0x37 0 0).setStripe { x with comp := { x.comp with stalled := true } }

/-- The tile is written RAW at the same address after its first form has failed (R219).  It waits like any tile where that space
is not free (R250); a RAW form that would pass the end of its ring counts as failed (DESIGN CHOICE, log entry 59). -/
def State.tileRaw (s : State) (x : Stripe) (k l start : Nat) (ls : List Leaf) (faults : List TileFault) : State :=
  let f := s.mkForm x k l start true ls
  let unpub (s : State) : State := ((s.verifyFail).set F.CMP_QUIRE_STAT_UNPUB 1).holdComp { x with comp := { x.comp with rewrite := none } }
  if s.ringSize < start + f.bytes.length then unpub s
  else if !s.spaceFree l (s.formAddr f) f.bytes.length then s.stall { x with comp := { x.comp with rewrite := some l } }
  else
    match s.verify x k f true faults with
    | (true, s) => s.tileDone x k f
    | (false, s) => unpub (s.inc F.CMP_QUIRE_RAW)

/-- A back end writes and verifies the tile of a lane for cycle k (R217 to R219, R249, R250). -/
def State.tileWrite (s : State) (x : Stripe) (k l : Nat) (ls : List Leaf) (faults : List TileFault) : State :=
  let level := x.b F.CMP_QUIRE_CTL_LEVEL
  let form := tileForm level x.low l (k * s.cyc) (x.prevLeaf l) ls
  let start := s.tileStart l (tileLen form.2)
  let f := s.mkForm x k l start form.1 ls
  if x.comp.rewrite = some l then s.tileRaw x k l start ls faults
  else if !s.spaceFree l (s.formAddr f) f.bytes.length then s.stall x
  else
    match s.verify x k f false faults with
    | (true, s) => s.tileDone x k f
    | (false, s) => s.verifyFail.tileRaw x k l start ls faults

/-- The stripe may be composed (R165, R177, R182). -/
def Stripe.mayCompose (x : Stripe) : Bool :=
  x.comp.prepass && x.sideDone false && x.sideDone true && !x.comp.held && x.previewReady

/-- The lane whose tile the Compositor produces next (R173). -/
def State.nextLane (s : State) (x : Stripe) : Option Nat :=
  (s.laneOrder x.dir).find? (fun l => (x.comp.tilesOf.lookup l).isNone)

/-- An access of the Chase or of a stick buffer: whether a read of it is uncorrectable, and the state after it.  The part writes
and reads the Chase within the window of its pair (M, P) (R49), which lies at bytes 0..window - 1: the spec gives its size only
(DESIGN CHOICE, log entry 110). -/
def State.compAcc (s : State) (p : Fin 2 × SramAcc) : Bool × State :=
  s.sramAcc p.1.val (s.arrLimit p.1.val) p.2

/-- The accesses of a composition in order: whether any read of them is uncorrectable (R275). -/
def State.compAccs (s : State) (l : List (Fin 2 × SramAcc)) : Bool × State :=
  l.foldl (fun (a : Bool × State) p => let r := a.2.compAcc p; (a.1 || r.1, r.2)) (false, s)

/-- A read of a halo body that the composition needs comes poisoned (R258): both sides' reads are then taken. -/
def State.bodyReads (s : State) (x : Stripe) : Bool × State :=
  (x.comp.ylo.toList ++ x.comp.yhi.toList).foldl (fun (a : Bool × State) b =>
    if a.2.bodyHurt b then (true, a.2.taken 2 b (2 ^ 25)) else a) (false, s)

/-- TILE_COMPOSE (R249) of the lane whose turn it is: accs are the accesses of the Chase and of the stick buffers that its
values take, faults what its writing or reading back changes. -/
def State.tileCompose (s : State) (w : Work) (l : Nat) (faults : List TileFault) (accs : List (Fin 2 × SramAcc)) : State :=
  let x := w.x
  let k := x.comp.nextCycle
  if s.nextLane x != some l || !x.mayCompose then s
  else
    match s.rdOr 2 (s.imgAddr x.comp.gainSlot) (2 ^ 20) with
    | (none, s) => s.holdComp x
    | (some b, s) =>
      if !imgOk (s.imgAddr x.comp.gainSlot) x.cfgEpoch b then (s.raise 0x0C 0 0).holdComp x
      else if !w.gainsOk k then (s.raise 0x23 0 0).holdComp x
      else
        match s.bodyReads x with
        | (true, s) => s.holdComp x
        | (false, s) =>
          match s.compAccs accs with
          | (true, s) => s.holdComp x
          | (false, s) =>
            match w.cycle with
            | none => s
            | some ps =>
              let s := s.passCycle w k ps
              match s.composing with
              | some x => s.tileWrite { x with comp := { x.comp with outs := ps.map (fun p => p.out) } } k l (cycleLeaves ps s.cyc l) faults
              | none => s

/-- TILE_COMPOSE. -/
def execTileCompose (t : Nat) (lane : Fin 32) (faults : List TileFault) (accs : List (Fin 2 × SramAcc)) (s : State) :
    Host.Outcome State Fault Refusal :=
  let s := s.at t
  .next (if s.domUp .comp && s.memUp then
      match s.composing.bind s.work with
      | some w => s.tileCompose w lane faults accs
      | none => s
    else s)

/-! ## Publishing and the layout digest (R142, R145, R146, R252 to R254) -/

/-- Columns of a stripe are folded into its digest up to one: their doses ds, and n instance and tile pairs (R142, R145,
R146). -/
def State.foldCols (s : State) (x : Stripe) (ds : List Byte) (n : Nat) (upTo_ : Int) : State :=
  let c := x.comp
  let done := !c.ldigDone && decide ((s.digWin x).2 < upTo_ + 1)
  let c : CompSt := { c with nextCol := upTo_ + 1, ldig := crc64From c.ldig ds, inst := (c.inst + n) % 2 ^ 64
                             pix := c.pix + ds.length, ldigDone := c.ldigDone || done }
  let x := { x with comp := c }
  let s := s.setStripe x
  let s := if s.domUp .comp && s.composing.isNone then s.showStripe x else s
  if done && s.domUp .comp then
    (s.set F.CMP_LDIG_LAST c.ldig).set F.CMP_LDIG_COUNT ((s.get F.CMP_LDIG_COUNT + 1) % 2 ^ 32)
  else s

/-- The instance and tile pairs of the columns from the next one to fold up to a column. -/
def Work.newPairs (w : Work) (upTo_ : Int) : Nat := w.l.pairs w.st w.x w.s.scan.side w.x.comp.nextCol upTo_

/-- The columns from the next one to fold up to a column; none where a dose is not known. -/
def Work.toFold (w : Work) (upTo_ : Int) : Option (List Byte) :=
  w.l.columns w.st w.x w.s.scan.side w.x.comp.nextCol (upTo_ + 1 - w.x.comp.nextCol).toNat

/-- The directory entry of a publish sequence may be written (R252). -/
def State.entryFree (s : State) (seq : Nat) : Bool :=
  !s.mem.published.any (fun p => p.seq + 2 ^ s.get F.MEM_PART_DIR_LOG2 == seq)

/-- A cycle is published (R254). -/
def State.publish (s : State) (w : Work) (ds : List Byte) (upTo_ : Int) : State :=
  let x := w.x
  let k := x.comp.nextCycle
  let seq := s.get F.MEM_GAL_PUB
  let ts : List Tile := (List.range 32).map (fun l => x.comp.tilesOf.get l (Tile.mk x.id k l 0 0))
  let a := s.dirAddr seq
  let s := s.wr 2 a (dirEntry a x.low k seq (ts.map (fun t => (t.addr, t.len))))
  let s := { s with mem := { s.mem with published := s.mem.published ++ [PubCycle.mk seq x.id k] } }
  let s := s.set F.MEM_GAL_PUB (seq + 1)
  let c : CompSt := { x.comp with
    nextCycle := k + 1, tilesOf := [], stalled := false, rebuilt := true
    hist := (x.comp.outs ++ x.comp.hist).take 1023, outs := []
    quireIn := x.comp.quireIn + 32 * s.cyc * 4096, quireOut := x.comp.quireOut + (ts.map (fun t => t.len)).sum }
  let s := s.foldCols { x with comp := c } ds (w.newPairs upTo_) upTo_
  s.showLead

/-- CYCLE_PUBLISH (R254). -/
def execCyclePublish (t : Nat) (s : State) : Host.Outcome State Fault Refusal :=
  let s := s.at t
  .next (if s.domUp .comp && s.memUp then
      match s.composing.bind s.work with
      | some w =>
        let x := w.x
        let e := max (s.foldEnd x x.comp.nextCycle) (x.comp.nextCol - 1)
        if x.comp.tilesOf.length == 32 && !x.comp.held && s.entryFree (s.get F.MEM_GAL_PUB) then
          match w.toFold e with
          | some ds => s.publish w ds e
          | none => s
        else s
      | none => s
    else s)

/-! ## The tap (R147 to R152) -/

/-- A write of CMP_TAP_CTL.ARM. -/
def State.tapArm (s : State) (v : Bool) : State :=
  if v then s.set F.CMP_TAP_CTL_ARM 1
  else if s.flag F.CMP_TAP_CTL_BUSY then s else s.set F.CMP_TAP_CTL_ARM 0

/-- TAP_ARM. -/
def execTapArm (m : Fin 9) (s : State) : Host.Outcome State Fault Refusal :=
  .next (s.regOp m F.CMP_TAP_CTL_ARM.off (fun s => s.tapArm true))

/-- TAP_DISARM. -/
def execTapDisarm (m : Fin 9) (s : State) : Host.Outcome State Fault Refusal :=
  .next (s.regOp m F.CMP_TAP_CTL_ARM.off (fun s => s.tapArm false))

/-- A stripe is opened while the tap is armed (R149, R150).  A tap that breaks both rules sets RANGE alone, and a SIZE.NX of 65 to
127 is taken as written (DESIGN CHOICE, log entry 61). -/
def State.tapOpen (s : State) (x : Stripe) : State :=
  if !s.domUp .comp || !s.flag F.CMP_TAP_CTL_ARM || s.flag F.CMP_TAP_CTL_BUSY then s
  else
    let nx := s.get F.CMP_TAP_SIZE_NX
    let ny := s.get F.CMP_TAP_SIZE_NY
    let px := s.getS F.CMP_TAP_X
    let py := s.get F.CMP_TAP_Y
    let a := s.get F.CMP_TAP_ADDR
    let w := s.winOf x
    if nx = 0 ∨ ny = 0 ∨ s.scan.side < py + ny ∨ px < w.1 ∨ w.2 < px + (nx : Int) - 1 then
      (s.set F.CMP_TAP_CTL_ARM 0).tapStat F.CMP_TAP_STAT_RANGE
    else if !s.inTables a (upTo 64 (nx * ny)) then (s.set F.CMP_TAP_CTL_ARM 0).tapStat F.CMP_TAP_STAT_ADDR
    else ({ s with copy := { s.copy with tap := some ⟨x.id, px, py, nx, ny, a⟩ } }).set F.CMP_TAP_CTL_BUSY 1

/-- The doses of a tap's window in its byte order. -/
def Work.tapBytes (w : Work) (r : TapRun) : Option (List Byte) :=
  ((List.range (r.nx * r.ny)).mapM (fun (i : Nat) =>
    let g := w.st.pix w.x (r.x + (i / r.ny : Nat)) (r.y + i % r.ny : Nat)
    (w.l.dose g.1 g.2).map (BitVec.ofNat 8)))

/-- TAP_DONE (R151): the window's doses are written and CMP_TAP_CRC holds their CRC-64. -/
def execTapDone (t : Nat) (s : State) : Host.Outcome State Fault Refusal :=
  let s := s.at t
  .next (if s.domUp .comp && s.memUp then
      match s.copy.tap with
      | none => s
      | some r =>
        match ((s.asy.queue.find? (fun x => x.id == r.stripe)).bind s.work).bind (fun w => w.tapBytes r) with
        | none => s
        | some b =>
          let s := s.wr 2 r.addr (padTo (upTo 64 b.length) b)
          let s := ({ s with copy := { s.copy with tap := none } }).set F.CMP_TAP_CRC (crc64 b)
          ((s.set F.CMP_TAP_CTL_ARM 0).set F.CMP_TAP_CTL_BUSY 0).tapStat F.CMP_TAP_STAT_DONE
    else s)

end Sys2Proof.Machine
end

