-- ==== Sys2Proof/Machine/Epochs.lean ====
section
/-! DEFINITION. Epochs (R12, R13, R429 to R434) and the gain ramp that their commits carry (R576 to R578, R720). -/

namespace Sys2Proof.Machine
open Sys2Proof

/-! ## ST values (R12, R433) -/

/-- The registers of a row: offset and indices. -/
def RegRow.cells (r : RegRow) : List (Nat × Nat × Nat) :=
  (List.range r.n1).flatMap (fun i => (List.range r.n2).map (fun j => (r.base + r.s1 * i + r.s2 * j, i, j)))

/-- The rows that hold ST fields; such a row holds no other field. -/
def stRows : List RegRow := regRows.filter (fun r => r.flds.any (fun f => f.acc == .st))

/-- Every ST field. -/
def stFlds : List Fld := stRows.flatMap (fun r => r.cells.flatMap (fun c => r.flds.map (fun f => f.fld c.2.1 c.2.2)))

/-- The pending values of all ST fields become the values in force (R12). -/
def State.takeForce (s : State) : State := { s with force := stFlds.foldl (fun r f => r.set f (s.get f)) s.force }

/-- Offset and value in force of every register that holds an ST field, by ascending offset (R433). -/
def State.stPairs (s : State) : List (Nat × Nat) :=
  (stRows.flatMap (fun r => r.cells.map (fun c =>
    (c.1, (r.flds.map (fun f => f.show (s.frc (f.fld c.2.1 c.2.2)))).sum)))).foldl (fun m p => SMap.ins p.1 p.2 m) []

/-! ## Epoch images (R432, R433) -/

/-- The bytes of the image of the epoch in force for a slot's address, with a gain table; a table that could not be read
leaves an image that fails its check. -/
def State.imgBytes (s : State) (addr : Nat) (table : Option (List Byte)) : List Byte :=
  let h := leBytes 4 0x48435045 ++ leBytes 2 1 ++ zeros 2 ++ leBytes 8 (s.get F.TOP_CFG_EPOCH)
    ++ leBytes 8 (s.get F.TOP_GAIN_EPOCH) ++ leBytes 8 (s.get F.TOP_FORME_EPOCH) ++ zeros 28
  let st := padTo 524224 (s.stPairs.flatMap (fun p => leBytes 4 p.1 ++ leBytes 4 p.2) ++ leBytes 4 0xFFFFFFFF)
  let t := table.getD (zeros 524288)
  let c := crc32c (leBytes 8 addr ++ h ++ st ++ t)
  h ++ leBytes 4 (if table.isSome then c else ones 32 - c) ++ st ++ t

/-- A slot is held (R432). -/
def State.slotHeld (s : State) (i : Nat) : Bool :=
  bitOf (s.get F.TOP_EPOCH_HOLD) i || s.asy.queue.any (fun x => x.slot == i)

/-- The lowest free slot. -/
def State.freeImg (s : State) : Option Nat := (List.range 8).find? (fun i => !s.slotHeld i)

/-! ## The gain ramp (R576 to R578, R720) -/

/-- GAIN_STAGED and its mirror, step and K. -/
def State.gauStaged (s : State) (b : Bool) (i k : Nat) : State :=
  let s := s.setB F.TOP_EPOCH_STAT_GAIN_STAGED b
  if s.domUp .motion then ((s.setB F.GAU_GAIN_STAT_STAGED b).set F.GAU_GAIN_STAT_STEP i).set F.GAU_GAIN_STAT_K k else s

/-- UNSTAGE (R578): the table in force remains, and so do the step and K. -/
def State.unstage (s : State) : State := s.gauStaged false (s.get F.GAU_GAIN_STAT_STEP) (s.get F.GAU_GAIN_STAT_K)

/-- A gain read met poisoned data (R720). -/
def State.gauPoison (s : State) : State := if s.domUp .motion then s.set F.GAU_GAIN_STAT_POISON 1 else s

/-- The address of the gain table in force. -/
def State.tableAddr (s : State) : Nat := s.imgAddr (s.get F.TOP_EPOCH_STAT_SLOT) + 524288

/-- The gain area is valid (R720). -/
def State.areaValid (s : State) : Bool := s.inTables (s.get F.GAU_TGT_BASE) 1572864

/-- Entry i of a gain table. -/
def gainAt (t : List Byte) (i : Nat) : Nat := leAt t (2 * i) 2

/-- STAGE (R577, R578, R720). -/
def State.stage (s : State) : State :=
  let base := s.get F.GAU_TGT_BASE
  if !s.areaValid then s.set F.GAU_GAIN_STAT_ADDR 1
  else if !s.memUp then s
  else
    match s.rdOr 6 s.tableAddr 524288 with
    | (none, s) => s.unstage.gauPoison
    | (some b, s) =>
      match s.rdOr 6 base 524288 with
      | (none, s) => s.unstage.gauPoison
      | (some t, s) =>
        let ts := (List.range 262144).flatMap (fun i => leBytes 2 (gainAt (if s.gau.stale.contains i then b else t) i))
        ((s.wr 6 (base + 524288) ts).wr 6 (base + 1048576) b).gauStaged true 1 (clampN (s.get F.GAU_GAIN_CTL) 1 64)

/-- STAGE (R577). -/
def execStage (m : Fin 9) (s : State) : Host.Outcome State Fault Refusal :=
  .next (s.regOp m F.GAU_GAIN_CMD_STAGE.off State.stage)

/-- UNSTAGE (R578). -/
def execUnstage (m : Fin 9) (s : State) : Host.Outcome State Fault Refusal :=
  .next (s.regOp m F.GAU_GAIN_CMD_UNSTAGE.off State.unstage)

/-- The table in force is copied into T; a poisoned read stops the copy (R576, R720). -/
def State.targetCopy (s : State) : State :=
  let base := s.get F.GAU_TGT_BASE
  if !s.areaValid then s.set F.GAU_GAIN_STAT_ADDR 1
  else if !s.memUp then s
  else
    let a := s.tableAddr
    match (s.poisoned a 524288).toList ++ (s.hurtIn 6 a 524288).toList with
    | [] => s.wr 6 base (s.rd a 524288)
    | p :: r =>
      let p := r.foldl min p
      let t := (s.wr 6 base (s.rd a (p / 64 * 64 - a))).taken 6 a 524288
      (if s.poisoned a 524288 = some p then t.poisonHit 6 p else t).gauPoison

/-- A write to GAU_TGT_BASE_HI (R576). -/
def State.targetHi (s : State) (v : Nat) : State :=
  (s.set F.GAU_TGT_BASE (s.get F.GAU_TGT_BASE % 2 ^ 32 + v % 8 * 2 ^ 32)).targetCopy

/-- GAIN_TARGET_COPY (R576). -/
def execGainTargetCopy (m : Fin 9) (v : BitVec 32) (s : State) : Host.Outcome State Fault Refusal :=
  .next (s.regOp m (F.GAU_TGT_BASE.off + 4) (fun s => s.targetHi v.toNat))

/-- The table of step i of K between base and target (R577). -/
def rampTable (ts b : List Byte) (i k : Nat) : List Byte :=
  (List.range 262144).flatMap (fun n =>
    let bv : Int := sx 16 (gainAt b n)
    leBytes 2 (tc 16 (bv + rhu ((sx 16 (gainAt ts n) - bv) * i) k)))

/-- A commit takes the staged gain table (R577, R720): none where B_s or T_s reads poisoned. -/
def State.rampStep (s : State) : Option (List Byte) × State :=
  let base := s.get F.GAU_TGT_BASE
  match s.rdOr 6 (base + 524288) 1048576 with
  | (none, s) => (none, s.unstage.gauPoison)
  | (some d, s) =>
    let i := s.get F.GAU_GAIN_STAT_STEP
    let k := s.get F.GAU_GAIN_STAT_K
    let t := rampTable (d.take 524288) (d.drop 524288) i (max 1 k)
    let s := s.set F.TOP_GAIN_EPOCH (s.get F.TOP_GAIN_EPOCH + 1)
    let s := s.gauStaged true (i + 1) k
    (some t, if k ≤ i then s.unstage.irq 31 else s)

/-! ## Commits (R429, R430) -/

/-- The gain table of a new epoch: given by a Forme load, of the staged ramp, or the one in force. -/
def State.commitTable (s : State) (gains : Option (List Byte)) : Option (List Byte) × State :=
  match gains with
  | some g => (some g, s.unstage.set F.TOP_GAIN_EPOCH (s.get F.TOP_GAIN_EPOCH + 1))
  | none =>
    let r := if s.flag F.TOP_EPOCH_STAT_GAIN_STAGED then s.rampStep else (none, s)
    match r with
    | (some t, s) => (some t, s)
    | (none, s) => s.rdOr 4 s.tableAddr 524288

/-- A commit into a free slot (R12, R429, R430, R432, R433, R614). -/
def State.commitInto (s : State) (slot : Nat) (gains : Option (List Byte)) : State :=
  let s := s.takeForce
  let s := s.set F.TOP_CFG_EPOCH (s.get F.TOP_CFG_EPOCH + 1)
  let r := s.commitTable gains
  let s := r.2
  let a := s.imgAddr slot
  let s := s.wr 4 a (s.imgBytes a r.1)
  let s := ((s.set F.TOP_EPOCH_STAT_PENDING 0).set F.TOP_EPOCH_STAT_BLOCKED 0).set F.TOP_EPOCH_STAT_SLOT slot
  (s.dbkNow 6 0xFF (s.get F.TOP_CFG_EPOCH % 2 ^ 32) (s.get F.TOP_GAIN_EPOCH % 2 ^ 32) slot).irq 11

/-- BLOCKED shows a commit that waits for a free slot (R432). -/
def State.showBlocked (s : State) : State :=
  s.setB F.TOP_EPOCH_STAT_BLOCKED (s.flag F.TOP_EPOCH_STAT_PENDING && s.freeImg.isNone)

/-- A requested commit takes place once no stripe is ARMED or RUNNING, no ARM waits and a slot is free (R429). -/
def State.commitDue (s : State) : State :=
  if s.flag F.TOP_EPOCH_STAT_PENDING && !s.armedOrRunning && !s.armWaiting && s.memUp then
    match s.freeImg with
    | some i => s.commitInto i none
    | none => s.showBlocked
  else s.showBlocked

/-- A write of 1 to TOP_EPOCH_CMD.COMMIT: the request (R429). -/
def State.commitReq (s : State) : State := (s.set F.TOP_EPOCH_STAT_PENDING 1).showBlocked

/-- COMMIT (R429). -/
def execCommit (m : Fin 9) (s : State) : Host.Outcome State Fault Refusal :=
  .next (s.regOp m F.TOP_EPOCH_CMD_COMMIT.off State.commitReq)

/-- EPOCH_COMMIT (R429): the first moment at which the conditions hold. -/
def execEpochCommit (t : Nat) (s : State) : Host.Outcome State Fault Refusal := .next (s.at t).commitDue

end Sys2Proof.Machine
end

