-- ==== Sys2Proof/Machine/Assay.lean ====
section
/-! DEFINITION. Assay (R417 to R427, R438 to R442, R448 to R457): opening, mend passes, arming, stopping, abandoning and the
Hallmark. -/

namespace Sys2Proof.Machine
open Sys2Proof

/-! ## Opening a stripe (R167, R178, R192, R420, R422, R423, R442) -/

/-- The ST values of an epoch image, as a stripe bound to it reads them (R433, R434). -/
def State.imgBound (s : State) (slot : Nat) : Regs :=
  let cells := (stRows.flatMap (fun r => r.cells.map (fun c => (c.1, r, c.2)))).foldl
    (fun (m : SMap (RegRow × Nat × Nat)) p => SMap.ins p.1 p.2 m) []
  let a := s.imgAddr slot + 64
  (cells.zipIdx).foldl (fun b p =>
    let w := leVal (s.rd (a + 8 * p.2 + 4) 4)
    let ij := p.1.2.2
    p.1.2.1.flds.foldl (fun b f =>
      let fl := f.fld ij.1 ij.2
      b.set fl (putBits (b.get fl) f.sh f.w (bits w f.lo f.w))) b) []

/-- The composition state of a stripe at its opening, bound to an image slot and the ST values that the image holds, also where a
reset of PD_COMP has changed those in force since the commit (R186, R434, R450). -/
def State.newComp (s : State) (slot first : Nat) (list : Option (Nat × Nat)) : CompSt :=
  { bound := s.imgBound slot, gainSlot := slot, prepass := false, ylo := none, yhi := none, yloOk := false, yhiOk := false,
    sums := [], owes := [], nextCycle := first, tilesOf := [], rewrite := none, hist := [], outs := [], held := false, nextCol := 0, ldig := 0, ldigDone := false, inst := 0, pix := 0,
    eqSat := 0, eqNext := first, dpvNext := first * s.cyc, dpvWr := 0, dpvBeam := 0, dpvShot := 0, quireIn := 0, quireOut := 0,
    list := list, listOvf := false, rebuilt := true, stalled := false }

/-- What a stripe takes from the command that opens it. -/
structure OpenReq where
  dir : Nat
  body : Nat
  xs : Int
  ys : Int
  cfg : Nat
  gain : Nat
  slot : Nat
  mend : Option MendInfo
  deriving DecidableEq, Repr

/-- ASY_OPEN_CTL.LAUNCH; 3 acts as LOCAL (R460). -/
def State.openLaunch (s : State) : Nat := s.get F.ASY_OPEN_CTL_LAUNCH % 3

/-- The preview list of a stripe as sampled at its opening (R178, R192). -/
def State.openList (s : State) : Option (Nat × Nat) × State :=
  if !s.domUp .comp || !s.flag F.CMP_DPV_CTL_LIST_EN then (none, s)
  else
    let a := s.get F.CMP_DPV_BASE
    let n := s.get F.CMP_DPV_SIZE
    if n = 0 ∨ !s.inTables a (16 * n) then (none, s.dpvStat F.CMP_DPV_STAT_ADDR) else (some (a, n), s)

/-- The stripe of an accepted request.  CMP_RAS_X starts at the first column that is folded: for a mend pass that of R451 in place
of the x_first that R145 names (DESIGN CHOICE, log entry 61). -/
def State.newStripe (s : State) (q : OpenReq) (list : Option (Nat × Nat)) : Stripe :=
  let g := s.scan
  let first := (q.mend.map MendInfo.kFirst).getD 0
  let x : Stripe :=
    { id := s.get F.ASY_OPEN_ID, st := .opened, dir := q.dir, body := q.body, cyc := g.cycles q.body, xs := q.xs, ys := q.ys,
      x0 := g.launch q.dir q.xs, launch := s.openLaunch, timeLaunch := false, lead := none, cfgEpoch := q.cfg, gainEpoch := q.gain,
      formeEpoch := s.get F.TOP_FORME_EPOCH, formeHash := s.formeHash, slot := q.slot, darnBase := s.get F.ASY_OPEN_DARN,
      darnSize := s.get F.ASY_OPEN_DARN_SIZE, darnNext := 0, darnCount := 0, ddig := 0, wdig := 0, sdig := 0,
      incomplete := (q.mend.map MendInfo.parentIncomplete).getD false, resume := none, resumes := 0, mend := q.mend,
      tStart := none, tEnd := none, headId := 0, comp := s.newComp q.slot first list }
  { x with comp := { x.comp with nextCol := (s.digWin x).1 } }

/-- Append a stripe to the open queue. -/
def State.openAs (s : State) (op : Nat) (q : OpenReq) : State :=
  let r := s.openList
  let s := r.2
  let x := s.newStripe q r.1
  let was := s.cur.isNone
  let s := s.setQueue (s.asy.queue ++ [x])
  let s := if was then s.showEsc x else s
  (((s.tapOpen x).haloOfferAll).showBlocked).cmdResult op 0

/-- The identity is in the open queue. -/
def State.inQueue (s : State) (id : Nat) : Bool := s.asy.queue.any (fun x => x.id == id)

/-- The layer of the identity to open, once its LAYER_START is read, resident and not rejected. -/
def State.openLayer (s : State) : Option LStart :=
  match s.layerOf (bits (s.get F.ASY_OPEN_ID) 24 32) with
  | some c => if c.rejected then none else (s.viewOf c).start
  | none => none

/-- X_s and Y_s lie on the grid of the layer (R77). -/
def State.onGrid (s : State) (st : LStart) (xs ys : Int) : Bool :=
  let p := max 1 s.scanPitch
  (xs - st.ox) % p == 0 && (ys - st.oy) % p == 0

/-- The darn list area breaks R442. -/
def State.darnBad (s : State) : Bool :=
  let a := s.get F.ASY_OPEN_DARN
  let n := 16 * s.get F.ASY_OPEN_DARN_SIZE
  !s.inTables a n || s.asy.queue.any (fun x => decide (a < x.darnBase + 16 * x.darnSize ∧ x.darnBase < a + n))

/-- The result of OPEN's checks (R422, R423, R646); 0 accepts. -/
def State.openResult (s : State) : Nat :=
  let id := s.get F.ASY_OPEN_ID
  if s.forme.isNone then 1
  else if 4 ≤ s.asy.queue.length then 2
  else if s.get F.ASY_OPEN_BODY == 0 || bits id 16 8 != 0 || bits id 56 8 != 0 || s.inQueue id then 5
  else
    match s.openLayer with
    | none => 4
    | some st => if !s.onGrid st (s.getS F.ASY_OPEN_XS) (s.getS F.ASY_OPEN_YS) then 3 else if s.darnBad then 6 else 0

/-- OPEN (R422). -/
def State.open_ (s : State) : State :=
  let r := s.openResult
  if r = 0 then
    s.openAs 1 ⟨s.get F.ASY_OPEN_CTL_DIR, s.get F.ASY_OPEN_BODY, s.getS F.ASY_OPEN_XS, s.getS F.ASY_OPEN_YS,
      s.get F.TOP_CFG_EPOCH, s.get F.TOP_GAIN_EPOCH, s.get F.TOP_EPOCH_STAT_SLOT, none⟩
  else s.cmdResult 1 r

/-- OPEN. -/
def execOpen (m : Fin 9) (s : State) : Host.Outcome State Fault Refusal := .next (s.regOp m F.ASY_CMD_OP.off State.open_)

/-! ## Mend passes (R443, R444, R448 to R452) -/

/-- The entries of a darn list, none where one fails its ECRC (R443). -/
def darnParse (base n : Nat) (b : List Byte) : Option (List DarnE) :=
  (List.range n).mapM (fun (i : Nat) =>
    let e := (b.drop (16 * i)).take 16
    let sc : Option DScope := match leAt e 5 1 with
      | 0 => some .beam | 1 => some .lane | 2 => some .shot | _ => none
    if leAt e 12 4 = crc32c (leBytes 8 (base + 16 * i) ++ e.take 12) then
      sc.map (fun k => DarnE.mk (leAt e 0 5) k (leAt e 6 2) (leAt e 8 2) (leAt e 10 1) (leAt e 11 1))
    else none)

/-- An entry is mended (R444). -/
def DarnE.mended (e : DarnE) (unconf : Bool) : Bool :=
  if e.cause ≤ 4 then decide (1 ≤ e.cause) && decide (128 ≤ e.value)
  else if e.cause ≤ 8 then true
  else e.cause == 9 && unconf

/-- The parent Hallmark of a MEND (R448): its first 288 bytes; none where it fails a check. -/
def State.parent (s : State) (slot : Nat) : Option (List Byte) × State :=
  let a := s.get F.ASY_HM_BASE + 320 * slot
  if s.get F.ASY_HM_SLOTS ≤ slot ∨ !s.inTables a 320 then (none, s)
  else
    match s.rdOr 4 a 288 with
    | (none, s) => (none, s)
    | (some b, s) =>
      let id := s.get F.ASY_OPEN_ID
      let pid := leAt b 8 8
      if leAt b 0 4 == 0x4B4D4C48 && ecdsaVerify (ecPublic s.devKey) (b.take 192) (b.drop 192)
          && bits id 0 16 == bits pid 0 16 && bits id 24 32 == bits pid 24 32 && decide (bits pid 16 8 < bits id 16 8)
      then (some b, s) else (none, s)

/-- The entries of a parent's darn list, checked against its digests (R448). -/
def State.parentDarns (s : State) (h : List Byte) : Option (List DarnE) × State :=
  let base := leAt h 136 8
  let n := leAt h 180 4
  match s.rdOr 4 base (16 * n) with
  | (none, s) => (none, s)
  | (some b, s) =>
    match darnParse base n b with
    | none => (none, s)
    | some es =>
      let d := es.foldl (fun c e => crc64From c e.head) 0
      let whole := bitOf (leAt h 6 2) 2 || (leAt h 128 8 == n && leAt h 184 8 == leAt h 120 8)
      if d == leAt h 184 8 && whole then (some es, s) else (none, s)

/-- The mend pass of a parent's mended entries (R449, R452). -/
def State.mendInfo (s : State) (es : List DarnE) (incomplete : Bool) : Option MendInfo :=
  match es.filter (fun e => e.mended (s.flag F.ASY_MEND_CTL_UNCONF)) with
  | [] => none
  | e :: r =>
    let lo := r.foldl (fun a d => min a d.shot) e.shot
    let hi := r.foldl (fun a d => max a d.shot) e.shot
    some ⟨e :: r, lo / s.cyc, hi / s.cyc, incomplete⟩

/-- An intact image of a configuration epoch with a gain epoch (R450). -/
def State.imgOf (s : State) (cfg gain : Nat) : Option Nat :=
  (List.range 8).find? (fun i => s.imgIntact i cfg && leVal (s.rd (s.imgAddr i + 16) 8) == gain)

/-- A verified parent opens its mend pass, or the first further check that fails names the result. -/
def State.mendFrom (s : State) (h : List Byte) (es : List DarnE) : State :=
  let xs := leSAt h 24 8
  let ys := leSAt h 32 8
  match s.mendInfo es (bitOf (leAt h 6 2) 2) with
  | none => s.cmdResult 5 15
  | some i =>
    match s.openLayer with
    | none => s.cmdResult 5 4
    | some st =>
      if !s.onGrid st xs ys then s.cmdResult 5 3
      else
        match s.imgOf (leAt h 48 8) (leAt h 56 8) with
        | none => ((List.range 8).foldl State.imgRead s).cmdResult 5 13
        | some slot =>
          let s := (List.range slot).foldl State.imgRead s
          if s.darnBad then s.cmdResult 5 6
          else s.openAs 5 ⟨leAt h 17 1, leAt h 20 4, xs, ys, leAt h 48 8, leAt h 56 8, slot, some i⟩

/-- MEND (R448): its reads of the parent wait for the controller (R263, log entry 38). -/
def State.mend (s : State) : State :=
  let id := s.get F.ASY_OPEN_ID
  if s.forme.isNone then s.cmdResult 5 1
  else if 4 ≤ s.asy.queue.length then s.cmdResult 5 2
  else if bits id 16 8 == 0 || bits id 56 8 != 0 || s.inQueue id then s.cmdResult 5 5
  else if !s.memUp then { s with asy := { s.asy with mendWait := true } }
  else
    match s.parent (s.get F.ASY_MEND_CTL_PARENT_SLOT) with
    | (none, s) => s.cmdResult 5 14
    | (some h, s) =>
      match s.parentDarns h with
      | (none, s) => s.cmdResult 5 14
      | (some es, s) => s.mendFrom h es

/-- MEND. -/
def execMend (m : Fin 9) (s : State) : Host.Outcome State Fault Refusal := .next (s.regOp m F.ASY_CMD_OP.off State.mend)

/-! ## Arming (R229, R230, R296, R306, R357, R371, R409, R422 to R426, R441, R457, R596, R662) -/

/-- The Hallmark ring lies within the tables and records (R457). -/
def State.hmOk (s : State) : Bool := s.inTables (s.get F.ASY_HM_BASE) (320 * s.get F.ASY_HM_SLOTS)

/-- The checkpoint record meets every field of R230 for stripe x and cycle k₀. -/
def State.ckptFields (s : State) (x : Stripe) (k0 : Nat) (b : List Byte) : Bool :=
  let empty := k0 == 0
  let miss := leAt b 24 4
  let body := b.drop 64
  leAt b 0 4 == 0x504B4351 && leAt b 4 2 == 1 && leAt b 6 2 == b2n empty && leAt b 8 4 == x.low && leAt b 12 4 == k0
    && leAt b 16 8 == (if empty then 0 else k0 * s.cyc - 1) && (!empty || miss == 0) && ((b.drop 28).take 32).all (· == 0)
    && (!empty || body.all (· == 0))
    && (List.range 32).all (fun l => !bitOf miss l || ((body.drop (4096 * l)).take 4096).all (· == 0))
    && leAt b 60 4 == crc32c (b.take 60 ++ body)

/-- The values of shot k₀·C − 1 as recomputed (R177): none while the recomputation must wait. -/
def State.ckptValues (s : State) (x : Stripe) (k0 : Nat) : Option Vals :=
  if k0 ≤ x.firstCycle then some []
  else ((s.work x).bind (fun w => w.upTo (k0 * s.cyc))).bind (fun l => l.head?.map (fun p => p.out))

/-- A resume is refused for its checkpoint (R230). -/
def State.ckptBad (s : State) : State := (s.set F.PLT_CKPT_STAT_BAD 1).raise 0x27 0 0

/-- The record is loaded and Tally's sums are rebuilt (R230, R306); the result is OK or TALLY. -/
def State.resumeLoad (s : State) (x : Stripe) (n : Nat) (v : Vals) : Nat × State :=
  let na := n / s.cyc * s.cyc
  let s := (s.set F.PLT_CKPT_STAT_LOADED 1)
  let s := { s with plt := { Platen.fresh with
    serving := some x.id, nextDec := na, hist := v, nextTally := n,
    ckpt := if na = 0 then none else some (na - 1, v, []) } }
  match s.tallyRebuild x n with
  | (false, s) => (11, s)
  | (true, s) => (0, { s with plt := { s.plt with rebuilt := true } })

/-- ADDR of PLT_CKPT_STAT and PLT_TALLY_STAT (R229, R237, R296). -/
def State.showAreas (s : State) : State :=
  if !s.domUp .plat then s
  else
    let s := if s.inTables (s.get F.PLT_CKPT_BASE) 131136 then s else s.set F.PLT_CKPT_STAT_ADDR 1
    if s.inTables (s.get F.PLT_TALLY_RING) (1024 * 131136) then s else s.set F.PLT_TALLY_STAT_ADDR 1

/-- What a resume does before it waits for the conditions of R425: none while the comparison waits, as it does while the base
breaks R229 or the controller accepts no read (R263), else a result. -/
def State.resumePrep (s : State) (x : Stripe) (n : Nat) : Option Nat × State :=
  let k0 := n / s.cyc
  if !s.memUp || !s.inTables (s.get F.PLT_CKPT_BASE) 131136 then (none, s)
  else
  match s.rdOr 3 s.ckptAddr 131136 with
  | (none, s) => (some 10, s.ckptBad)
  | (some b, s) =>
    if !s.ckptFields x k0 b then (some 10, s.ckptBad)
    else
      match s.ckptValues x k0 with
      | none => (none, s)
      | some v =>
        let miss := leAt b 24 4
        let old := shotVals (b.drop 64)
        let same := (List.range 32).all (fun l => bitOf miss l
          || v.filter (fun p => p.1 / leafN == l) == old.filter (fun p => p.1 / leafN == l))
        if !same then (some 10, s.ckptBad)
        else
          let r := s.resumeLoad x n v
          (some r.1, r.2)

/-- The arming begins: the attempt is set up, the Governor enters TRACK and the ARM waits (R407, R423, R440). -/
def State.armBegin (s : State) (x : Stripe) : State :=
  let na := x.attemptShot s.cyc
  let a : Attempt :=
    { na := na, ns := x.resume.getD na, last := x.lastShot s.cyc, next := na, tPrev := none, fixClk := none, fixed := [], launched := false,
      t0 := none, due := none, recent := [], bar := none, device := s.get F.BDL_DEVICE }
  let s := { s with esc := { s.esc with att := some a }
                    asy := { s.asy with arm := some s.clk.now, armAt := s.clk.now, awaitLaunch := false } }
  let s := (s.set F.ASY_CMD_STAT_OP 2).set F.ASY_CMD_STAT_WAITING 1
  if s.get F.GOV_STAT_MODE = 2 then s else s.govMode 2

/-- The checks of an ARM that fail at once (R425, R441, R457, R639); that of the image waits for the controller (R263). -/
def State.armCheck (s : State) (x : Stripe) : State :=
  let s := s.showAreas
  if s.memUp && !s.imgIntact x.slot x.cfgEpoch then (s.imgRead x.slot).cmdResult 2 13
  else if x.formeHash ≠ s.formeHash then s.cmdResult 2 12
  else
    let r : Option Nat × State :=
      match x.resume with
      | some n => ({ s with plt := Platen.fresh }).resumePrep x n
      | none => (some 0, s)
    match r with
    | (some (k + 1), s) => s.cmdResult 2 (k + 1)
    | (_, s) =>
      if !s.hmOk then s.cmdResult 2 16
      else if s.passed x (s.launchPos x (x.attemptShot s.cyc)) then s.cmdResult 2 9
      else s.armBegin x

/-- ARM (R422, R425, R429, R646): a commit that is due goes first. -/
def State.arm (s : State) : State :=
  let s := s.commitDue
  if s.forme.isNone || s.armWaiting then s.cmdResult 2 1
  else
    match s.cur with
    | some x => if x.st = .opened ∨ x.st = .stopped then s.armCheck x else s.cmdResult 2 1
    | none => s.cmdResult 2 1

/-- ARM. -/
def execArm (m : Fin 9) (s : State) : Host.Outcome State Fault Refusal := .next (s.regOp m F.ASY_CMD_OP.off State.arm)

/-- The first shots of the attempt are decoded and Tally is ready for it (R296). -/
def State.shotsReady (s : State) (x : Stripe) (a : Attempt) : Bool :=
  let d := min s.depth (a.last + 1 - a.na)
  s.plt.serving == some x.id
    && (List.range d).all (fun i => s.plt.bufs.any (fun b => b.shot == a.na + i))
    && (x.resume.isNone || s.plt.rebuilt)
    && (decide (a.na < a.ns) || s.plt.bufs.any (fun b => b.shot == a.na && b.tally.isSome))

/-- The positions are known (R371). -/
def State.posReady (s : State) : Bool :=
  let role (r : Nat) := (List.range 3).filter (fun n => s.get (F.ESC_POS_CTL_ROLE n) == r)
  (role 1).length == 1 && decide ((role 2).length ≤ 1)
    && (role 1 ++ role 2).all (fun n => s.get (F.ESC_POS_STAT_STATE n) == 2)

/-- Every lane is in IDLE and every return lane in SERVICE (R357). -/
def State.lanesReady (s : State) : Bool :=
  (List.range 32).all (fun l => s.get (F.BDL_STAT_STATE l) == 2) && (List.range 4).all (fun k => s.get (F.BDL_RX_STAT_STATE k) == 2)

/-- No source whose reaction is STOP or above is SEVERE (R596). -/
def State.noStopFault (s : State) : Bool :=
  (List.range 128).all (fun n => !s.severe n || decide (s.get (F.WCH_SRC_CTL_REACT n) < 2))

/-- The checkpoint record and the Tally ring lie within the tables and records (R229, R296). -/
def State.areasOk (s : State) : Bool :=
  s.inTables (s.get F.PLT_CKPT_BASE) 131136 && s.inTables (s.get F.PLT_TALLY_RING) (1024 * 131136)

/-- Every condition of R425 but PAST holds for the current stripe. -/
def State.armReady (s : State) (x : Stripe) (a : Attempt) : Bool :=
  s.memUp && s.domUp .plat && s.domUp .motion && s.domUp .bdla && s.domUp .bdlb
    && s.get F.HED_AUTH_STAT_STATE == 2 && s.flag F.HED_BEAM_STAT_ENABLE_OUT && !s.headHot
    && !s.flag F.HED_BEAM_STAT_TELEM_STALE && s.areasOk && s.shotsReady x a && s.lanesReady && s.posReady
    && s.get F.GOV_STAT_MODE == 2 && !s.gov.entered && s.gov.ax.h == 0 && s.gov.ay.h == 0
    && s.imgIntact x.slot x.cfgEpoch && s.hmOk && s.noStopFault && s.keyed && !s.flag F.SEC_DBG_STAT_OPEN

/-- The stripe becomes ARMED (R336, R356, R421, R426). -/
def State.armed (s : State) (x : Stripe) (a : Attempt) : State :=
  let loc := x.launch == 0
  let s := { s with asy := { s.asy with arm := none, awaitLaunch := !loc, darnFull := false }
                    esc := { s.esc with att := some { a with launched := loc, device := s.get F.BDL_DEVICE } } }
  let s := s.setCur { x with st := .armed, headId := s.headId }
  let s := (List.range 32).foldl (fun s l => s.set (F.BDL_STAT_STATE l) 4) s
  (s.cmdResult 2 0).showLead

/-- ARM_COMPLETE (R425): an image that the controller can now deliver and that fails its check fails the ARM (R434); a resume
whose comparison waited does it now; then every condition is evaluated. -/
def State.armComplete (s : State) (x : Stripe) (a : Attempt) : State :=
  if s.memUp && !s.imgIntact x.slot x.cfgEpoch then (s.imgRead x.slot).armFail 13
  else
  let r : Option Nat × State :=
    match x.resume with
    | some n => if s.plt.rebuilt then (some 0, s) else s.resumePrep x n
    | none => (some 0, s)
  match r with
  | (none, s) => s
  | (some (k + 1), s) => s.armFail (k + 1)
  | (some 0, s) =>
    if s.passed x (s.launchPos x a.na) then s.armFail 9
    else
      let s := s.showAreas
      if s.armReady x a then s.armed x a else s

/-- ARM_COMPLETE. -/
def execArmComplete (t : Nat) (s : State) : Host.Outcome State Fault Refusal :=
  let s := s.at t
  .next (match s.cur, s.esc.att with
    | some x, some a => if s.armWaiting then s.armComplete x a else s
    | _, _ => s)

/-- ARM_TIMEOUT (R425, R499): ASY_ARM_TMO ms after the ARM command; not where a LAUNCH that names the stripe is held, whose
deadline decides then. -/
def execArmTimeout (t : Nat) (s : State) : Host.Outcome State Fault Refusal :=
  let s := s.at t
  .next (match s.cur with
    | some x =>
      let late := decide (s.asy.armAt + ms (s.get F.ASY_ARM_TMO) ≤ s.clk.now)
      let ring := x.launch == 1
      if late && !(ring && s.heldNames) && (s.armWaiting || (x.st == .armed && ring && s.asy.awaitLaunch)) then
        s.showAreas.armFail 7
      else s
    | none => s)

/-! ## STOP and ABANDON (R422, R424, R438) -/

/-- STOP (R438). -/
def State.stop_ (s : State) : State :=
  if s.armedOrRunning || s.armWaiting then (s.cmdResult 3 0).stopAt 1 s.nextClock else s.cmdResult 3 1

/-- STOP. -/
def execStop (m : Fin 9) (s : State) : Host.Outcome State Fault Refusal := .next (s.regOp m F.ASY_CMD_OP.off State.stop_)

/-- A new current stripe is opened to the Escapement (R74, R420). -/
def State.nextCurrent (s : State) : State :=
  match s.cur with
  | some y => s.showEsc y
  | none => if s.domUp .motion then s.set F.ESC_CUR_CTL_OPEN 0 else s

/-- A stripe leaves the open queue: its tiles, its tap and the halo slots that only it held (R151, R505). -/
def State.leaveQueue (s : State) (x : Stripe) : State :=
  let s := { s with mem := { s.mem with tiles := s.mem.tiles.filter (fun t => t.stripe != x.id)
                                        published := s.mem.published.filter (fun p => p.stripe != x.id) } }
  let s := s.setQueue (s.asy.queue.filter (fun y => y.id != x.id))
  ((s.tapLost x.id).haloLeave x.id).showBlocked

/-- The current stripe is abandoned (R424): an ARM of it that waits ends with it. -/
def State.abandonCur (s : State) (x : Stripe) : State :=
  let s := if s.armWaiting then s.unarm x else s
  ((s.leaveQueue x).galleyEmpty).nextCurrent

/-- ABANDON (R422, R424). -/
def State.abandon (s : State) (newest : Bool) : State :=
  if newest then
    match s.asy.queue.getLast? with
    | some x =>
      if x.st = .opened then (if s.asy.queue.length = 1 then s.abandonCur x else s.leaveQueue x).cmdResult 4 0
      else s.cmdResult 4 1
    | none => s.cmdResult 4 1
  else
    match s.cur with
    | some x => if x.st = .opened ∨ x.st = .stopped then (s.abandonCur x).cmdResult 4 0 else s.cmdResult 4 1
    | none => s.cmdResult 4 1

/-- ABANDON. -/
def execAbandon (m : Fin 9) (newest : Bool) (s : State) : Host.Outcome State Fault Refusal :=
  .next (s.regOp m F.ASY_CMD_OP.off (fun s => s.abandon newest))

/-! ## The Hallmark (R451, R453 to R457) -/

/-- Bytes 0..191 of the Hallmark of a stripe (R454). -/
def State.hmHead (s : State) (x : Stripe) : List Byte :=
  let flags := b2n x.mend.isSome + 2 * b2n (decide (0 < x.resumes)) + 4 * b2n x.incomplete + 8 * b2n x.timeLaunch
  let ts := x.tStart.getD (0, 0)
  let te := x.tEnd.getD (0, 0)
  leBytes 4 0x4B4D4C48 ++ leBytes 2 1 ++ leBytes 2 flags ++ leBytes 8 x.id ++ leBytes 1 (s.get F.BDL_DEVICE) ++ leBytes 1 x.dir
    ++ leBytes 1 (b2n s.leadMargin) ++ zeros 1 ++ leBytes 4 x.body ++ leBytes 8 (tc 64 x.xs) ++ leBytes 8 (tc 64 x.ys)
    ++ leBytes 8 (tc 64 x.x0) ++ leBytes 8 x.cfgEpoch ++ leBytes 8 x.gainEpoch ++ leBytes 8 x.formeEpoch
    ++ leBytes 16 x.formeHash ++ leBytes 16 x.headId ++ leBytes 8 x.comp.ldig ++ leBytes 8 x.sdig ++ leBytes 8 x.ddig
    ++ leBytes 8 x.darnCount ++ leBytes 8 x.darnBase ++ leBytes 8 ((x.lastCycle + 1 - x.firstCycle) * s.cyc)
    ++ leBytes 8 ts.1 ++ leBytes 8 te.1 ++ leBytes 2 ts.2 ++ leBytes 2 te.2 ++ leBytes 4 x.firstCycle
    ++ leBytes 4 (min x.resumes 0xFFFFFFFF) ++ leBytes 4 x.darnNext ++ leBytes 8 x.wdig

/-- The record goes to its slot and the sequence advances (R455, R457). -/
def State.hmWrite (s : State) (x : Stripe) : State :=
  let r := s.draw
  let s := r.2
  let h := s.hmHead x
  let sig := ecdsaSign s.devKey (scalarOf r.1) h
  let n := s.get F.ASY_HM_SEQ
  let s := if s.hmOk then s.wr 4 (s.get F.ASY_HM_BASE + 320 * (n % s.get F.ASY_HM_SLOTS)) (h ++ sig ++ zeros 32) else s
  (s.set F.ASY_HM_SEQ (n + 1)).irq 9

/-- The layout digest of an ended stripe is handed over: by composition, or, where it is held, after folding the rest of the
window (R142, R182). -/
def State.foldRest (s : State) (x : Stripe) : Option State :=
  if x.comp.ldigDone then some s
  else if !x.comp.held || !s.domUp .comp then none
  else
    let e := (s.digWin x).2
    (s.work x).bind (fun w => (w.toFold e).map (fun ds => s.foldCols x ds (w.newPairs e) e))

/-- The last shot of an attempt that has ended is over, and the Governor has left TRACK with it (R407). -/
def State.endTrack (s : State) : Option State :=
  match s.esc.att with
  | none => some s
  | some a => if s.attemptOver a then some ({ s with esc := { s.esc with att := none } }).leaveTrack else none

/-- HALLMARK_WRITE (R453): the ended stripe's darn entries are written and its layout digest is handed over.  It waits for the
end of slice 15 of the stripe's last shot, at which the Governor leaves TRACK (R407), and for PD_COMP where the digest is still
to be folded (DESIGN CHOICE, log entry 109). -/
def execHallmarkWrite (t : Nat) (s : State) : Host.Outcome State Fault Refusal :=
  let s := s.at t
  .next (match s.cur with
    | some x =>
      if x.st == .ended && s.bdl.out.isEmpty && s.domUp .plat && s.memUp then
        match s.endTrack.bind (fun s => s.foldRest x) with
        | none => s
        | some s =>
          match s.cur with
          | some x => (((s.usageReport).hmWrite x).leaveQueue x).nextCurrent.showPlt
          | none => s
      else s
    | none => s)

end Sys2Proof.Machine
end

