-- ==== Sys2Proof/Machine/Launch.lean ====
section
/-! DEFINITION. Ring launches (R391, R494 to R499) and edges of SYNC_IN (R426, R482, R490). -/

namespace Sys2Proof.Machine
open Sys2Proof

/-- The part counts as LOCKED; the master while it is VALID (R495). -/
def State.locked (s : State) : Bool := if s.role = 2 then s.flag F.TIM_STAT_VALID else s.flag F.TIM_STAT_LOCKED

/-- An ARM of the current stripe is in force: it waits, or the stripe is ARMED and awaits its launch. -/
def State.armOpen (s : State) : Bool :=
  s.armWaiting || (s.asy.awaitLaunch && (match s.cur with
    | some x => x.st == .armed
    | none => false))

/-- A result of R496 or R497: KOR_LAUNCH_STAT, the REPORT to the initiator, LAUNCH_REFUSED (R499). -/
def State.launchResult (s : State) (src lseq : Nat) (m : LaunchMsg) (r : Nat) : State :=
  let s := ((s.set F.KOR_LAUNCH_STAT_RESULT r).set F.KOR_LAUNCH_STAT_VALID 1).irq 12
  let s := if r = 0 ∨ r = 5 then s else s.raise 0x65 r 0
  let xa : Int := match s.cur with
    | some x => s.launchPos x (x.attemptShot s.cyc)
    | none => 0
  if src = s.device then s.setBit64 (if r = 0 then F.KOR_REP_ACC else F.KOR_REP_REF) src
  else s.ringUni src (.report ⟨r, lseq, m.layer, m.mend, m.stripes.getD s.device 0, xa⟩)

/-- The ARM of a named stripe fails with DEADLINE (R497). -/
def State.launchFail (s : State) (code : Nat) : State := if s.armOpen then s.armFail code else s

/-- Hold a LAUNCH, or hold none. -/
def State.setHeld (s : State) (h : Option HeldLaunch) : State :=
  ({ s with kor := { s.kor with held := h } }).setB F.KOR_LAUNCH_STAT_HELD h.isSome

/-- A LAUNCH received, or taken as received by its initiator (R496). -/
def State.launchRx (s : State) (src lseq : Nat) (m : LaunchMsg) : State :=
  if !bitOf m.group s.device then s
  else
    match s.named m with
    | none => s.launchResult src lseq m 5
    | some x =>
      if s.mtReached s.clk.now m.deadline then (s.launchResult src lseq m 6).launchFail 8
      else if s.heldNames then s.launchResult src lseq m 3
      else s.setHeld (some ⟨src, lseq, m⟩)

/-- LAUNCH (R496). -/
def execLaunch (t : Nat) (h : RingHdr) (msg : LaunchMsg) (s : State) : Host.Outcome State Fault Refusal :=
  let s := s.at t
  let (used, s) := s.ringRx h ⟨false, false, false⟩ (.launch msg)
  .next (if used && s.admitted then s.launchRx h.src.val h.seq.val msg else s)

/-- The LAUNCH the registers hold (R494, R495). -/
def State.launchMsg (s : State) (time : Bool) : LaunchMsg :=
  { time := time, layer := s.get F.KOR_LAUNCH_LAYER, mend := s.get F.KOR_LAUNCH_MEND, posOrT := s.get F.KOR_LAUNCH_POS,
    tfr := if time then s.get F.KOR_LAUNCH_FR else 0, deadline := s.get F.KOR_LAUNCH_DL, group := s.get F.KOR_LAUNCH_GRP,
    stripes := (List.range 64).map (fun i =>
      if bitOf (s.get F.KOR_LAUNCH_GRP) i then
        s.get (if i % 2 = 0 then F.KOR_LAUNCH_STRIPE_E (i / 2) else F.KOR_LAUNCH_STRIPE_O (i / 2))
      else 0) }

/-- KOR_LAUNCH_STAT.INIT (R495). -/
def State.launchInit (s : State) (c : Nat) : State :=
  ((s.set F.KOR_LAUNCH_STAT_INIT c).set F.KOR_LAUNCH_STAT_VALID 1).irq 12

/-- A write of 1 to KOR_LAUNCH_CMD.GO (R495). -/
def State.launchGo (s : State) (time : Bool) : State :=
  let m := s.launchMsg time
  let s := (s.set F.KOR_REP_ACC 0).set F.KOR_REP_REF 0
  if !s.admitted then s.launchInit 4
  else if !s.locked then s.launchInit 3
  else if m.deadline * 2 ^ 32 < s.mtAt (s.clk.now / g25 * g25) + 1000 * s.get F.KOR_LAUNCH_MIN * 2 ^ 32
      ∨ (time ∧ m.posOrT < m.deadline + 10000) then
    s.launchInit 2
  else
    let q := s.kor.seq
    ((s.launchInit 1).ringBoth (.launch m)).launchRx s.device q m

/-- LAUNCH_GO (R495). -/
def execLaunchGo (m : Fin 9) (time : Bool) (s : State) : Host.Outcome State Fault Refusal :=
  .next (s.regOp m F.KOR_LAUNCH_CMD_GO.off (fun s => s.launchGo time))

/-- The instant, in 50 ps, at which machine time reaches t_L (R391, R713). -/
def State.instantOf (s : State) (m : LaunchMsg) : Int :=
  let inc := max 1 (s.get F.TIM_INC_EFF)
  let d : Int := (m.posOrT * 2 ^ 32 + m.tfr * 2 ^ 16 : Nat) - (s.clk.mtime : Int)
  rhu ((s.clk.tickAt : Int) * inc + d * ringTick) (66 * inc)

/-- The result at the deadline (R497). -/
def State.launchEval (s : State) (m : LaunchMsg) : Nat :=
  if !s.locked then 4
  else
    match s.named m, s.esc.att with
    | some x, some a =>
      if x.st ≠ .armed then 1
      else
        let xa := s.launchPos x a.na
        let xl := if m.time then xa else sx 64 m.posOrT
        if (!m.time || x.resume.isSome) && (decide (dirOf x.dir * (xa - xl) < 0) || s.passed x xa) then 2 else 0
    | _, _ => 1

/-- The part launches (R391, R498). -/
def State.launchNow (s : State) (m : LaunchMsg) : State :=
  let first : Bool := match s.cur with
    | some x => x.resume.isNone
    | none => true
  { s with asy := { s.asy with awaitLaunch := false }
           esc := { s.esc with att := s.esc.att.map (fun (a : Attempt) => { a with
             launched := true, t0 := if m.time && first then some (s.instantOf m) else none }) } }

/-- LAUNCH_DEADLINE (R497): machine time has reached the DEADLINE of the LAUNCH held. -/
def execLaunchDeadline (t : Nat) (s : State) : Host.Outcome State Fault Refusal :=
  let s := s.at t
  .next (match s.kor.held with
    | some h =>
      if s.domUp .ring && s.mtReached s.clk.now h.msg.deadline then
        let r := s.launchEval h.msg
        let named := (s.named h.msg).isSome
        let s := (s.setHeld none).launchResult h.src h.lseq h.msg r
        if r = 0 then s.launchNow h.msg
        else if !named then s
        else s.launchFail (if r = 2 then 9 else 8)
      else s
    | none => s)

/-! ## SYNC_IN (R426, R482, R490) -/

/-- A stripe that waits for SYNC_IN is launched, or its ARM fails as PAST (R426). -/
def State.syncLaunch (s : State) : State :=
  match s.cur, s.esc.att with
  | some x, some a =>
    if x.st == .armed && x.launch == 2 && s.asy.awaitLaunch then
      if s.passed x (s.launchPos x a.na) then s.armFail 9
      else { s with asy := { s.asy with awaitLaunch := false }, esc := { s.esc with att := some { a with launched := true } } }
    else s
  | _, _ => s

/-- SYNC_IN_EDGE (R490): a rising edge that stays high for 100 ns. -/
def execSyncInEdge (t : Nat) (s : State) : Host.Outcome State Fault Refusal :=
  let s := s.at t
  let far : Bool := match s.kor.lastEdge with
    | some e => decide (e + us 1 ≤ s.clk.now)
    | none => true
  .next (if s.domUp .ring && far then
      let s := { s with kor := { s.kor with lastEdge := some s.clk.now } }
      let m := s.mtFr s.clk.now g50
      let s := if s.flag F.KOR_SYNC_CTL_IN_EN then
          ((s.set F.TIM_SYNCIN (m / 65536)).set F.TIM_SYNCIN_FR (m % 65536)).inc F.TIM_SYNCIN_CNT
        else s
      let s := if s.kor.setArmed then ({ s with kor := { s.kor with setArmed := false } }).loadTime else s
      s.syncLaunch
    else s)

end Sys2Proof.Machine
end

