-- ==== Sys2Proof/Machine/Porter.lean ====
section
/-! DEFINITION. Porter (R523 to R543) and the ingest of Lueth segments (R106 to R112, R118 to R122): channels, their
descriptor chains, transfers, write-back and stops. -/

namespace Sys2Proof.Machine
open Sys2Proof

/-! ## Channels -/

/-- A channel. -/
def State.chan (s : State) (n : Nat) : Chan := s.prt.ch.get n ⟨.none, 0, 0, [], 0⟩

/-- Hold a channel. -/
def State.setChan (s : State) (n : Nat) (c : Chan) : State := { s with prt := { s.prt with ch := s.prt.ch.put n c } }

/-- A channel is in a state (R536): 0 IDLE, 1 RUN, 2 PARKED_END, 3 PARKED_OWN, 4 STOPPED. -/
def State.chState (s : State) (n : Nat) : Nat := s.get (F.PRT_CH_STAT_STATE n)

/-- Channels 12 to 15 are privileged (R523). -/
def privileged (n : Nat) : Bool := decide (12 ≤ n)

/-- The channel reads a descriptor (R528 step 1); counted says whether R539 counts it. -/
def State.chRead (s : State) (n addr : Nat) (counted : Bool) : State :=
  let c := s.chan n
  let s := s.setChan n { c with ph := .rdDesc addr, count := if counted then c.count + 1 else c.count, since := s.clk.now }
  ((s.set (F.PRT_CH_STAT_STATE n) 1).set (F.PRT_CH_CUR n) addr).emit (.hostRd n addr 32)

/-- The channel reads the LINK word of a descriptor; DB_PEND clears in that clock (R537). -/
def State.chLink (s : State) (n addr : Nat) : State :=
  let s := s.setChan n { s.chan n with ph := .rdLink addr, since := s.clk.now }
  ((s.set (F.PRT_CH_STAT_STATE n) 1).set (F.PRT_CH_STAT_DB_PEND n) 0).emit (.hostRd n (addr + 24) 8)

/-- The channel parks at a descriptor: state 2 at the chain's end, 3 at OWN 0 (R536). -/
def State.chPark (s : State) (n st addr : Nat) : State :=
  (s.setChan n { s.chan n with ph := .none, parked := addr }).set (F.PRT_CH_STAT_STATE n) st

/-- The Watch source of an error code (R548). -/
def chSource (code : Nat) : Nat :=
  match code with
  | 4 => 0x12 | 5 => 0x13 | 6 => 0x14 | 7 => 0x16 | _ => 0x11

/-- Record an error of a channel (R541, R551). -/
def State.chErr (s : State) (n code cause detail addr desc : Nat) : State :=
  let s := (((s.set (F.PRT_CH_ERR_CODE n) code).set (F.PRT_CH_ERR_CAUSE n) cause).set (F.PRT_CH_ERR_DETAIL n) detail).set
    (F.PRT_CH_ERR_VALID n) 1
  (s.set (F.PRT_CH_ERR_ADDR n) addr).set (F.PRT_CH_ERR_DESC n) desc

/-- A channel stops (R536, R541): its error is recorded, raised and signalled on vector 6. -/
def State.chStop (s : State) (n code detail addr desc : Nat) : State :=
  let s := (s.chErr n code 0 detail addr desc).set (F.PRT_CH_STAT_STATE n) 4
  ((s.setChan n { s.chan n with ph := .none, todo := [] }).raise (chSource code) code addr).irq 6

/-! ## Descriptors (R526 to R528) -/

/-- The bytes of a descriptor's transfer (R531). -/
def Desc.bytes (d : Desc) : Nat := 64 * d.len64

/-- A descriptor from its 32 bytes at an address (R526). -/
def descOf (addr : Nat) (b : List Byte) : Desc :=
  let ctl := leAt b 16 4
  ⟨addr, leAt b 0 8, leAt b 8 8, bits ctl 0 24, bits ctl 24 3, bitOf ctl 27, leAt b 20 4, ctl⟩

/-- The first error of step 3 of R528: 0 none, else the code of R541. -/
def State.descErr (s : State) (d : Desc) (link : Nat) : Nat :=
  if decide (2 < d.kind) || bits d.ctlRaw 28 3 != 0 || bits link 1 4 != 0
      || (d.kind != 2 && (d.layer != 0 || decide (2 ^ 35 ≤ d.arg))) then 2
  else if d.host % 64 != 0 || (d.kind != 2 && d.arg % 64 != 0) || d.len64 == 0 then 1
  else if d.kind != 2 && !s.inTables d.arg d.bytes then 3
  else 0

/-- A channel follows or ends its chain at the LINK word of the descriptor at addr (R528 step 6, R537, R539). -/
def State.chFollow (s : State) (n addr link : Nat) : State :=
  let next := link / 32 * 32
  if bits link 0 1 = 0 then
    if s.flag (F.PRT_CH_STAT_DB_PEND n) then s.chLink n addr else s.chPark n 2 addr
  else if bits link 1 4 ≠ 0 then s.chStop n 2 0 addr addr
  else if next = addr ∨ s.get (F.PRT_CH_LIMIT n) < (s.chan n).count + 1 then s.chStop n 4 0 addr addr
  else s.chRead n next true

/-- The bursts of n bytes from a host address: offset and length (R524). -/
def bursts (host n : Nat) : List (Nat × Nat) :=
  if n = 0 then []
  else (List.range ((host + n - 1) / 512 - host / 512 + 1)).map (fun i =>
    let lo := max host (512 * (host / 512 + i))
    (lo - host, min (host + n) (512 * (host / 512 + i) + 512) - lo))

/-- The transfer of a checked descriptor starts: its bursts are ready. -/
def State.chMove (s : State) (n : Nat) (d : Desc) : State :=
  s.setChan n { s.chan n with ph := if d.kind = 2 then .lueth d 1 else .move d, todo := bursts d.host d.bytes
                              since := s.clk.now }

/-- A descriptor has been read (R528 steps 1 to 4). -/
def State.chDesc (s : State) (n addr : Nat) (b : List Byte) : State :=
  let d := descOf addr b
  if !bitOf d.ctlRaw 31 then
    if s.flag (F.PRT_CH_STAT_DB_PEND n) then (s.set (F.PRT_CH_STAT_DB_PEND n) 0).chRead n addr false
    else s.chPark n 3 addr
  else
    match s.descErr d (leAt b 24 8) with
    | 0 => s.chMove n d
    | c => s.chStop n c 0 addr addr

/-- DESCRIPTOR_READ: the read of a descriptor, or of a LINK word, returns. -/
def execDescriptorRead (t : Nat) (n : Fin 16) (d : DescBytes) (s : State) : Host.Outcome State Fault Refusal :=
  let s := s.at t
  .next (if s.domUp .host then
      match (s.chan n).ph with
      | .rdDesc addr => s.chDesc n addr (padTo 32 d)
      | .rdLink addr => s.chFollow n addr (leAt d 0 8)
      | _ => s
    else s)

/-! ## Doorbells (R536 to R539) -/

/-- A write of 1 to PRT_CH_CMD.DOORBELL. -/
def State.doorbell (s : State) (n : Nat) : State :=
  let c := s.chan n
  let z := s.setChan n { c with count := 0 }
  match s.chState n with
  | 0 => if s.flag (F.PRT_CH_CTL_EN n) then z.chRead n (s.get (F.PRT_CH_HEAD n)) true else s
  | 1 => z.set (F.PRT_CH_STAT_DB_PEND n) 1
  | 2 => z.chLink n c.parked
  | 3 => (z.set (F.PRT_CH_STAT_DB_PEND n) 0).chRead n c.parked false
  | _ => s

/-- DOORBELL (R536). -/
def execDoorbell (m : Fin 9) (n : Fin 16) (s : State) : Host.Outcome State Fault Refusal :=
  .next (s.regOp m (F.PRT_CH_CMD_DOORBELL n.val).off (fun s => s.doorbell n))

/-! ## The arbiter (R524, R525) -/

/-- The rest of a transfer in units of 64 bytes (R540). -/
def Desc.left (d : Desc) (done : Nat) : Nat := d.len64 - done / 64

/-- A channel has a burst ready; one that reads HBM waits until the controller accepts requests (R263). -/
def State.chReady (s : State) (n : Nat) : Bool :=
  s.chState n == 1 && !(s.chan n).todo.isEmpty && (match (s.chan n).ph with
    | .move d => d.kind != 1 || s.memUp
    | .lueth _ _ => true
    | _ => false)

/-- The channel that the arbiter grants next: of the highest level that has one ready, the first in ascending order after the one
granted last at that level (R525); before any grant at a level that order starts at channel 0 (DESIGN CHOICE, log entry 94). -/
def State.chNext (s : State) : Option Nat :=
  [3, 2, 1, 0].findSome? (fun p => ((List.range 16).map (fun i => (s.prt.last.get p 15 + 1 + i) % 16)).find?
    (fun n => s.get (F.PRT_CH_CTL_PRIO n) == p && s.chReady n))

/-- A burst of COPY_OUT (R541): its bytes are sent; one that reads poison is not, and the channel stops. -/
def State.copyOut (s : State) (n : Nat) (d : Desc) (b : Nat × Nat) : State :=
  let a := d.arg + b.1
  match s.rdOr 0 a b.2 with
  | (some l, s) => s.emit (.hostWr (d.host + b.1) l)
  | (none, s1) => (s1.set (F.PRT_CH_RESIDUE n) (d.left b.1)).chStop n 6 0 (((s.poisoned a b.2).or (s.hurtIn 0 a b.2)).getD a) d.addr

/-- One grant (R525): a burst's read goes out on the link, or its bytes do. -/
def State.grant (s : State) : State :=
  match s.chNext with
  | none => s
  | some n =>
    let c := s.chan n
    match c.todo with
    | [] => s
    | b :: r =>
      let s := { s.setChan n { c with todo := r } with
        prt := { (s.setChan n { c with todo := r }).prt with last := s.prt.last.put (s.get (F.PRT_CH_CTL_PRIO n)) n } }
      match c.ph with
      | .move d => if d.kind = 1 then s.copyOut n d b else s.emit (.hostRd n (d.host + b.1) b.2)
      | .lueth d _ => s.emit (.hostRd n (d.host + b.1) b.2)
      | _ => s

/-- Grants until channel n has at most k bursts left, or no burst that is ready; fuel bounds their number. -/
def State.grants (s : State) (n k : Nat) : Nat → State
  | 0 => s
  | f + 1 => if (s.chan n).todo.length ≤ k ∨ !s.chReady n then s else s.grant.grants n k f

/-- The arbiter has granted the bursts of channel n that the first bytes of its transfer take, and those that come before
them. -/
def State.grantTo (s : State) (n : Nat) (d : Desc) (bytes : Nat) : State :=
  s.grants n ((bursts d.host d.bytes).length - (bursts d.host bytes).length)
    (((List.range 16).map (fun i => (s.chan i).todo.length)).sum)

/-! ## Bytes on the move (R529) -/

/-- The status word and CTL written back by a privileged channel (R533, R534). -/
def State.writeBack (s : State) (n : Nat) (d : Desc) (code cause tries residue : Nat) : State :=
  if privileged n then
    let ctl := residue % 2 ^ 24 + d.kind * 2 ^ 24 + b2n d.irq * 2 ^ 27
    (s.emit (.hostWr (d.addr + 20) (leBytes 4 (code + cause * 256 + tries * 4096 + 2 ^ 31)))).emit
      (.hostWr (d.addr + 16) (leBytes 4 ctl))
  else s

/-- A descriptor completes (R532, R533) and its LINK is read. -/
def State.chComplete (s : State) (n : Nat) (d : Desc) (code cause tries : Nat) : State :=
  let s := if code = 0 then s else s.chErr n code cause 0 d.addr d.addr
  let s := s.writeBack n d code cause tries 0
  let s :=
    if privileged n then (if d.irq then s.irq (n - 10) else s)
    else
      let s := match s.get (F.PRT_CH_CTL_EVENT n) with
        | 1 => { s with prt := { s.prt with pulseCmp := s.prt.pulseCmp + 1 } }
        | 2 => { s with prt := { s.prt with pulseGau := s.prt.pulseGau + 1 } }
        | _ => s
      s.set (F.PRT_CH_DONE n) (s.get (F.PRT_CH_DONE n) + 1)
  s.chLink n d.addr

/-- DESCRIPTOR_COMPLETE: the last write of a descriptor is acknowledged, or its last burst is sent (R529). -/
def execDescriptorComplete (t : Nat) (n : Fin 16) (data : List Byte) (s : State) : Host.Outcome State Fault Refusal :=
  let s := s.at t
  .next (if s.domUp .host then
      match (s.chan n).ph with
      | .move d =>
        if !s.memUp then s
        else
          let s := s.grantTo n d d.bytes
          if (s.chan n).ph = .none then s
          else if d.kind = 0 then (s.wr 0 d.arg (padTo d.bytes data)).chComplete n d 0 0 1
          else s.chComplete n d 0 0 1
      | .checked d code cause tries => s.chComplete n d code cause tries
      | _ => s
    else s)

/-! ## Lueth segments (R80 to R84, R106 to R111) -/

/-- The header of a segment is well formed against the length fetched (R81, R106).  LAYER_SEG clear with TAKE 0xFFFFFFFF does
not pass, as SFLAGS is checked against TAKE here (DESIGN CHOICE, log entry 53). -/
def segHdrOk (b : List Byte) : Bool :=
  let fl := leAt b 6 2
  let c := leAt b 32 4
  leAt b 0 4 == 0x4854554C && leAt b 4 2 == 1 && decide (fl < 2) && leAt b 22 2 == 0 && leAt b 44 4 == 0
    && (fl == 1) == (leAt b 40 4 == 0xFFFFFFFF) && decide (leAt b 20 2 < 16) && c % 8 == 0 && decide (16 ≤ c && c ≤ 1048512) && b.length == 64 + upTo 64 c

/-- The layout key of a slot. -/
def State.layoutKey (s : State) (slot : Nat) : Option Nat :=
  match List.lookup slot s.sec.slots with
  | some (.layout k) => some k
  | _ => none

/-- The checks of R106 up to NO_KEY: 0, or the cause of R122. -/
def State.segEarly (s : State) (d : Desc) (b : List Byte) : Nat :=
  let layer := leAt b 16 4
  let seq := leAt b 24 8
  if !s.flag F.PRT_ING_CTL_ENABLE || !segHdrOk b then 1
  else if leAt b 8 8 != s.get F.PRT_ING_BUILD || layer != d.layer || seq != d.arg then 2
  else if (s.layerOf layer).isNone && decide (2 ≤ s.copy.layers.length) then 3
  else if ((s.closedAt layer).map (fun n => decide (n ≤ seq))).getD false then 4
  else if (s.layoutKey (leAt b 20 2)).isNone then 5
  else 0

/-- The plaintext of a segment whose tag verifies (R82). -/
def State.segPlain (s : State) (b : List Byte) : Option (List Byte) :=
  (s.layoutKey (leAt b 20 2)).bind (fun k =>
    gcmOpen (leBytes 32 k) (leBytes 4 (leAt b 16 4) ++ leBytes 8 (leAt b 24 8)) (b.take 48) ((b.drop 64).take (leAt b 32 4))
      ((b.drop 48).take 16))

/-- The CRC-64 of a segment's plaintext over its SEQ and records (R83). -/
def segCrc (seq : Nat) (plain : List Byte) : Nat := crc64 (leBytes 8 seq ++ plain.take (plain.length - 8))

/-- The CRC-64 a plaintext carries. -/
def segCrcField (plain : List Byte) : Nat := leAt plain (plain.length - 8) 8

/-- The Watch source of a rejection's cause (R110); AUTH and CRC are raised at each failure. -/
def segSource (cause : Nat) : Option Nat :=
  match cause with
  | 1 => some 0x18 | 3 => some 0x18 | 4 => some 0x18
  | 2 => some 0x1B | 8 => some 0x1B
  | 5 => some 0x1C
  | _ => none

/-- The check of a segment is done; its descriptor waits for completion. -/
def State.segDone (s : State) (n : Nat) (d : Desc) (code cause tries : Nat) : State :=
  s.setChan n { s.chan n with ph := .checked d code cause tries }

/-- Porter rejects a segment (R108, R122). -/
def State.segReject (s : State) (n : Nat) (d : Desc) (b : List Byte) (cause tries : Nat) : State :=
  let s := ((s.inc F.PRT_ING_REJECT).set F.PRT_ING_ERR_CAUSE cause).set F.PRT_ING_ERR_KEY_SLOT (leAt b 20 2 % 16)
  let s := ((s.set F.PRT_ING_ERR_TRIES tries).set F.PRT_ING_ERR_CHANNEL n).set F.PRT_ING_ERR_VALID 1
  let s := s.set F.PRT_ING_ERR_SEQ (leAt b 24 8)
  let s := match segSource cause with
    | some w => s.raise w cause 0
    | none => s
  s.segDone n d 8 cause tries

/-- An AUTH or CRC failure: the same segment is fetched again, or rejected after the last retry (R108); only a segment so
rejected on AUTH counts for the alarm class (R657). -/
def State.segFail (s : State) (n : Nat) (d : Desc) (b : List Byte) (cause tries : Nat) : State :=
  let s := if cause = 6 then s.raise 0x19 6 0 else s.raise 0x1A 7 0
  if tries ≤ s.get F.PRT_ING_CTL_RETRY then
    (s.inc F.PRT_ING_REFETCH).setChan n { s.chan n with ph := .lueth d (tries + 1), todo := bursts d.host d.bytes
                                                        since := s.clk.now }
  else
    let s := s.segReject n d b cause tries
    if cause = 6 then s.authCount else s

/-- The bytes of the Copy buffer that a held segment takes. -/
def CSeg.room (g : CSeg) : Nat := upTo 64 (g.plain.length + 8)

/-- The Copy address of a plaintext of n bytes: the lowest at which it meets no segment held (DESIGN CHOICE, log entry 53). -/
def State.copyFit (s : State) (n : Nat) : Nat :=
  let l := s.copy.layers.flatMap (fun c => c.segs)
  let free (a : Nat) : Bool := l.all (fun g => decide (a + n ≤ g.addr ∨ g.addr + g.room ≤ a))
  (l.map (fun g => g.addr + g.room)).foldl (fun a b => if free b && (!free a || decide (b < a)) then b else a) 0

/-- A segment is accepted into the Copy buffer (R106, R107, R245); one that finds no room there is held without its bytes in
the stack (DESIGN CHOICE, log entry 53). -/
def State.segAccept (s : State) (n : Nat) (d : Desc) (b plain : List Byte) (tries : Nat) : State :=
  let seq := leAt b 24 8
  let bytes := padTo (upTo 64 plain.length) plain
  let a := s.copyFit bytes.length
  let g : CSeg := { seq := seq, crc := segCrcField plain, addr := a, keySlot := leAt b 20 2, layerSeg := leAt b 6 2 == 1
                    take := leAt b 40 4, records := leAt b 36 4, plain := plain.take (plain.length - 8), ord := 0 }
  let order := ((s.layerOf d.layer).map (fun c => c.count)).getD 0
  let s := if a + bytes.length ≤ s.copyTop then s.wr 0 a bytes else s
  ((((s.addSeg d.layer g).inc F.PRT_ING_ACCEPT).validate d.layer order).showCopy).segDone n d 0 0 tries

/-- A fetched segment is checked in the order of R106. -/
def State.segCheck (s : State) (n : Nat) (d : Desc) (tries : Nat) (b : List Byte) : State :=
  match s.segEarly d b with
  | 0 =>
    match s.segPlain b with
    | none => s.segFail n d b 6 tries
    | some plain =>
      if segCrc (leAt b 24 8) plain != segCrcField plain then s.segFail n d b 7 tries
      else
        match s.segOf d.layer d.arg with
        | none => s.segAccept n d b plain tries
        | some g => if g.crc = segCrcField plain then s.segDone n d 0 0 tries else s.segReject n d b 8 tries
  | c => s.segReject n d b c tries

/-- LUETH_SEGMENT_CHECK (R106): the fetch of a segment has returned. -/
def execLuethSegmentCheck (t : Nat) (n : Fin 16) (data : List Byte) (s : State) : Host.Outcome State Fault Refusal :=
  let s := s.at t
  .next (if s.domUp .host && s.memUp then
      match (s.chan n).ph with
      | .lueth d tries => (s.grantTo n d d.bytes).segCheck n d tries (padTo d.bytes data)
      | _ => s
    else s)

/-! ## Stops with bytes on the move (R518, R540, R542) -/

/-- The part of a transfer already carried: its whole units of 64 bytes. -/
def Desc.done (d : Desc) (data : List Byte) : Nat := min d.len64 (data.length / 64) * 64

/-- The bytes already carried reach their destination (R540, R542): the bursts that carry them were granted. -/
def State.chCarry (s : State) (n : Nat) (d : Desc) (data : List Byte) : State :=
  let k := d.done data
  let s := s.grantTo n d k
  if d.kind = 0 then s.wr 0 d.arg (data.take k) else s

/-- The bytes of a transfer that have reached their destination: those carried into HBM, or, of a COPY_OUT, those of every burst
granted, which are sent (R540, R542). -/
def Chan.moved (c : Chan) (d : Desc) (data : List Byte) : Nat :=
  if d.kind = 1 then max (d.done data) ((c.todo.head?.map Prod.fst).getD d.bytes) else d.done data

/-- The burst whose read has failed had been granted (R540). -/
def State.grantAsked (s : State) (n : Nat) (data : List Byte) : State :=
  match (s.chan n).ph with
  | .move d | .lueth d _ => s.grantTo n d (min d.bytes (d.done data + 1))
  | _ => s

/-- A channel in RUN stops with UNREACHABLE (R518, R535, R540). -/
def State.chUnreach (s : State) (n detail : Nat) (data : List Byte) : State :=
  match (s.chan n).ph with
  | .none => s
  | .rdDesc a => (s.set (F.PRT_CH_RESIDUE n) 0).chStop n 5 detail a a
  | .rdLink a => (s.set (F.PRT_CH_RESIDUE n) 0).chStop n 5 detail (a + 24) a
  | .move d =>
    let s := s.chCarry n d data
    let k := (s.chan n).moved d data
    if (s.chan n).ph = .none then s else (s.set (F.PRT_CH_RESIDUE n) (d.left k)).chStop n 5 detail (d.host + k) d.addr
  | .lueth d _ => ((s.chCarry n d data).set (F.PRT_CH_RESIDUE n) d.len64).chStop n 5 detail (d.host + d.done data) d.addr
  | .checked d _ _ _ => (s.set (F.PRT_CH_RESIDUE n) 0).chStop n 5 detail d.addr d.addr

/-- A read of host memory is outstanding on a channel: of a descriptor, of a LINK word, or of data (R540). -/
def Chan.reads (c : Chan) : Bool :=
  match c.ph with
  | .rdDesc _ | .rdLink _ | .lueth _ _ => true
  | .move d => d.kind == 0
  | _ => false

/-- COMPLETION_TIMEOUT (R540): a read of the channel has had no completion within PRT_HL_CTO ms.  No command tells the instant of
a data burst's grant, so its time is known to lie in the transfer's only (log entry 94). -/
def execCompletionTimeout (t : Nat) (n : Fin 16) (data : List Byte) (s : State) : Host.Outcome State Fault Refusal :=
  let s := s.at t
  .next (if s.domUp .host && (s.chan n).reads && decide ((s.chan n).since + ms (s.get F.PRT_HL_CTO) ≤ s.clk.now) then
      (s.grantAsked n data).chUnreach n 1 data
    else s)

/-- COMPLETION_ERROR (R540): a completion with status UR or CA. -/
def execCompletionError (t : Nat) (n : Fin 16) (ca : Bool) (data : List Byte) (s : State) :
    Host.Outcome State Fault Refusal :=
  let s := s.at t
  .next (if s.domUp .host && (s.chan n).reads then (s.grantAsked n data).chUnreach n (if ca then 3 else 2) data
    else s)

/-- Every channel in RUN stops (R518). -/
def State.allUnreach (s : State) (detail : Nat) (moved : List (Nat × List Byte)) : State :=
  (List.range 16).foldl (fun s n => s.chUnreach n detail ((List.lookup n moved).getD [])) s

/-- HOST_LINK_DOWN (R518, R548). -/
def execHostLinkDown (t : Nat) (moved : List (Nat × List Byte)) (s : State) : Host.Outcome State Fault Refusal :=
  let s := s.at t
  .next (if s.domUp .host then
      let s := ((s.set F.PRT_HL_STAT_DL_UP 0).set F.PRT_HL_STAT_WIDTH 0).set F.PRT_HL_STAT_SPEED 0
      (s.allUnreach 4 moved).raise 0x10 0 0
    else s)

/-- BME_CLEAR (R518). -/
def execBmeClear (t : Nat) (moved : List (Nat × List Byte)) (s : State) : Host.Outcome State Fault Refusal :=
  let s := s.at t
  .next (if s.domUp .host then (s.set F.PRT_HL_STAT_BME 0).allUnreach 5 moved else s)

/-- A write of 1 to PRT_CH_CMD.ABORT (R542); data is what the burst granted has carried by then. -/
def State.chAbort (s : State) (n : Nat) (data : List Byte) : State :=
  let stop (s : State) (residue desc : Nat) : State := (s.set (F.PRT_CH_RESIDUE n) residue).chStop n 7 0 desc desc
  match s.chState n with
  | 4 => s
  | 1 =>
    match (s.chan n).ph with
    | .none => s
    | .rdDesc a => stop s 0 a
    | .rdLink a => stop s 0 a
    | .move d =>
      let s := s.chCarry n d data
      let k := d.left ((s.chan n).moved d data)
      if (s.chan n).ph = .none then s else stop (s.writeBack n d 7 0 1 k) k d.addr
    | .lueth d tries => stop ((s.chCarry n d data).writeBack n d 7 0 tries d.len64) d.len64 d.addr
    | .checked d code cause tries => stop (s.chComplete n d code cause tries) 0 d.addr
  | 0 => stop s 0 (s.get (F.PRT_CH_CUR n))
  | _ => stop s 0 (s.chan n).parked

/-- CH_ABORT (R542). -/
def execChAbort (m : Fin 9) (n : Fin 16) (data : List Byte) (s : State) : Host.Outcome State Fault Refusal :=
  .next (s.regOp m (F.PRT_CH_CMD_ABORT n.val).off (fun s => s.chAbort n data))

/-- A write of 1 to PRT_CH_CMD.RESET (R543). -/
def State.chReset (s : State) (n : Nat) : State :=
  if s.chState n = 4 then
    ((s.setChan n ⟨.none, 0, 0, [], 0⟩).set (F.PRT_CH_STAT_STATE n) 0).set (F.PRT_CH_STAT_DB_PEND n) 0
  else s

/-- CH_RESET (R543). -/
def execChReset (m : Fin 9) (n : Fin 16) (s : State) : Host.Outcome State Fault Refusal :=
  .next (s.regOp m (F.PRT_CH_CMD_RESET n.val).off (fun s => s.chReset n))

end Sys2Proof.Machine
end

