-- ==== Sys2Proof/Machine/HostLink.lean ====
section
/-! DEFINITION. The host link, WIN_GAL, MSI-X, the check units and MGMT (R514 to R522, R544 to R548, R686). -/

namespace Sys2Proof.Machine
open Sys2Proof

/-! ## The link (R517, R548, R686) -/

/-- A base address register pair of R514: its size in bytes, and whether it is prefetchable; both pairs are 64-bit. -/
structure Bar where
  size : Nat
  prefetch : Bool
  deriving DecidableEq, Repr

/-- What configuration space shows of the function (R514). -/
structure CfgSpace where
  vendor : BitVec 16
  device : BitVec 16
  classCode : BitVec 16
  bar01 : Bar
  bar23 : Bar
  deriving DecidableEq, Repr

/-- The part's configuration space; the spec names no value for the Vendor ID (log entry 103). -/
def cfgSpace : CfgSpace := ⟨Config.vendorId, 0x0512, 0x1180, ⟨2 ^ 26, false⟩, ⟨2 ^ 32, true⟩⟩

/-- A width and a speed that a link can have (R514, R550): ×1, ×2, ×4 or ×8 at a speed code of 1 to 5. -/
def linkOk (width speed : Nat) : Bool := [1, 2, 4, 8].contains width && decide (1 ≤ speed ∧ speed ≤ 5)

/-- HOST_LINK_UP: the link has trained, with PERST_N high; a link narrower or slower than at its first training raises
HOST_LINK (R548). -/
def execHostLinkUp (t : Nat) (width speed : Nat) (bme : Bool) (s : State) : Host.Outcome State Fault Refusal :=
  let s := s.at t
  .next (if s.domLive .host && linkOk width speed then
      let s := { s with pins := { s.pins with perstN := true } }
      let s := ((s.set F.PRT_HL_STAT_DL_UP 1).set F.PRT_HL_STAT_WIDTH width).set F.PRT_HL_STAT_SPEED speed
      let s := s.setB F.PRT_HL_STAT_BME bme
      match s.prt.first with
      | none => { s with prt := { s.prt with first := some (width, speed) } }
      | some f => if width < f.1 ∨ speed < f.2 then s.raise 0x10 0 0 else s
    else s)

/-- The host link, Porter, the check units and MSI-X are reset; segments not yet accepted are lost (R517). -/
def State.hostReset (s : State) : State := (s.engineReset .host).resetRegs .host

/-- PERST_N is low. -/
def State.perst (s : State) : State := { s with pins := { s.pins with perstN := false } }

/-- PERST_N_ASSERT (R686): PERST_N falls and holds the blocks of PD_HOST in reset until the link trains again. -/
def execPerstNAssert (t : Nat) (s : State) : Host.Outcome State Fault Refusal :=
  let s := s.at t
  .next (if s.domLive .host then s.hostReset else s).perst

/-- FUNCTION_LEVEL_RESET (R517). -/
def execFunctionLevelReset (t : Nat) (s : State) : Host.Outcome State Fault Refusal :=
  let s := s.at t
  .next (if s.domUp .host then s.hostReset else s)

/-! ## MSI-X (R516, R518, R522) -/

/-- Pending messages of vectors that are not masked any more are sent (R522). -/
def State.msixFlush (s : State) : State :=
  (List.range 64).foldl (fun s v =>
    if bitOf s.msix.pba v && !s.msix.masked v then
      { s with msix := { s.msix with pba := s.msix.pba - 2 ^ v } }.emit (.msix v)
    else s) s

/-- A write of a word of the MSI-X table at a byte offset below 1024, or of the enable (bit 0) and function mask (bit 1)
of the MSI-X capability in configuration space, offset 4096. -/
def State.msixWrite (s : State) (off v : Nat) : State :=
  let x := s.msix
  if off < 1024 then
    { s with msix := { x with tbl := x.tbl.put (off / 4) (if off / 4 % 4 = 3 then v % 2 else v) } }.msixFlush
  else { s with msix := { x with enable := bitOf v 0, fmask := bitOf v 1 } }.msixFlush

/-- MSIX_UNMASK (R522). -/
def execMsixUnmask (m : Fin 9) (off : Nat) (v : BitVec 32) (s : State) : Host.Outcome State Fault Refusal :=
  .next (if s.domUp .host then s.msixWrite off v.toNat
    else if s.domLive .host then s else s.accErr m (0x3000000 + off) true 3)

/-- Clear cause bits of vectors 32·hi to 32·hi + 31 (R521, R522). -/
def State.irqClear (s : State) (hi : Bool) (v : Nat) : State :=
  s.set F.PRT_IRQ_STAT (s.get F.PRT_IRQ_STAT &&& ((2 ^ 64 - 1) ^^^ (v * 2 ^ (32 * b2n hi))))

/-- IRQ_STATUS_CLEAR (R522). -/
def execIrqStatusClear (m : Fin 9) (hi : Bool) (v : BitVec 32) (s : State) : Host.Outcome State Fault Refusal :=
  .next (s.regOp m (F.PRT_IRQ_STAT.off + 4 * b2n hi) (fun s => s.irqClear hi v.toNat))

/-! ## WIN_GAL (R519, R520, R712) -/

/-- A refused access is counted and raised (R519, R520). -/
def State.galRefuse (s : State) : State := (s.inc F.PRT_GAL_REFUSE).raise 0x15 0 0

/-- The HBM address of byte off of WIN_GAL (R519, R550). -/
def State.galAddr (s : State) (off : Nat) : Nat := min 20 (s.get F.PRT_GAL_WIN_BASE) * 2 ^ 30 + off

/-- The first four checks of R519 refuse a read of n bytes at a. -/
def State.galDenied (s : State) (a n : Nat) : Bool :=
  !s.flag F.PRT_GAL_WIN_EN || (decide (a < s.copyTop) && !s.scope 2)
    || (decide (a < s.galleyTop ∧ s.copyTop < a + n) && s.pol 0 1 == 0) || decide (hbmTop < a + n)

/-- WIN_GAL_READ (R519, R712). -/
def execWinGalRead (t : Nat) (off len : Nat) (s : State) : Host.Outcome State Fault Refusal :=
  let s := s.at t
  let a := s.galAddr off
  .next (if !s.domUp .host then s
    else if s.galDenied a len then (s.galRefuse).emit (.galRd none)
    else if !s.memUp then s
    else
      match s.rdOr 5 a len with
      | (some l, s) => s.emit (.galRd (some l))
      | (none, s) => (s.galRefuse).emit (.galRd none))

/-- WIN_GAL_WRITE (R520). -/
def execWinGalWrite (t : Nat) (_off _len : Nat) (s : State) : Host.Outcome State Fault Refusal :=
  let s := s.at t
  .next (if s.domUp .host then s.galRefuse else s)

/-! ## Check units (R544 to R546) -/

/-- The width of a unit's check in bits. -/
def State.chkBits (s : State) (u : Nat) : Nat := if s.flag (F.CHK_CTL_WIDTH u) then 64 else 32

/-- Hold a running value; CHK_RES follows it (R544). -/
def State.chkPut (s : State) (u v : Nat) : State :=
  let w := s.chkBits u
  (s.set (F.CHK_VAL u) (v % 2 ^ w)).set (F.CHK_RES u) ((v % 2 ^ w) ^^^ ones w)

/-- The running value becomes all ones of the unit's width. -/
def State.chkOnes (s : State) (u : Nat) : State := s.chkPut u (ones (s.chkBits u))

/-- A data write folds its bytes and is counted (R544, R551). -/
def State.chkFold (s : State) (u : Nat) (l : List Byte) : State :=
  let poly := if s.flag (F.CHK_CTL_WIDTH u) then 0xc96c5795d7870f42 else 0x82f63b78
  (s.chkPut u (crcFold poly (s.get (F.CHK_VAL u)) l)).set (F.CHK_COUNT u) (s.get (F.CHK_COUNT u) + 1)

/-- A write of 1 to CHK_CMD.INIT. -/
def State.chkInit (s : State) (u : Nat) : State := (s.chkOnes u).set (F.CHK_COUNT u) 0

/-- CHK_INIT. -/
def execChkInit (m : Fin 9) (u : Fin 8) (s : State) : Host.Outcome State Fault Refusal :=
  .next (s.regOp m (F.CHK_CMD_INIT u.val).off (fun s => s.chkInit u))

/-- CHK_D8. -/
def execChkD8 (m : Fin 9) (u : Fin 8) (v : BitVec 8) (s : State) : Host.Outcome State Fault Refusal :=
  .next (s.regOp m (F.CHK_D8 u.val).off (fun s => s.chkFold u (leBytes 1 v.toNat)))

/-- CHK_D16. -/
def execChkD16 (m : Fin 9) (u : Fin 8) (v : BitVec 16) (s : State) : Host.Outcome State Fault Refusal :=
  .next (s.regOp m (F.CHK_D16 u.val).off (fun s => s.chkFold u (leBytes 2 v.toNat)))

/-- CHK_D32. -/
def execChkD32 (m : Fin 9) (u : Fin 8) (v : BitVec 32) (s : State) : Host.Outcome State Fault Refusal :=
  .next (s.regOp m (F.CHK_D32 u.val).off (fun s => s.chkFold u (leBytes 4 v.toNat)))

/-- A write to CHK_FOLD_HI: CHK_FOLD_LO as last written, then this word. -/
def State.chkFold8 (s : State) (u hi : Nat) : State :=
  let v := s.get (F.CHK_FOLD u) % 2 ^ 32 + hi % 2 ^ 32 * 2 ^ 32
  (s.set (F.CHK_FOLD u) v).chkFold u (leBytes 8 v)

/-- CHK_FOLD. -/
def execChkFold (m : Fin 9) (u : Fin 8) (hi : BitVec 32) (s : State) : Host.Outcome State Fault Refusal :=
  .next (s.regOp m ((F.CHK_FOLD u.val).off + 4) (fun s => s.chkFold8 u hi.toNat))

/-- A write to a half of CHK_VAL (R545); bits above the unit's width stay 0. -/
def State.chkValWrite (s : State) (u : Nat) (hi : Bool) (v : Nat) : State :=
  s.chkPut u (putBits (s.get (F.CHK_VAL u)) (32 * b2n hi) 32 v)

/-- CHK_VAL_WRITE. -/
def execChkValWrite (m : Fin 9) (u : Fin 8) (hi : Bool) (v : BitVec 32) (s : State) :
    Host.Outcome State Fault Refusal :=
  .next (s.regOp m ((F.CHK_VAL u.val).off + 4 * b2n hi) (fun s => s.chkValWrite u hi v.toNat))

/-- A write of CHK_CTL.WIDTH: a change sets the running value as INIT does (R546). -/
def State.chkWidth (s : State) (u : Nat) (w : Bool) : State :=
  if s.flag (F.CHK_CTL_WIDTH u) = w then s else (s.setB (F.CHK_CTL_WIDTH u) w).chkOnes u

/-- CHK_WIDTH. -/
def execChkWidth (m : Fin 9) (u : Fin 8) (w : Bool) (s : State) : Host.Outcome State Fault Refusal :=
  .next (s.regOp m (F.CHK_CTL_WIDTH u.val).off (fun s => s.chkWidth u w))

/-! ## MGMT (R547, R548) -/

/-- A PAUSE frame: EtherType 0x8808, opcode 1. -/
def isPause (f : List Byte) : Bool := (f.drop 12).take 4 == [0x88, 0x08, 0x00, 0x01]

/-- MGMT_FRAME_RX (R547): the frame passes to J6; a longer one is dropped, PAUSE is discarded. -/
def execMgmtFrameRx (t : Nat) (frame : List Byte) (s : State) : Host.Outcome State Fault Refusal :=
  let s := s.at t
  .next (if s.domUp .mgmt && s.flag F.MGT_CTL_EN && s.flag F.MGT_STAT_LINK then
      if isPause frame then s
      else if 1522 < frame.length then s.inc F.MGT_RX_DROP
      else { s with prt := { s.prt with frames := s.prt.frames ++ [frame] } }
    else s)

/-- The MGMT link is up or down; rf is the remote fault that the partner signals (R550). -/
def State.mgmtLink (s : State) (up rf : Bool) : State :=
  ((s.setB F.MGT_STAT_LINK up).setB F.MGT_STAT_AN_DONE (up && s.flag F.MGT_CTL_AN_EN)).setB F.MGT_STAT_REMOTE_FAULT rf

/-- A write of MGT_CTL: without EN the MAC and the PCS do not run, so no link is up (R550). -/
def State.mgmtCtl (s : State) : State := if s.flag F.MGT_CTL_EN then s else s.mgmtLink false false

/-- MGMT_LINK_DOWN (R548). -/
def execMgmtLinkDown (r : LinkReport) (s : State) : Host.Outcome State Fault Refusal :=
  let s := s.at r.time
  .next (if s.domUp .mgmt then
      let s := s.mgmtLink false r.remoteFault
      if s.flag F.MGT_CTL_EN then s.raise 0x1D 0 0 else s
    else s)

/-- MGMT_LINK_UP (R547, R592): the PCS is enabled and its link is up, auto-negotiation complete where it is selected; under SGMII
a partner that signals another rate than 1,000 Mbit/s leaves it down. -/
def execMgmtLinkUp (r : LinkReport) (s : State) : Host.Outcome State Fault Refusal :=
  let s := s.at r.time
  .next (if s.domUp .mgmt && s.flag F.MGT_CTL_EN then s.mgmtLink (!s.flag F.MGT_CTL_MODE || r.mbps == 1000) r.remoteFault
    else s)

end Sys2Proof.Machine
end

