-- ==== Sys2Proof/Machine/MemCtl.lean ====
section
/-! DEFINITION. The HBM controller (R242 to R244, R257, R259 to R266): bank selection, RUN, refresh, temperature, poison,
parity and self-refresh. -/

namespace Sys2Proof.Machine
open Sys2Proof

/-! ## Bank selection (R242, R243) -/

/-- The home bit of select i. -/
def homeBit (i : Nat) : Nat := 8 + i

/-- Mask i is valid: its own home bit, no other select's, nothing outside bits 32 to 8. -/
def maskOk (i v : Nat) : Bool :=
  bitOf v (homeBit i) && (List.range 9).all (fun j => j == i || !bitOf v (homeBit j)) && v % 256 == 0 && decide (v < 2 ^ 33)

/-- Every mask is valid. -/
def State.hashOk (s : State) : Bool := (List.range 9).all (fun i => maskOk i (s.get (F.MEM_HASH i)))

/-- The exclusive OR of the low n bits of a number. -/
def parity : Nat → Nat → Nat
  | 0, _ => 0
  | n + 1, v => (v % 2 + parity n (v / 2)) % 2

/-- Select bit i of an address. -/
def State.selBit (s : State) (i a : Nat) : Nat := parity 40 (a &&& s.get (F.MEM_HASH i))

/-- The channel of an address. -/
def State.channelOf (s : State) (a : Nat) : Nat :=
  s.selBit 0 a + 2 * s.selBit 1 a + 4 * s.selBit 2 a + 8 * s.selBit 3 a

/-- The banks of the stack (R242): the nine select bits, three stack IDs. -/
def hbmBanks : Nat := 1536

/-- The bank of an address: its select bits in the order of R242, then the stack ID. -/
def State.bankOf (s : State) (a : Nat) : Nat :=
  ((List.range 9).map (fun i => s.selBit i a * 2 ^ i)).sum + 512 * bits a 33 2

/-! ## RUN (R243, R263, R265, R281) -/

/-- The controller begins to accept requests (R263): the writes that wait are carried out in order, and the refresh
intervals of every bank run from now: none elapses while it accepts none (DESIGN CHOICE, log entry 112). -/
def State.memServe (s : State) : State :=
  let l := s.mem.waiting
  let s := { s with mem := { s.mem with waiting := [], runAt := s.clk.now, refAt := [], refEnd := [] }
                    plt := { s.plt with draining := none } }.set F.MEM_STAT_RUN_ACK 1
  let s := l.foldl (fun s w => s.wrNow w.1 w.2.1 w.2.2) s
  if s.asy.mendWait then ({ s with asy := { s.asy with mendWait := false } }).mend else s

/-- A write of MEM_CTL.RUN; ignored in self-refresh. -/
def State.memRun (s : State) (v : Bool) : State :=
  if s.flag F.MEM_STAT_IN_SR then s
  else
    let s := s.setB F.MEM_CTL_RUN v
    if !v then s.set F.MEM_STAT_RUN_ACK 0
    else if s.flag F.MEM_STAT_RUN_ACK then s
    else if s.hashOk then (s.set F.MEM_STAT_HASH_BAD 0).memServe
    else (s.set F.MEM_STAT_HASH_BAD 1).raise 0x35 0 0

/-- MEM_RUN. -/
def execMemRun (m : Fin 9) (v : Bool) (s : State) : Host.Outcome State Fault Refusal :=
  .next (s.regOp m F.MEM_CTL_RUN.off (fun s => s.memRun v))

/-- The stack enters self-refresh (R265), whether the controller runs or not: every bank's debt is paid first. -/
def State.memSleep (s : State) : State :=
  if s.domUp .hbm then
    ({ s with mem := { s.mem with debt := [] } }.set F.MEM_STAT_RUN_ACK 0).set F.MEM_STAT_IN_SR 1
  else s

/-- The stack leaves self-refresh (R265): a controller that was running accepts requests again. -/
def State.memWake (s : State) : State :=
  if s.flag F.MEM_STAT_IN_SR then
    let s := s.set F.MEM_STAT_IN_SR 0
    if s.flag F.MEM_CTL_RUN && !s.flag F.MEM_STAT_HASH_BAD then s.memServe else s
  else s

/-! ## Refresh (R259 to R262) -/

/-- tREFI at a REF_RATE (R259): 3.9, 1.95 or 0.975 µs. -/
def tRefi (rate : Nat) : Nat := ns 3900 / 2 ^ min rate 2

/-- The instant to which the refresh intervals of a bank have been counted. -/
def State.refFrom (s : State) (bank : Nat) : Nat := s.mem.refAt.get bank s.mem.runAt

/-- tREFI has elapsed for a bank since then (R260). -/
def State.refDue (s : State) (bank : Nat) : Bool :=
  decide (bank < hbmBanks ∧ s.refFrom bank + tRefi (s.get F.MEM_TEMP_RATE) ≤ s.clk.now)

/-- REFRESH_INTERVAL (R260, R261): tREFI elapses for a bank.  MEM_REF_DEBT_MAX takes a debt as it rises: one that stood when
the register was read counts again at its next rise (DESIGN CHOICE, log entry 95). -/
def execRefreshInterval (t : Nat) (bank : Nat) (s : State) : Host.Outcome State Fault Refusal :=
  let s := s.at t
  .next (if s.memUp && s.refDue bank then
      let d := min 8 (s.mem.debt.get bank 0 + 1)
      { s with mem := { s.mem with debt := s.mem.debt.put bank d
                                   refAt := s.mem.refAt.put bank (s.refFrom bank + tRefi (s.get F.MEM_TEMP_RATE)) } }.setMax
        F.MEM_REF_DEBT_MAX d
    else s)

/-- A refresh may start in a bank with debt (R260, R261): where no access is open in it, and at debt 8 also between two Platen
bursts before any request that waits; never within a burst, nor while the bank's last refresh still holds it (R262). -/
def State.refreshMay (s : State) (bank : Nat) (u : BankUse) : Bool :=
  let d := s.mem.debt.get bank 0
  decide (s.mem.refEnd.get bank 0 ≤ s.clk.now) && (match u with
    | .idle => decide (0 < d)
    | .gap => decide (8 ≤ d)
    | .burst => false)

/-- The bank is refreshed: its debt falls by 1 and it is held for tRFCpb (R260, R262). -/
def State.refresh1 (s : State) (bank : Nat) : State :=
  { s with mem := { s.mem with debt := s.mem.debt.put bank (s.mem.debt.get bank 0 - 1)
                               refEnd := s.mem.refEnd.put bank (s.clk.now + ns (s.get F.MEM_REF_CTL_TRFCPB)) } }

/-- REFRESH_ISSUE (R260, R261): a refresh of a bank whose debt has reached 8 is counted as forced. -/
def execRefreshIssue (t : Nat) (bank : Nat) (use : BankUse) (s : State) : Host.Outcome State Fault Refusal :=
  let s := s.at t
  .next (if s.memUp && s.refreshMay bank use then
      if 8 ≤ s.mem.debt.get bank 0 then ((s.refresh1 bank).inc F.MEM_REF_FORCED).raise 0x32 0 0 else s.refresh1 bank
    else s)

/-- REF_RATE after a reading (R259). -/
def refRate (rate : Nat) (temp : Int) : Nat :=
  if 105 < temp then 2
  else if rate = 2 ∧ 102 < temp then 2
  else if 85 < temp then 1
  else if 1 ≤ rate ∧ 82 < temp then 1
  else 0

/-- The next temperature reading is due: 32 µs after the last (R259). -/
def State.tempDue (s : State) : Bool :=
  match s.mem.tempAt with
  | none => true
  | some t => decide (t + us 32 ≤ s.clk.now)

/-- HBM_TEMP_READ (R259, R279). -/
def execHbmTempRead (t : Nat) (temp : Int) (s : State) : Host.Outcome State Fault Refusal :=
  let s := s.at t
  .next (if s.memUp && s.tempDue then
      let s := { s with mem := { s.mem with tempAt := some s.clk.now } }
      let s := (s.setS F.MEM_TEMP_T temp).set F.MEM_TEMP_RATE (refRate (s.get F.MEM_TEMP_RATE) temp)
      if 125 < temp then s.raise 0x33 0 0 else s
    else s)

/-! ## Errors (R257, R258, R264, R285) -/

/-- A bus error in a core (R258). -/
def State.busError (s : State) (j : Nat) : State :=
  let c := s.cores.get j Core.idle
  { s with cores := s.cores.put j { c with busErrors := c.busErrors + 1 } }

/-- A read is delivered poisoned (R257, R285): it is counted and its address and source are kept. -/
def State.poisonCount (s : State) (r : MemRead) : State :=
  ((s.inc F.MEM_POISON).set F.MEM_POISON_ADDR r.addr).set F.MEM_POISON_ADDR_SRC r.source.val

end Sys2Proof.Machine
end

