-- ==== Sys2Proof/Machine/MemErr.lean ====
section
/-! DEFINITION. Reads of HBM and of the SRAM arrays that come back corrected, poisoned or uncorrectable, and what the reader of
each does with them (R257, R258, R264, R272 to R277, R285, R716). -/

namespace Sys2Proof.Machine
open Sys2Proof

/-! ## The stack (R257, R258, R264) -/

/-- The Compositor parser discards the segments that a test picks, with their entries (R258). -/
def State.dropSegs (s : State) (p : CSeg → Bool) : State :=
  ({ s with copy := { s.copy with layers := s.copy.layers.map (fun c => { c with segs := c.segs.filter (fun g => !p g) }) } }
    : State).showCopy

/-- A poisoned read of the segment table: the segment of the entry that it met is discarded.  The spec gives the table no
address, so which entry that is is a free value (DESIGN CHOICE, log entry 53). -/
def State.dropEntry (s : State) : State :=
  let (v, s) := s.fresh
  let ids := s.copy.layers.flatMap (fun c => c.segs.map (fun g => (c.layer, g.seq)))
  match ids[v % max 1 ids.length]? with
  | none => s
  | some e => ({ s with copy := { s.copy with layers := s.copy.layers.map (fun c =>
      if c.layer = e.1 then { c with segs := c.segs.filter (fun g => g.seq != e.2) } else c) } } : State).showCopy

/-- The Compositor parser drops the segment whose bytes a poisoned read met, with its entry (R258). -/
def State.dropSegAt (s : State) (addr : Nat) : State :=
  if s.inTables addr 1 then s.dropEntry else s.dropSegs (fun g => decide (g.addr ≤ addr ∧ addr < g.addr + g.room))

/-- An address lies in the preview list of a stripe of the open queue (R178). -/
def State.inList (s : State) (addr : Nat) : Bool :=
  s.asy.queue.any (fun x => match x.comp.list with
    | some l => decide (l.1 ≤ addr ∧ addr < l.1 + 16 * l.2)
    | none => false)

/-- The cycle in composition needs the coarse sums that a poisoned read met: a back end's read of the tables and records that
lies in no halo slot and in no preview list, whose writes merge (R258, R716, log entry 56). -/
def State.sumsRead (s : State) (addr : Nat) : Bool :=
  s.inTables addr 1 && !s.inList addr
    && !(List.range s.haloSlots).any (fun i => decide (s.slotAddr i ≤ addr ∧ addr < s.slotAddr i + haloSlotSize))
    && (match s.composing with
      | some x => x.b F.CMP_LR_CTL_EN != 0
      | none => false)

/-- A poisoned read reaches its source (R258).  A core takes a bus error, the parser drops the segment, a cycle that needs the
coarse sums is held; any other reader meets the poison in the read it makes there next. -/
def State.deliver (s : State) (r : MemRead) : State :=
  match r.source, r.core with
  | 6, some j => s.busError j.val
  | 1, _ => s.dropSegAt r.addr
  | src, _ =>
    if src = 2 ∧ s.sumsRead r.addr then
      match s.composing with
      | some x => s.holdComp x
      | none => s
    else { s with mem := { s.mem with hurt := s.mem.hurt ++ [(src.val, r.addr / 64)] } }

/-- HBM_READ_POISON (R257, R285): a read reported as corrected, or delivered to its source poisoned. -/
def execHbmReadPoison (t : Nat) (source : Fin 7) (addr : Nat) (corrected : Bool) (core : Option (Fin 8)) (s : State) :
    Host.Outcome State Fault Refusal :=
  let s := s.at t
  let r : MemRead := ⟨source, addr, core⟩
  .next (if !s.memUp then s
    else if corrected then s.raise 0x31 0 0
    else ((s.poisonCount r).raise 0x30 r.source.val r.addr).deliver r)

/-- HBM_PHY (R264): the reads in flight on the channel are delivered poisoned. -/
def execHbmPhy (t : Nat) (channel : Fin 16) (reads : List MemRead) (s : State) : Host.Outcome State Fault Refusal :=
  let s := s.at t
  .next (if s.memUp then
      (reads.filter (fun r => s.channelOf r.addr == channel.val)).foldl (fun s r => (s.poisonCount r).deliver r)
        (s.raise 0x34 0 0)
    else s)

/-! ## The arrays (R272 to R277) -/

/-- A core's access of its memory: an uncorrectable read is a bus error in the core (R275).  No core writes the Daybook
(R611). -/
def State.coreAcc (s : State) (c : SramAcc) : State :=
  match s.sramAcc 3 (match c with | .write _ _ => s.arrLimit 3 | _ => sramSize 3) c with
  | (true, s) => s.busError (accAddr c / 0x200000)
  | (false, s) => s

/-- An access of the Compositor's arrays outside a tile's: an uncorrectable read holds the cycle in composition (R275). -/
def State.stickAcc (s : State) (a : Fin 2) (c : SramAcc) : State :=
  match s.compAcc (a, c) with
  | (true, s) =>
    match s.composing with
    | some x => s.holdComp x
    | none => s
  | (false, s) => s

/-- An access of array a by its user. -/
def State.arrAcc (s : State) (a : Nat) (c : SramAcc) : State :=
  match a with
  | 0 => s.stickAcc 0 c
  | 1 => s.stickAcc 1 c
  | 2 => s.platenAcc c
  | _ => s.coreAcc c

/-- SCRUB_READ (R276): accs is what has happened to the array since the last command that reads it; the scrubber then visits an
armed block, in the same clock as the functional write of clash, if any (R277). -/
def execScrubRead (t : Nat) (a : Fin 4) (accs : List SramAcc) (clash : Option (Nat × List Byte)) (s : State) :
    Host.Outcome State Fault Refusal :=
  let s := s.at t
  .next (if s.domUp (sramDom a.val) then
      let s := accs.foldl (fun s c => s.arrAcc a.val c) s
      if s.flag (F.SRM_CTL_SCRUB_EN a.val) then s.scrub a.val clash
      else
        match clash with
        | some w => s.userWrite a.val w.1 w.2
        | none => s
    else s)

end Sys2Proof.Machine
end

