-- ==== Sys2Proof/Machine/Forme.lean ====
section
/-! DEFINITION. Locksmith's acceptance of a Forme (R630 to R637, R715) and what an accepted Forme does (R638 to R641). -/

namespace Sys2Proof.Machine
open Sys2Proof

/-! ## Form (R630, R632, R634, R635) -/

/-- Bytes o to o + n - 1 of an image are 0. -/
def imgZero (i : Image) (o n : Nat) : Bool := i.all (fun c => decide (c.1 < o) || decide (o + n ≤ c.1))

/-- IMAGE_LEN. -/
def imgLen (i : Image) : Nat := imgN i 8 4

/-- The length a section may have (R632): FIRMWARE is 256 bytes plus its images. -/
def secLenOk (i : Image) (k : Nat) : Bool :=
  match k with
  | 1 => secLen i k == 256
  | 2 => secLen i k == 64
  | 3 => decide (256 ≤ secLen i k)
  | 4 => secLen i k == 524864
  | _ => secLen i k == 64

/-- The section table's entry for TYPE k is in form (R630). -/
def secEntryOk (i : Image) (k : Nat) : Bool :=
  let o := 32 + 16 * (k - 1)
  imgN i o 2 == k && imgN i (o + 2) 2 == 0 && imgN i (o + 12) 4 == 0 && secOff i k % 64 == 0 && decide (384 ≤ secOff i k)
    && decide (secOff i k + secLen i k ≤ imgLen i) && secLenOk i k

/-- Two sections do not overlap. -/
def secApart (i : Image) (a b : Nat) : Bool :=
  decide (secOff i a + secLen i a ≤ secOff i b) || decide (secOff i b + secLen i b ≤ secOff i a)

/-- A byte lies in the header or in a section. -/
def imgPlaced (i : Image) (a : Nat) : Bool :=
  decide (a < 384) || [1, 2, 3, 4, 5].any (fun k => decide (secOff i k ≤ a) && decide (a < secOff i k + secLen i k))

/-- The header and the placing of the sections are in form (R630, R632). -/
def headerOk (i : Image) : Bool :=
  imgN i 0 4 == 0x454D5246 && imgN i 4 2 == 1 && imgN i 6 2 == 0 && imgLen i % 64 == 0
    && decide (1024 ≤ imgLen i) && decide (imgLen i ≤ 33554432) && decide (imgN i 24 1 ≤ 2)
    && imgZero i 25 7 && imgZero i 112 48 && imgZero i 352 32
    && [1, 2, 3, 4, 5].all (secEntryOk i)
    && [1, 2, 3, 4, 5].all (fun k => (List.range k).all (fun j => j == 0 || secApart i j k))
    && i.all (fun c => imgPlaced i c.1)

/-- OFFSET, LEN and ENTRY of core j's directory entry (R634). -/
def fwEntry (i : Image) (j : Nat) : Nat × Nat × Nat :=
  (secN i 3 (32 * j) 4, secN i 3 (32 * j + 4) 4, secN i 3 (32 * j + 8) 4)

/-- Core j's directory entry is in form (R634): where its image lies; the rules for the values of LEN and ENTRY are those of
FIELD (R637). -/
def fwOk (i : Image) (j : Nat) : Bool :=
  let (o, n, _) := fwEntry i j
  o % 64 == 0 && decide (256 ≤ o) && (n == 0 || decide (o + n ≤ secLen i 3)) && imgZero i (secOff i 3 + 32 * j + 12) 20

/-- The fields of the FIRMWARE directory with rules for their values (R634, R715): LEN and ENTRY of each core. -/
def fwFields (i : Image) : List (Nat × Bool) :=
  (List.range 8).flatMap (fun j =>
    let (_, n, e) := fwEntry i j
    [(32 * j + 4, decide (n ≤ if j = 7 then 1966080 else 2097152) && (decide (1 < j) || n != 0)),
     (32 * j + 8, if n = 0 then e == 0 else e % 4 == 0 && decide (e < n))])

/-- The offsets of the 60 calibration registers, ascending (R635). -/
def calOffs : List Nat :=
  (List.range 16).map (fun i => (F.BDL_EQ_TAB_PRE i).off) ++ (List.range 32).map (fun i => (F.BDL_CTL_PRESET i).off)
    ++ (List.range 3).map (fun i => (F.ESC_POS_CTL_ROLE i).off) ++ (List.range 2).map (fun i => (F.GOV_DEF_SENS i).off)
    ++ [F.GOV_HV_NOM.off] ++ (List.range 2).map (fun i => (F.GOV_TRIM_OFF i).off)
    ++ [F.GAU_PIX_CODE.off, F.GAU_PIX_PU.off] ++ (List.range 2).map (fun i => (F.KOR_TX_CTL_PRE i).off)

/-- The CALIBRATION section is in form (R635). -/
def calForm (i : Image) : Bool :=
  secN i 4 0 4 == 60 && decide (secN i 4 4 4 ≤ 1) && (List.range 60).map (fun n => secN i 4 (64 + 8 * n) 4) == calOffs

/-- FORMAT of R637, but for the comparison with SEC_FORME_LEN. -/
def formOk (i : Image) : Bool := headerOk i && (List.range 8).all (fwOk i) && calForm i

/-! ## Fields (R37, R38, R48, R49, R57, R65, R171, R180, R239, R252, R332, R463, R633 to R636, R715) -/

/-- The fields of STRUCTURE in ascending offset: offset, and whether its rules hold. -/
def structFields (i : Image) : List (Nat × Bool) :=
  let f (o n : Nat) : Nat := secN i 1 o n
  let m := f 4 1
  let p := f 5 1
  let maps := (List.range 32).map (fun l => f (16 + 2 * l) 2)
  let groups := (List.range 32).map (fun l => f (80 + l) 1)
  let sticks := (List.range 8).map (fun g => f (112 + g) 1)
  [(0, decide (640 ≤ f 0 4 ∧ f 0 4 ≤ 128000)), (4, [1, 2, 4, 8, 16].contains m),
   (5, [1, 2, 4, 8].contains p && !(m == 16 && p == 1)), (6, decide (f 6 1 ≤ 1)), (7, decide (f 7 1 ≤ 2)),
   (8, decide (2 ≤ f 8 1)), (9, decide (4 ≤ f 9 1 ∧ f 8 1 + f 9 1 ≤ 23)), (10, decide (12 ≤ f 10 1 ∧ f 10 1 ≤ 20)),
   (11, decide (f 11 1 ≤ 3)), (12, f 12 4 == 0)]
  ++ (List.range 32).map (fun l =>
    let b := maps.getD l 0
    (16 + 2 * l, b % 16 == 0 && decide (b ≤ 496) && (l != 31 || decide maps.Nodup)))
  ++ (List.range 32).map (fun l => (80 + l, decide (groups.getD l 0 ≤ 7)))
  ++ [(119, sticks.sum == 64 && groups.all (fun g => sticks.getD g 0 != 0)), (120, imgZero i (secOff i 1 + 120) 136)]

/-- The least LIM_DEF_RANGE of an axis under R57. -/
def defLeast (i : Image) (a : Nat) : Nat :=
  let p := secN i 1 0 4
  let m := secN i 1 4 1
  let span := (m - 1) * p
  if a = 0 then span + (m * m - 1) * (512 * p / (secN i 1 5 1 * m)) / 2 else span

/-- The fields of LIMITS. -/
def limitFields (i : Image) : List (Nat × Bool) :=
  let f (o n : Nat) : Nat := secN i 2 o n
  [(0, decide (f 0 1 ≤ 15)), (1, f 1 1 == 1), (2, f 2 1 == 1), (3, f 3 1 == 0), (4, decide (f 4 2 ≤ 15360)),
   (6, decide (1 ≤ f 6 2)), (8, decide (f 8 4 ≤ 3932160)), (12, decide (f 12 4 ≤ 4026531840)),
   (16, decide (defLeast i 0 ≤ f 16 4 ∧ f 16 4 ≤ 16777215)), (20, decide (defLeast i 1 ≤ f 20 4 ∧ f 20 4 ≤ 16777215)),
   (24, decide (20 ≤ f 24 2)), (26, imgZero i (secOff i 2 + 26) 38)]

/-- A value is one the calibration register at an offset would take as it stands (R635). -/
def calValueOk (off v : Nat) : Bool :=
  let fits (lo w least most : Nat) : Bool := decide (least ≤ bits v lo w ∧ bits v lo w ≤ most)
  let reserved := match findRow regRows off with
    | none => v
    | some (r, _, _) => r.flds.foldl (fun v f => putBits v f.lo f.w 0) v
  reserved == 0 &&
    (if 0xD0020 ≤ off ∧ off < 0xD0060 then fits 0 5 0 16 && fits 8 5 0 24
     else if 0xD0100 ≤ off ∧ off < 0xD0300 then fits 4 4 0 12
     else if 0xE0100 ≤ off ∧ off < 0xE0160 then fits 16 8 10 255
     else if off / 8 = 0xF0030 / 8 then decide (1 ≤ v)
     else if off = F.GOV_HV_NOM.off ∨ off = F.GAU_PIX_PU.off then decide (1 ≤ v)
     else if 0x120000 ≤ off then fits 0 5 0 16 && fits 8 5 0 24 && fits 16 4 0 12
     else true)

/-- The first entry at or after n of the default gain table outside 0x2000 to 0x7FFF, by its offset. -/
def badGain (i : Image) : Nat → Nat → Option Nat
  | 0, _ => none
  | k + 1, n =>
    let g := secN i 4 (576 + 2 * n) 2
    if 0x2000 ≤ g ∧ g ≤ 0x7FFF then badGain i k (n + 1) else some (576 + 2 * n)

/-- The fields of CALIBRATION before the gain table: the value words of the pairs. -/
def calFields (i : Image) : List (Nat × Bool) :=
  (List.range 60).map (fun n => (68 + 8 * n, calValueOk (secN i 4 (64 + 8 * n) 4) (secN i 4 (68 + 8 * n) 4)))

/-- The fields of POLICY. -/
def policyFields (i : Image) : List (Nat × Bool) :=
  let f (o n : Nat) : Nat := secN i 5 o n
  [(0, decide (f 0 1 ≤ 1)), (1, decide (20 ≤ f 1 1 ∧ f 1 1 ≤ 23)), (2, decide (f 2 1 ≤ 1)), (3, decide (1 ≤ f 3 1)),
   (4, decide (1 ≤ f 4 2))]
  ++ (List.range 6).map (fun n => (6 + n, f (6 + n) 1 == 1 || f (6 + n) 1 == 2))
  ++ [(12, decide (f 12 1 ≤ 3)), (13, imgZero i (secOff i 5 + 13) 51)]

/-- The first field that fails, by section TYPE and offset (R715). -/
def badField (i : Image) : Option (Nat × Nat) :=
  let first (l : List (Nat × Bool)) : Option Nat := (l.find? (fun p => !p.2)).map Prod.fst
  match first (structFields i), first (limitFields i), first (fwFields i), first (calFields i) with
  | some o, _, _, _ => some (1, o)
  | none, some o, _, _ => some (2, o)
  | none, none, some o, _ => some (3, o)
  | none, none, none, some o => some (4, o)
  | none, none, none, none =>
    match badGain i 262144 0 with
    | some o => some (4, o)
    | none => (first (policyFields i)).map (fun o => (5, o))

/-! ## Acceptance (R637) -/

/-- The checks BIND to FIELD on an image in form: result, section, offset. -/
def State.formeBody (s : State) (i : Image) : Nat × Nat × Nat :=
  let pub := cellGets i 160 96
  if imgN i 16 8 != 0 && imgN i 16 8 != s.get F.TOP_SERIAL then (6, 0, 0)
  else if List.lookup (imgN i 24 1) s.sec.keyHash != some (leVal (sha384 pub))
      || s.sec.revoked.contains (imgN i 24 1) then (7, 0, 0)
  else if !ecdsaVerify pub (cellGets i 0 256 ++ cellGets i 384 (imgLen i - 384)) (cellGets i 256 96) then (8, 0, 0)
  else if imgN i 12 4 < s.get F.SEC_ROLLBACK then (9, 0, 0)
  else
    match badField i with
    | some (k, o) => (10, k, o)
    | none => (0, 0, 0)

/-- The image in HBM at an address. -/
def State.imageAt (s : State) (a n : Nat) : Image :=
  (s.mem.cells.filter (fun c => decide (a ≤ c.1 ∧ c.1 < a + n))).map (fun c => (c.1 - a, c.2))

/-- A layer is resident or a stripe is open. -/
def State.laidOut (s : State) : Bool := !s.copy.layers.isEmpty || !s.asy.queue.isEmpty

/-- The result of R637 for a load while the part runs: result, section, offset. -/
def State.formeResult (s : State) (a n : Nat) (i : Image) : Nat × Nat × Nat :=
  if s.get F.SEC_LIFE = 3 then (1, 0, 0)
  else if s.armedOrRunning || s.armWaiting || s.flag F.SEC_FORME_STAT_PERSIST_BUSY || s.get F.PWR_STATE_STAT_STATE != 0
      || !s.memUp then (2, 0, 0)
  else if a % 64 != 0 || !s.inTables a n then (3, 0, 0)
  else if !s.readsClean 6 a n then (4, 0, 0)
  else if !formOk i || imgLen i != n then (5, 0, 0)
  else
    match s.formeBody i with
    | (0, _, _) =>
      if s.laidOut && (secN i 1 8 1 != s.part F.MEM_PART_COPY 4 || secN i 1 9 1 != s.part F.MEM_PART_GALLEY 18
          || secN i 1 10 1 != s.part F.MEM_PART_DIR_LOG2 17) then (11, 0, 0)
      else if s.freeImg.isNone then (12, 0, 0)
      else (0, 0, 0)
    | r => r

/-- Report a result (R637, R671): SEC_FORME_STAT, the FORME record, FORME_REJECT on a rejection. -/
def State.formeReport (s : State) (r : Nat × Nat × Nat) (i : Image) (persist boot : Bool) : State :=
  let s := ((s.set F.SEC_FORME_STAT_RESULT r.1).set F.SEC_FORME_STAT_SECTION r.2.1).set F.SEC_FORME_STAT_VALID 1
  let s := s.set F.SEC_FORME_OFS r.2.2
  let s := s.dbkNow 0x11 0xFF (r.1 + 16 * b2n persist + 32 * b2n boot) (imgN i 12 4)
    (leVal (sha384 (cellGets i 0 (imgLen i))) % 2 ^ 32)
  if r.1 = 0 then s else s.raise 0x7E r.1 0

/-! ## What an accepted Forme does (R638 to R641) -/

/-- Bytes of core j's memory that an image fills; a core has 2 MiB (R634, R647). -/
def fwCells (i : Image) (j : Nat) : List Host.Cell :=
  let (o, n, _) := fwEntry i j
  let a := secOff i 3 + o
  (i.filter (fun c => decide (a ≤ c.1 ∧ c.1 < a + n))).map (fun c => (2097152 * j + (c.1 - a), c.2))

/-- The cores' memories hold the images, and zeros elsewhere (R638 step 2). -/
def State.loadCores (s : State) (i : Image) : State :=
  (List.range 8).foldl (fun s j => s.set (F.JRN_STAT_STATE j) (if s.get (F.JRN_STAT_STATE j) = 0 then 0 else 2))
    (({ s with jmem := (List.range 8).flatMap (fwCells i) } : State).sramFill 3 0 dbkBlock)

/-- A core starts at its ENTRY; one with LEN 0 stays in reset (R638 step 6, R648). -/
def State.startCore (s : State) (i : Image) (j : Nat) : State :=
  let (_, n, e) := fwEntry i j
  let s := { s with cores := s.cores.put j { Core.idle with entry := e, lastKick := s.clk.now } }
  s.set (F.JRN_STAT_STATE j) (if n = 0 then 0 else 1)

/-- The cores start, J0 last. -/
def State.startCores (s : State) (i : Image) : State := [1, 2, 3, 4, 5, 6, 7, 0].foldl (fun s j => s.startCore i j) s

/-- The calibration pairs of a domain as register writes (R638 step 3): a position port starts anew when its role changes
from or to OFF. -/
def State.formeWrites (s : State) (d : Dom) : State :=
  let roles := (List.range 3).map (fun n => s.get (F.ESC_POS_CTL_ROLE n))
  let s := s.formeRo d
  let s := (s.calPairs.filter (fun p => domOf p.1 == d)).foldl State.calWrite s
  if d = .motion then
    (List.range 3).foldl (fun s n =>
      if (roles.getD n 0 == 0) == (s.get (F.ESC_POS_CTL_ROLE n) == 0) then s else s.portStart n) s
  else s

/-- The ring ports follow a change of the ring role (R463, R464); a part in the ring that becomes the master owes a discovery
(R477). -/
def State.roleChange (s : State) (was : Nat) : State :=
  if s.domUp .ring then
    let s := if (was == 0) == (s.role == 0) then s else s.ringPorts
    let s := s.ticks.incFollow.bypass
    if was ≠ 2 ∧ s.inRing then s.oweDisc else s
  else s

/-- STRUCTURE, LIMITS and the calibration pairs take force (R638 step 3, R646), and the counts of step 4. -/
def State.formeForce (s : State) (i : Image) : State :=
  let was := s.role
  let s := { s with forme := some (i, imgLen i) }
  let s := (Dom.all.filter s.domUp).foldl State.formeWrites s
  let s := (s.roleChange was).set F.TOP_FORME_EPOCH (s.get F.TOP_FORME_EPOCH + 1)
  let s := s.lgrMap (fun c => { c with formeLoads := min (c.formeLoads + 1) (2 ^ 32 - 1) })
  if s.pol 2 1 = 1 then s.setMax F.SEC_ROLLBACK (min (imgN i 12 4) 255) else s

/-- The default gain table of an image (R635). -/
def gainsOf (i : Image) : List Byte := cellGets i (secOff i 4 + 576) 524288

/-- Power-up requests of domains that are off and not yet requested. -/
def State.powerAsk (s : State) (l : List Dom) : State :=
  let on := s.domsOn
  { s with pwr := { s.pwr with reqs := l.foldl (fun r d =>
      if bitOf on d.idx || (List.lookup d.idx r).isSome || (List.lookup d.idx s.pwr.burst).isSome
          || (List.lookup d.idx s.pwr.again).isSome then r
      else r.put d.idx s.clk.now) s.pwr.reqs } }

/-- The domains of R27 that RUN has on, but for PD_AON and PD_CTRL. -/
def runDoms : List Dom := [.motion, .host, .ring, .hbm, .plat, .bdla, .bdlb, .comp]

/-- PD_MGMT and PD_VISION as PWR_DOM_REQ asks for them. -/
def State.askedDoms (s : State) : List Dom :=
  (if bitOf (s.get F.PWR_DOM_REQ) 0 then [Dom.mgmt] else []) ++ (if bitOf (s.get F.PWR_DOM_REQ) 1 then [Dom.vision] else [])

/-- The START record (R671). -/
def State.dbkStart (s : State) : State :=
  s.dbkNow 0x10 0xFF (s.get F.PWR_RST_CAUSE + 16 * s.get F.SEC_LIFE) (s.get F.TOP_FORME_EPOCH % 2 ^ 32)
    (s.get F.PWR_STATE_STAT_NO_FORME)

/-- An accepted Forme loads (R638): datapath reset and requested again, cores, force, commit, cores started.  In the
no-Forme condition it completes the start-up (R643): with the default gain table (R642) and the START record (log entry
84). -/
def State.formeTake (s : State) (i : Image) : State :=
  let slot := s.freeImg.getD 0
  let bare := s.flag F.PWR_STATE_STAT_NO_FORME
  let s := [Dom.comp, .plat, .bdla, .bdlb].foldl State.domOff s
  let s := s.setQueue (s.asy.queue.map (fun (x : Stripe) => x.prepassLost))
  let s := s.galleyEmpty
  let s := s.loadCores i
  let s := s.formeForce i
  let s := s.commitInto slot (if bare || bitOf (secN i 4 4 4) 0 then some (gainsOf i) else none)
  let s := ((s.startCores i).set F.PWR_STATE_STAT_NO_FORME 0).powerAsk (runDoms ++ s.askedDoms)
  if bare then s.dbkStart else s

/-- A LOAD (R637, R638, R640). -/
def State.formeLoad (s : State) (persist : Bool) : State :=
  let a := s.get F.SEC_FORME_ADDR
  let n := s.get F.SEC_FORME_LEN
  let i := s.imageAt a n
  let r := s.formeResult a n i
  let s := if r.1 = 4 then (s.rdOr 6 a n).2 else s
  if r.1 = 0 then
    let s := (s.formeTake i).formeReport r i persist false
    if persist then ({ s with sec := { s.sec with persist := some i } }).set F.SEC_FORME_STAT_PERSIST_BUSY 1 else s
  else s.formeReport r (if r.1 ≤ 4 then [] else i) persist false

/-- FORME_LOAD: a write of 1 to SEC_FORME_CMD.LOAD, with its PERSIST bit. -/
def execFormeLoad (m : Fin 9) (persist : Bool) (s : State) : Host.Outcome State Fault Refusal :=
  .next (s.regOp m F.SEC_FORME_CMD_LOAD.off (fun s => s.formeLoad persist))

/-- PERSIST (R640): a LOAD written with PERSIST at 1. -/
def execPersist (m : Fin 9) (s : State) : Host.Outcome State Fault Refusal :=
  .next (s.regOp m F.SEC_FORME_CMD_PERSIST.off (fun s => s.formeLoad true))

/-- The flash slot that a copy fills: an image, or one that fails its check when the copy did. -/
def State.flashPut (s : State) (i : Image) : State :=
  if s.get F.SEC_FORME_STAT_FLASH_SLOT = 0 then { s with flash := { s.flash with slotB := i } }
  else { s with flash := { s.flash with slotA := i } }

/-- PERSIST_DONE (R640): the copy is verified, or fails. -/
def execPersistDone (t : Nat) (good : Bool) (s : State) : Host.Outcome State Fault Refusal :=
  let s := s.at t
  .next (match s.sec.persist with
    | none => s
    | some i =>
      let s := ({ s with sec := { s.sec with persist := none } }).set F.SEC_FORME_STAT_PERSIST_BUSY 0
      if good then (s.flashPut i).set F.SEC_FORME_STAT_FLASH_SLOT (1 - s.get F.SEC_FORME_STAT_FLASH_SLOT)
      else (s.flashPut []).raise 0x0B 0 0)

end Sys2Proof.Machine
end

