-- ==== Sys2Proof/Machine/Power.lean ====
section
/-! DEFINITION. The power sequencer, the power states, loss of power-good and block resets (R27, R266, R599, R664 to
R669). -/

namespace Sys2Proof.Machine
open Sys2Proof

/-! ## The sequencer (R666 to R668) -/

/-- The sequenced domains by priority, with the step of each in mA (R666). -/
def domSteps : List (Dom × Nat) :=
  [(.ctrl, 435), (.motion, 217), (.host, 362), (.ring, 290), (.hbm, 1449), (.plat, 725), (.bdla, 815), (.bdlb, 815),
   (.comp, 2174), (.mgmt, 54), (.vision, 236)]

/-- A divided by b, rounded up. -/
def ceilDiv (a b : Nat) : Nat := if b = 0 then 0 else (a + b - 1) / b

/-- The stages in which a domain ramps under budget b. -/
def stagesOf (b : Nat) (d : Dom × Nat) : List PStage :=
  let n := ceilDiv d.2 b
  (List.range n).map (fun k => ⟨d.1.idx, ceilDiv d.2 n, k + 1 == n⟩)

/-- The stages of a burst in the order of priority. -/
def burstStages (b : Nat) (doms : List Nat) : List PStage :=
  (domSteps.filter (fun d => doms.contains d.1.idx)).flatMap (stagesOf b)

/-- The number of stages at the head of an order that one window admits. -/
def admitN (b : Nat) : Nat → List PStage → Nat
  | _, [] => 0
  | sum, x :: r => if sum + x.mA ≤ b then admitN b (sum + x.mA) r + 1 else 0

/-- The windows that an order takes; each window admits at least one stage. -/
def windowsOf (b : Nat) : Nat → List PStage → Nat
  | 0, _ => 0
  | _, [] => 0
  | fuel + 1, l => windowsOf b fuel (l.drop (max 1 (admitN b 0 l))) + 1

/-- n_w of R668 at a budget. -/
def nWin (b : Nat) : Nat := windowsOf b 64 (domSteps.flatMap (stagesOf b))

/-- PWR_SEQ_STAT follows the sequencer; a domain held off is requested again once its 10 µs have passed (R669, R673). -/
def State.showSeq (s : State) : State :=
  let on := s.domsOn
  let wait := ((s.pwr.reqs ++ s.pwr.burst ++ s.pwr.again.filter (fun p => decide (p.2 ≤ s.clk.now))).map Prod.fst).eraseDups
  (s.set F.PWR_SEQ_STAT_QUEUED ((wait.filter (fun i => !bitOf on i)).foldl (fun a i => a + 2 ^ i) 0)).setB
    F.PWR_SEQ_STAT_BURST (!s.pwr.admitted.isEmpty)

/-- A window admits stages from the head of the order. -/
def State.admitNext (s : State) : State :=
  let n := max 1 (admitN s.pwr.budget 0 s.pwr.stages)
  { s with pwr := { s.pwr with admitted := s.pwr.stages.take n, stages := s.pwr.stages.drop n } }

/-- Domains held off whose time has come are requested again (R669). -/
def State.powerAgain (s : State) : State :=
  let due := s.pwr.again.filter (fun p => decide (p.2 ≤ s.clk.now))
  { s with pwr := { s.pwr with again := s.pwr.again.filter (fun p => !decide (p.2 ≤ s.clk.now))
                               reqs := due.foldl (fun r p => r.put p.1 p.2) s.pwr.reqs } }

/-- A burst starts with the requests present. -/
def State.burstStart (s : State) : State :=
  let s := s.powerAgain
  if !s.pwr.admitted.isEmpty || s.pwr.reqs.isEmpty then s.showSeq
  else
    let b := max 500 (s.get F.PWR_BUDGET)
    (({ s with pwr := { s.pwr with budget := b, burst := s.pwr.reqs, reqs := []
                                   stages := burstStages b (s.pwr.reqs.map Prod.fst)
                                   windowEnd := s.clk.now + us 100 } }).admitNext).showSeq

/-- BURST_START (R667). -/
def execBurstStart (t : Nat) (s : State) : Host.Outcome State Fault Refusal := .next (s.at t).burstStart

/-- The domain of an index. -/
def domAt (i : Nat) : Dom := Dom.all.getD i .aon

/-- A domain whose last stage has been admitted is on (R667); it leaves reset 10 µs later. -/
def State.stageEnd (s : State) (i : Nat) : State :=
  if s.pwr.offAfter.contains i then s
  else
    let s1 := if bitOf s.domsOn i then s else s.domOn (domAt i)
    { s1 with pwr := { s1.pwr with
        leaving := s1.pwr.leaving.put i (s.pwr.windowEnd + us 10, (List.lookup i s.pwr.burst).getD s.clk.now) } }

/-- The open window ends and the next one opens, or the burst ends. -/
def State.window (s : State) : State :=
  let ends := (s.pwr.admitted.filter PStage.last).map PStage.dom
  let s := ends.foldl State.stageEnd s
  let s := { s with pwr := { s.pwr with offAfter := [], windowEnd := s.pwr.windowEnd + us 100 } }
  if s.pwr.stages.isEmpty then { s with pwr := { s.pwr with admitted := [], burst := [] } }.showSeq
  else s.admitNext.showSeq

/-- SEQUENCER_WINDOW (R667). -/
def execSequencerWindow (t : Nat) (s : State) : Host.Outcome State Fault Refusal :=
  let s := s.at t
  .next (if !s.pwr.admitted.isEmpty && decide (s.pwr.windowEnd ≤ s.clk.now) then s.window else s)

/-- A request to switch a domain off (R669). -/
def State.powerOff (s : State) (d : Dom) : State :=
  let i := d.idx
  let p := s.pwr
  let run := p.admitted.any (fun x => x.dom == i)
  let s := { s with pwr := { p with
    reqs := p.reqs.erase i, again := p.again.erase i, burst := p.burst.erase i, leaving := p.leaving.erase i
    stages := p.stages.filter (fun x => x.dom != i), offAfter := if run then p.offAfter ++ [i] else p.offAfter } }
  (if bitOf s.domsOn i then s.domOff d else s).showSeq

/-- A domain is switched off and held off for 10 µs, then requested again (R669). -/
def State.powerCycle (s : State) (d : Dom) : State :=
  if !bitOf s.domsOn d.idx then s
  else
    let s := s.powerOff d
    { s with pwr := { s.pwr with again := s.pwr.again.put d.idx (s.clk.now + us 10) } }

/-- POWER_GOOD_LOSS (R669). -/
def execPowerGoodLoss (t : Nat) (d : Fin 12) (s : State) : Host.Outcome State Fault Refusal :=
  let s := s.at t
  .next (if d.val != 0 && bitOf s.domsOn d.val then (s.powerCycle (domAt d.val)).raise 0x04 d.val 0 else s)

/-- BLOCK_RESET (R599): resets whose stripe has stopped, or has not within 1 ms; then no checkpoint is written. -/
def State.blockReset (s : State) : State :=
  let due := s.watch.blockResets.filter (fun b => decide (b.latest ≤ s.clk.now) || !s.armedOrRunning)
  let s := { s with watch := { s.watch with
    blockResets := s.watch.blockResets.filter (fun b => !(decide (b.latest ≤ s.clk.now) || !s.armedOrRunning)) } }
  due.foldl (fun s b =>
    let s := if s.armedOrRunning && b.doms.any stripeNeeds then
        { s with asy := { s.asy with stop := s.asy.stop.map (fun (r : StopRec) => { r with noCkpt := true }) } }
      else s
    b.doms.foldl State.powerCycle s) s

/-- BLOCK_RESET. -/
def execBlockReset (t : Nat) (s : State) : Host.Outcome State Fault Refusal :=
  let s := s.at t
  .next (if s.domUp .ctrl then s.blockReset else s)

/-! ## Power states (R266, R664, R665) -/

/-- The last published leaf of a lane passes the checks of its directory entry, its tile and its own decoding (R266).  Its
tile is decoded from the values of the shot before the cycle, as the composition gives them again (log entry 87). -/
def State.leafKept (s : State) (w : Work) (ps : List Prev) (p : PubCycle) (l : Nat) : Bool :=
  let e := s.rd (s.dirAddr p.seq) 320
  let d := leAt e (64 + 8 * l) 8
  let a := bits d 0 29 * 64
  let n := bits d 32 20 * 64
  dirOk (s.dirAddr p.seq) w.x.low p.cycle p.seq e && s.readsClean 2 (s.dirAddr p.seq) 320 && s.readsClean 2 a n
    && (decodeTile ⟨w.x.low, p.cycle, l, s.cyc, a, n⟩ (s.rd a n) (ps.head?.map (fun q => laneArr q.out l))).isSome

/-- On leaving IDLE, the Galley is marked empty where a last published leaf fails (R266). -/
def State.leafCheck (s : State) : State :=
  match s.composing.bind s.work with
  | none => s
  | some w =>
    match (s.mem.published.filter (fun p => p.stripe == w.x.id)).getLast? with
    | none => s
    | some p =>
      match w.upTo (p.cycle * s.cyc) with
      | none => s.galleyEmpty
      | some ps => if (List.range 32).all (s.leafKept w ps p) then s else s.galleyEmpty

/-- A PSTATE record (R671). -/
def State.pstate (s : State) (old new : Nat) (refused : Bool) : State := s.dbkNow 0x16 0xFF old new (b2n refused)

/-- The domains a state has on beyond PD_AON and PD_CTRL (R27). -/
def stateDoms (v : Nat) : List Dom :=
  if v = 0 then runDoms else if v = 1 then [.motion, .host, .ring, .hbm] else []

/-- No stripe is ARMED or RUNNING and no ARM waits (R664). -/
def State.quiet (s : State) : Bool := !s.armedOrRunning && !s.armWaiting

/-- A request is allowed by the table of R664. -/
def State.stateAllowed (s : State) (v : Nat) : Bool :=
  match s.get F.PWR_STATE_STAT_STATE, v with
  | 0, 1 => s.quiet
  | 0, 2 => s.quiet && !s.flag F.SEC_FORME_STAT_PERSIST_BUSY
  | 1, 2 => s.quiet && !s.flag F.SEC_FORME_STAT_PERSIST_BUSY
  | 1, 0 => true
  | 2, 0 => true
  | 2, 1 => true
  | _, _ => false

/-- The part goes to IDLE (R265, R320, R664). -/
def State.toIdle (s : State) : State :=
  let s := [Dom.comp, .plat, .bdla, .bdlb].foldl State.powerOff s.usageReport.memSleep
  (s.set F.PWR_STATE_STAT_STATE 1).pstate 0 1 false

/-- The part goes to STANDBY (R267, R424, R619, R664); fails counts the slots that fail their read-back (R622). -/
def State.toStandby (s : State) (fails : Nat) : State :=
  let old := s.get F.PWR_STATE_STAT_STATE
  let s := (s.journal 1 fails).pstate old 2 false
  let s := (s.asy.queue.foldl (fun s x => s.leaveQueue x) s).galleyEmpty
  let s := (Dom.all.filter (fun d => d != .aon && d != .ctrl)).foldl State.powerOff s
  s.set F.PWR_STATE_STAT_STATE 2

/-- The stack has to leave self-refresh for a target state (R265). -/
def State.hbmSleeps (s : State) (v : Nat) : Bool := s.flag F.MEM_STAT_IN_SR && v == 0

/-- The domains that a transition powers up: those of the target that are not up, and the stack's where it sleeps. -/
def State.needsOf (s : State) (v : Nat) : List Nat :=
  ((stateDoms v).filter (fun d => !s.domLive d || (d == .hbm && s.hbmSleeps v))).map Dom.idx

/-- A transition that powers domains up starts. -/
def State.powerTo (s : State) (v : Nat) : State :=
  let needs := s.needsOf v
  let s := s.powerAsk (stateDoms v ++ s.askedDoms)
  let s := if s.hbmSleeps v then { s with pwr := { s.pwr with reqs := s.pwr.reqs.put Dom.hbm.idx s.clk.now } } else s
  ({ s with pwr := { s.pwr with target := some v, needs := needs } }.set F.PWR_STATE_STAT_TRANS 1).showSeq

/-- A request for a state with no transition in progress (R664, R665). -/
def State.stateGo (s : State) (v fails : Nat) : State :=
  let old := s.get F.PWR_STATE_STAT_STATE
  if !s.stateAllowed v then (s.set F.PWR_STATE_STAT_REFUSED 1).pstate old v true
  else if v = 2 then s.toStandby fails
  else if old = 0 then s.toIdle
  else s.powerTo v

/-- PD_MGMT or PD_VISION follows its bit of PWR_DOM_REQ in RUN and IDLE (R665). -/
def State.domFollow (s : State) (d : Dom) (want : Bool) : State :=
  if want then s.powerAsk [d] else s.powerOff d

/-- PD_MGMT and PD_VISION follow the bits of a word. -/
def State.domsFollow (s : State) (v : Nat) : State :=
  ((s.domFollow .mgmt (bitOf v 0)).domFollow .vision (bitOf v 1)).showSeq

/-- A transition completes when every domain that it powers up has left reset (R669's example); a request that waits is then
taken (R665).  A change of PWR_DOM_REQ on the way out of STANDBY takes effect now. -/
def State.stateDone (s : State) : State :=
  match s.pwr.target with
  | none => s
  | some v =>
    if s.pwr.needs.isEmpty then
      let old := s.get F.PWR_STATE_STAT_STATE
      let w := s.pwr.waiting
      let s := ({ s with pwr := { s.pwr with target := none, waiting := none } }.set F.PWR_STATE_STAT_TRANS 0).set
        F.PWR_STATE_STAT_STATE v
      let s := if old = 1 then s.leafCheck else if v = 1 then s.usageReport.memSleep else s
      let s := if old = 2 then s.domsFollow (s.get F.PWR_DOM_REQ) else s
      let s := s.pstate old v false
      match w with
      | some (v, fails) => s.stateGo v fails
      | none => s
    else s

/-- The delays are written from module flash and RUN is set (R263), by J0's boot ROM at start-up (R644). -/
def State.memBoot (s : State) : State :=
  let s := s.flash.delays.foldl (fun s p => s.putWord p.1 p.2) s
  let s := if 1 ≤ s.flash.trfc ∧ s.flash.trfc ≤ 350 then s.set F.MEM_REF_CTL_TRFCPB s.flash.trfc else s
  s.memRun true

/-- A domain whose time has come leaves reset.  As the part leaves STANDBY, PD_HBM then starts under R263 again (R664).  After
a power-cycle in IDLE (R669), PD_HBM stays on and awake with RUN_ACK 0, as after any reset: no rule puts a stack that has lost
its contents back into self-refresh before the next transition (DESIGN CHOICE, log entry 87). -/
def State.domGo (s : State) (d : Dom) : State :=
  if s.domLive d then s.memWake
  else if d = .hbm ∧ s.get F.PWR_STATE_STAT_STATE = 2 ∧ s.pwr.target.isSome then (s.domLeave d).memBoot
  else s.domLeave d

/-- DOMAIN_LEAVE_RESET (R265, R667): 10 µs after the domain is on, and not while RESET_N is low (R684); the stack leaves
self-refresh with its registers. -/
def execDomainLeaveReset (t : Nat) (d : Fin 12) (s : State) : Host.Outcome State Fault Refusal :=
  let s := s.at t
  .next (match List.lookup d.val s.pwr.leaving with
    | none => s
    | some (due, asked) =>
      if s.clk.now < due ∨ s.pins.resetN = false then s
      else
        let s := { s with pwr := { s.pwr with leaving := s.pwr.leaving.erase d.val, needs := s.pwr.needs.erase d.val } }
        let s := s.setMax F.PWR_LAT_MAX (ceilDiv (s.clk.now - asked) (us 1))
        (s.domGo (domAt d.val)).stateDone)

/-- A write of PWR_STATE_REQ (R665, R674). -/
def State.stateReq (s : State) (r : StateReq) : State :=
  let s := s.set F.PWR_STATE_REQ r.v
  let v := min r.v 2
  if s.flag F.PWR_STATE_STAT_TRANS then { s with pwr := { s.pwr with waiting := some (v, r.fails) } } else s.stateGo v r.fails

/-- PWR_STATE_REQUEST. -/
def execPwrStateRequest (m : Fin 9) (r : StateReq) (s : State) : Host.Outcome State Fault Refusal :=
  .next (s.regOp m F.PWR_STATE_REQ.off (fun s => s.stateReq r))

/-- A write of PWR_DOM_REQ. -/
def State.domReq (s : State) (v : Nat) : State :=
  let s := s.set F.PWR_DOM_REQ v
  if s.get F.PWR_STATE_STAT_STATE = 2 then s
  else s.domsFollow v

/-- PWR_DOMAIN_REQUEST. -/
def execPwrDomainRequest (m : Fin 9) (v : Nat) (s : State) : Host.Outcome State Fault Refusal :=
  .next (s.regOp m F.PWR_DOM_REQ.off (fun s => s.domReq v))

end Sys2Proof.Machine
end

