-- ==== Sys2Proof/Machine/Startup.lean ====
section
/-! DEFINITION. Start-up, resets of the whole part and the fall and return of VIN (R600, R618, R623, R642 to R646, R678 to
R685), REFCLK, PLLs and VBAK (R670). -/

namespace Sys2Proof.Machine
open Sys2Proof

/-! ## The Ledger at start-up (R617, R618, R623) -/

/-- The entry of highest JSEQ among the slots that are valid (R623). -/
def Ledger.last (l : Ledger) : Option JEntry :=
  (l.journal.filter (fun p => jValid p.1 (p.2.bytes p.1))).foldl (fun a p => match a with
    | none => some p.2
    | some e => if e.jseq < p.2.jseq then some p.2 else some e) none

/-- The working copy is loaded from the journal; the calendar and the epoch numbers that PD_AON has kept stay. -/
def State.lgrLoad (s : State) : State :=
  let cal := s.lgr.copy.calendar
  match s.lgr.last with
  | some e => (s.lgrMap (fun _ => { e.copy with calendar := cal })).lgrEpochs
  | none => ((s.lgrMap (fun _ => { LCopy.zero with calendar := cal })).lgrEpochs).raise 0x09 0 0

/-- PD_AON has lost the working copy, so that a start-up loads it from the journal: at power-on and after BACKUP, not after
RESET_N (R685) or CHIP_RESET (R600). -/
def State.lgrEmpty (s : State) : Bool := s.get F.PWR_RST_CAUSE == 0 || s.get F.PWR_RST_CAUSE == 3

/-- The Ledger's part of a start-up: working copy, bad slots, STARTS, and LGR_CAL where the calendar or every entry is lost
(R617, R618, R623). -/
def State.lgrStart (s : State) : State :=
  let lost := s.lgrEmpty && s.lgr.last.isNone
  let s := if s.lgrEmpty then s.lgrLoad else s
  let s := s.set F.LGR_STAT_BAD s.lgr.badSlots.length
  let s := s.lgrMap (fun c => { c with starts := min (c.starts + 1) (2 ^ 32 - 1) })
  if s.flag F.LGR_STAT_CAL_VALID && !lost then s else s.raise 0x0A 0 0

/-! ## Start-up (R642 to R646, R658, R683) -/

/-- A domain comes up at once: the bursts of a start-up are one step of this model. -/
def State.up (s : State) (d : Dom) : State := (s.domOn d).domLeave d

/-- Alarms latched in BACKUP are reported (R658). -/
def State.alarmLatch (s : State) : State :=
  let l := s.sec.backupAlarms
  let s := { s with sec := { s.sec with backupAlarms := [] } }
  l.foldl (fun s p => s.alarmReport p.1 (p.2 / 2 ^ 24) (p.2 % 2 ^ 24) true) s

/-- A flash slot's image: 0 A, 1 B. -/
def State.flashImg (s : State) (k : Nat) : Image := if k = 0 then s.flash.slotA else s.flash.slotB

/-- MAGIC and VERSION of a slot are valid. -/
def slotOk (i : Image) : Bool := imgN i 0 4 == 0x454D5246 && imgN i 4 2 == 1

/-- The order in which Locksmith takes the slots (R642). -/
def State.slotOrder (s : State) : List Nat :=
  let a := s.flashImg 0
  let b := s.flashImg 1
  if slotOk b && (!slotOk a || decide (imgN a 12 4 < imgN b 12 4)) then [1, 0] else [0, 1]

/-- The result of both passes over a slot: R637 but for BUSY, ADDR, PARTITION and SLOT; bad says that the second hash
differs from the first. -/
def State.slotResult (s : State) (i : Image) (bad : Bool) : Nat × Nat × Nat :=
  if s.get F.SEC_LIFE = 3 then (1, 0, 0)
  else if !formOk i then (5, 0, 0)
  else
    match s.formeBody i with
    | (0, _, _) => if bad then (8, 0, 0) else (0, 0, 0)
    | r => r

/-- The first slot accepted; each slot rejected is reported (R643). -/
def State.pickSlot (s : State) (bad : Nat → Bool) : List Nat → Option Nat × State
  | [] => (none, s)
  | k :: r =>
    let x := s.slotResult (s.flashImg k) (bad k)
    if x.1 = 0 then (some k, s) else (s.formeReport x (s.flashImg k) false true).pickSlot bad r

/-- A resident Forme takes force at start-up (R642, R646): the datapath up, the delays, the commit, the cores. -/
def State.bootForme (s : State) (k : Nat) : State :=
  let i := s.flashImg k
  let s := ({ s with forme := some (i, imgLen i) }.set F.PWR_STATE_STAT_NO_FORME 0).set F.SEC_FORME_STAT_FLASH_SLOT k
  let s := s.formeRegs .aon
  let s := ((runDoms ++ s.askedDoms).foldl State.up s).memBoot
  let s := (s.loadCores i).formeForce i
  let s := s.commitInto (s.freeImg.getD 0) (some (gainsOf i))
  (s.startCores i).formeReport (0, 0, 0) i false true

/-- The no-Forme condition (R643): the default partitions, J0's boot ROM alone; the Forme's registers hold 0 (R646). -/
def State.bootBare (s : State) : State :=
  let s := s.set F.PWR_STATE_STAT_NO_FORME 1
  let s := ((s.set F.SEC_FORME_VER 0).setBytes F.SEC_FORME_HASH (zeros 48)).set F.PWR_DOM_REQ 0
  ((s.up .host).up .hbm).memBoot

/-- The first start since PD_AON was reset draws the nonce of debug tokens (R672); nothing reads it before. -/
def State.bootNonce (s : State) : State :=
  if s.sec.nonceDue then { s with sec := { s.sec with nonceDue := false } }.newNonce else s

/-- Everything down, the Forme no longer in force, then PD_CTRL with J0's boot ROM, the Ledger and the alarm latch. -/
def State.bootCtrl (s : State) : State :=
  let s := (Dom.all.filter (fun d => d != .aon)).foldl State.domOff s
  let s := { s with pwr := .fresh, forme := none, pins := { s.pins with resetN := true } }
  let s := (s.set F.PWR_STATE_STAT_STATE 0).set F.PWR_STATE_STAT_TRANS 0
  (((s.up .ctrl).set (F.JRN_STAT_STATE 0) 1).lgrStart).alarmLatch.bootNonce

/-- The resident slot that is accepted takes force, or the no-Forme condition follows. -/
def bootWith (r : Option Nat × State) : State :=
  match r.1 with
  | some k => r.2.bootForme k
  | none => r.2.bootBare

/-- The START record (R671), and FAULT_N after a CHIP_RESET, driven until it is released (R600). -/
def State.bootEnd (s : State) : State :=
  let s := s.dbkStart
  if s.get F.PWR_RST_CAUSE = 2 then
    (((s.set F.WCH_FAULTN_DRIVEN 1).set F.WCH_FAULTN_REL_PEND 0).showPin).beam false
  else s.showPin

/-- A start-up from reset. -/
def State.startUp (s : State) (badA badB : Bool) : State :=
  let s := s.bootCtrl
  (bootWith (s.pickSlot (fun k => if k = 0 then badA else badB) s.slotOrder)).bootEnd

/-- VIN has met R677 and REFCLK has been present for 100 µs (R683). -/
def State.bootable (s : State) : Bool := s.pins.vinOk && s.pins.refclk && decide (s.pins.refclkAt ≤ s.clk.now)

/-- START_UP (R642, R683): the latest of the three moments, with the part down; where RESET_N was low, it is its rise (log
entry 2). -/
def execStartUp (t : Nat) (badA badB : Bool) (s : State) : Host.Outcome State Fault Refusal :=
  let s := s.at t
  .next (if !s.domUp .ctrl && s.bootable then s.startUp badA badB else s)

/-! ## Resets of the part (R600, R684, R685) -/

/-- Every domain except PD_AON is held in reset; its blocks lose what a reset of PD_CTRL and of the others takes.  PD_AON
keeps its state, the sequencer's requests among it (R685). -/
def State.allReset (s : State) : State :=
  (Dom.all.filter (fun d => d != .aon && bitOf s.domsOn d.idx)).foldl
    (fun s d => (s.domReset d).domBit F.PWR_DOM_STAT_RST d true) s

/-- RESET_N_ASSERT (R684). -/
def execResetNAssert (t : Nat) (s : State) : Host.Outcome State Fault Refusal :=
  let s := s.at t
  let s := { s with pins := { s.pins with resetN := false } }
  .next (if s.pwr.backup then s else s.allReset.set F.PWR_RST_CAUSE 1)

/-- CHIP_RESET (R600): 10 µs after the reaction. -/
def execChipReset (t : Nat) (badA badB : Bool) (s : State) : Host.Outcome State Fault Refusal :=
  let s := s.at t
  .next (match s.watch.chipReset with
    | none => s
    | some d =>
      if s.domUp .ctrl && decide (d ≤ s.clk.now) then
        let s := s.allReset.set F.PWR_RST_CAUSE 2
        if s.bootable && s.pins.resetN then s.startUp badA badB else s
      else s)

/-! ## VIN, VBAK and clocks (R670, R678, R680) -/

/-- VIN_RETURN (R677, R680): VIN has stayed at or above 5.8 V for 1 ms; START_UP follows. -/
def execVinReturn (t : Nat) (s : State) : Host.Outcome State Fault Refusal :=
  let s := s.at t
  .next { s with pins := { s.pins with vinLow := false, vinOk := true, vinFeeds := true } }

/-- What is fused, and what flash tells of the journal (R622, R641, R650, R672). -/
def aonFused : List Fld := [F.SEC_LIFE, F.SEC_ROLLBACK, F.TOP_SERIAL, F.LGR_STAT_BAD]

/-- What BACKUP keeps of the registers of PD_AON (R27, R431, R618, R624, R652): with the fuses, the Strongbox, the calendar's
validity, the epoch numbers and the cause of a CHIP_RESET. -/
def backupKept : List Fld :=
  aonFused ++ [F.SEC_SLOTS, F.LGR_STAT_CAL_VALID, F.TOP_CFG_EPOCH, F.TOP_GAIN_EPOCH, F.TOP_FORME_EPOCH, F.WCH_RST_STAT_VALID]
    ++ (List.range 4).map F.WCH_RST_CAUSE

/-- PD_AON is reset but for some registers (R14); a new nonce is due (R672). -/
def State.aonReset (s : State) (keep : List Fld) : State :=
  let t := keep.foldl (fun t f => t.set f (s.get f)) (s.resetRegs .aon)
  { t with sec := { t.sec with authOpen := false, advanceAt := none, nonceDue := true }
           lgr := { t.lgr with thermArmed := false, energyFrac := 0 } }

/-- PD_AON loses its contents (R431, R600, R618, R652): Strongbox, calendar and registers but the fused ones. -/
def State.aonLost (s : State) : State :=
  let c := (s.lgr.last.map JEntry.copy).getD LCopy.zero
  let s := ({ s.eraseSlots (List.range 24) with sec := { (s.eraseSlots (List.range 24)).sec with
    backupAlarms := [], levels := [] } }).aonReset aonFused
  let s := s.lgrMap (fun _ => c)
  let s := (s.set F.TOP_CFG_EPOCH (c.cfgEpoch + 2 ^ 32)).set F.TOP_GAIN_EPOCH (c.gainEpoch + 2 ^ 32)
  s.set F.TOP_FORME_EPOCH (c.formeEpoch + 2 ^ 32)

/-- PD_AON has lost VIN and VBAK (R652, R677). -/
def State.aonFeed (s : State) : State := if s.aonFed then s else s.aonLost

/-- VIN_WARN, and FORME_PERSIST where a copy to flash fails by it (R640), reach the Watch before PD_CTRL goes off (R678). -/
def State.vinWarned (s : State) : State :=
  let s := s.raise 0x00 0 0
  let s := if s.sec.persist.isSome then s.raise 0x0B 0 0 else s
  if s.domUp .ctrl then s.watchClock [] [0x00, 0x0B] else s

/-- The copy of a Forme to flash has failed (R640). -/
def State.persistLost (s : State) : State :=
  match s.sec.persist with
  | some _ => (({ s with sec := { s.sec with persist := none } }).flashPut []).set F.SEC_FORME_STAT_PERSIST_BUSY 0
  | none => s

/-- The VIN-failure entry (R678, R680). -/
def State.vinEntry (s : State) (f : VinFall) : State := if f.depth = .early then s.journalCut 2 else s.journal 2 f.fails

/-- BACKUP (R27, R664, R678): every domain except PD_AON is off and the Ledger writes its entry; PD_AON keeps what BACKUP
keeps. -/
def State.toBackup (s : State) (f : VinFall) : State :=
  let s := (((Dom.all.filter (fun d => d != .aon)).foldl State.domOff s).vinEntry f).persistLost
  (({ s with pwr := { Pwr.fresh with backup := true } }).aonReset backupKept).set F.PWR_RST_CAUSE 3

/-- VIN_WARN (R664, R677, R678): VIN falls below 5.5 V.  Below 4.5 V only VBAK feeds PD_AON, and without it PD_AON loses its
contents (R652). -/
def execVinWarn (t : Nat) (f : VinFall) (s : State) : Host.Outcome State Fault Refusal :=
  let s := s.at t
  let s := { s with pins := { s.pins with vinLow := true, vinOk := false } }
  let s := if s.pwr.backup then s else s.vinWarned.toBackup f
  .next ({ s with pins := { s.pins with vinFeeds := s.pins.vinFeeds && f.depth == VinDepth.held } }).aonFeed

/-- VBAK_LOW (R670): below 2.0 V; lost says that VBAK is gone, which takes PD_AON's contents where VIN does not feed it
(R677). -/
def execVbakLow (t : Nat) (lost : Bool) (s : State) : Host.Outcome State Fault Refusal :=
  let s := s.at t
  .next ({ s with pins := { s.pins with vbakOk := false, vbakGone := s.pins.vbakGone || lost } }.raise 0x05 0 0).aonFeed

/-- REFCLK_LOSS (R670). -/
def execRefclkLoss (t : Nat) (s : State) : Host.Outcome State Fault Refusal :=
  let s := s.at t
  .next ((({ s with pins := { s.pins with refclk := false } }).bypass).raise 0x03 0 0)

/-- PLL_LOCK_LOSS (R670): the PLL of a clock domain of R29; without CK_RING (5) the ring transmitters do not send (R464). -/
def execPllLockLoss (t : Nat) (clk : Fin 9) (s : State) : Host.Outcome State Fault Refusal :=
  let s := s.at t
  let s := if clk.val = 5 then ({ s with pins := { s.pins with ringPll := false } }).bypass else s
  .next (s.raise 0x02 clk.val 0)

end Sys2Proof.Machine
end

