-- ==== Sys2Proof/Machine/Cores.lean ====
section
/-! DEFINITION. The Journeyman cores as the rules see them (R597, R647 to R649): traps, watchdogs, mailboxes. -/

namespace Sys2Proof.Machine
open Sys2Proof

/-- A trap or watchdog expiry of J0 in an NMI causes CHIP_RESET (R600, R648): the message of the source that reports it is
copied into PD_AON, FAULT_N falls, and the reset follows 10 µs later. -/
def State.coreReset (s : State) (src : Nat) : State :=
  let f : FMsg := ⟨src, 1, 0, 0, 0, s.mtNs s.clk.now g1ns % 2 ^ 48, (s.watch.msgs + 1) % 256⟩
  let s := if s.watch.chipReset.isSome then s else (s.setMsg F.WCH_RST_CAUSE f.word).set F.WCH_RST_STAT_VALID 1
  let s := s.faultAssert src
  { s with watch := { s.watch with chipReset := some (s.watch.chipReset.getD (s.clk.now + us 10)) } }

/-- J0 was handling an NMI: inNmi is the core's own report, and an NMI must have been taken. -/
def State.nmiCaught (s : State) (j : Nat) (inNmi : Bool) (src : Nat) : State :=
  if j == 0 && inNmi && (s.cores.get 0 Core.idle).nmi then s.coreReset src else s

/-- JRN_TRAP (R648). -/
def execJrnTrap (t : Nat) (j : Fin 8) (cause : BitVec 8) (inNmi : Bool) (s : State) : Host.Outcome State Fault Refusal :=
  let s := s.at t
  .next (if s.domUp .ctrl && s.get (F.JRN_STAT_STATE j.val) == 1 then
      (((s.set (F.JRN_STAT_STATE j.val) 3).set (F.JRN_STAT_TRAP j.val) cause.toNat).raise 0x06 j.val 0).nmiCaught j inNmi 0x06
    else s)

/-- The watchdog of a core starts over. -/
def State.kick (s : State) (j : Nat) : State :=
  { s with cores := s.cores.put j { s.cores.get j Core.idle with lastKick := s.clk.now } }

/-- JRN_WDOG (R648): no kick for JRN_WDOG[j] µs. -/
def execJrnWdog (t : Nat) (j : Fin 8) (inNmi : Bool) (s : State) : Host.Outcome State Fault Refusal :=
  let s := s.at t
  let w := s.get (F.JRN_WDOG j.val)
  .next (if s.domUp .ctrl && w != 0 && decide ((s.cores.get j Core.idle).lastKick + us w ≤ s.clk.now) then
      ((s.kick j).raise 0x07 j.val 0).nmiCaught j inNmi 0x07
    else s)

/-- The master number of core j (R710). -/
def coreMaster (j : Nat) : Nat := j + 1

/-- JRN_KICK (R648): only core j kicks its watchdog. -/
def execJrnKick (m : Fin 9) (j : Fin 8) (s : State) : Host.Outcome State Fault Refusal :=
  .next (s.regOp m (F.JRN_KICK j.val).off (fun s => if m.val = coreMaster j then s.kick j else s))

/-- JRN_MB_POST (R649): the cause of vector 32 + j. -/
def execJrnMbPost (m : Fin 9) (j : Fin 8) (s : State) : Host.Outcome State Fault Refusal :=
  .next (s.regOp m (F.JRN_MB_POST j.val).off (fun s => s.irq (32 + j)))

/-- A write to the last word of a core's inbox: from HOST it raises a mailbox event in the core (R649). -/
def State.mbIn (s : State) (m : Fin 9) (j v : Nat) : State :=
  let s := s.set (F.JRN_MB_IN j 7) v
  if m = 0 then
    let c := s.cores.get j Core.idle
    { s with cores := s.cores.put j { c with mbEvents := c.mbEvents + 1 } }
  else s

/-- JRN_MB_IN. -/
def execJrnMbIn (m : Fin 9) (j : Fin 8) (v : BitVec 32) (s : State) : Host.Outcome State Fault Refusal :=
  .next (s.regOp m (F.JRN_MB_IN j.val 7).off (fun s => s.mbIn m j v.toNat))

end Sys2Proof.Machine
end

