-- ==== Sys2Proof/Machine/Loupe.lean ====
section
/-! DEFINITION. Loupe (R552 to R568): camera ports, frames and their records, settings sets and tags, correction, spot
metrology and registration marks. -/

namespace Sys2Proof.Machine
open Sys2Proof

/-! ## Frames as they stand -/

/-- Hold the open frame of a context. -/
def State.setFrame (s : State) (c : Nat) (f : VFrame) : State :=
  { s with vis := { s.vis with frames := s.vis.frames.put c f } }

/-- Change the open frame of a context, if there is one. -/
def State.onFrame (s : State) (c : Nat) (g : VFrame → VFrame) : State :=
  match s.vis.frames.lookup c with
  | none => s
  | some f => s.setFrame c (g f)

/-- Set a mark of R555. -/
def VFrame.mark (f : VFrame) (i : Nat) : VFrame := { f with marks := f.marks ||| 2 ^ i }

/-- A register of the context as it applies to the frame. -/
def VFrame.app (f : VFrame) (x : Fld) : Nat := f.cfg.get x

/-- The bit depth of a DT code. -/
def dtBits (dt : Nat) : Nat := [8, 10, 12, 16].getD dt 16

/-- Frames of the open context: the slot size in bytes and the slot's address (R556). -/
def VFrame.slotBytes (f : VFrame) (c : Nat) : Nat := f.app (F.VIS_CTX_SLOT_SIZE c) * 65536

/-- The HBM address of the frame's slot. -/
def VFrame.slotAddr (f : VFrame) (c : Nat) : Nat := f.app (F.VIS_CTX_BASE c) + f.slot * f.slotBytes c

/-- Offset of the pixels in a slot (R556). -/
def pixOfs : Nat := 65792

/-- Pixel x of line i has a place in the slot (R556). -/
def VFrame.fits (f : VFrame) (c i x : Nat) : Bool :=
  decide (2 * x + 2 ≤ f.app (F.VIS_CTX_STRIDE c))
    && decide (pixOfs + i * f.app (F.VIS_CTX_STRIDE c) + 2 * x + 2 ≤ f.slotBytes c)

/-! ## Closing (R554, R555) -/

/-- The marks a frame gets at its close from its counts (R555). -/
def VFrame.shape (f : VFrame) (c : Nat) : Nat :=
  let w := f.app (F.VIS_CTX_SIZE_WIDTH c)
  let h := f.app (F.VIS_CTX_SIZE_HEIGHT c)
  let n := f.lines.length
  let tooLong := (List.range n).any (fun i =>
    let k := ((f.lines[i]?).getD []).length
    k != 0 && !f.fits c i (k - 1))
  b2n (f.lines.any (fun l => decide (l.length < w))) + 2 * b2n (f.lines.any (fun l => decide (w < l.length)))
    + 4 * b2n (decide (n < h)) + 8 * b2n (decide (h < n)) + 256 * b2n tooLong

/-- A frame closes, with a mark where the event gives one; a dropped frame leaves nothing (R554, R555, R557). -/
def State.closeFrame (s : State) (c : Nat) (mark : Option Nat) : State :=
  match s.vis.frames.lookup c with
  | none => s
  | some f =>
    let s := { s with vis := { s.vis with frames := s.vis.frames.erase c } }
    if f.dropped then s
    else
      let f := match mark with | none => f | some i => f.mark i
      let f := { f with marks := f.marks ||| f.shape c, tFe := s.mtNs s.clk.now g1ns }
      let s := { s with vis := { s.vis with closed := s.vis.closed.put c (s.vis.closed.get c [] ++ [f]) } }
      let s := if f.marks = 0 then s else s.inc (F.VIS_CTX_MARKED c)
      if f.marks &&& 79 = 0 then s else s.raise 0x73 0 0

/-! ## Settings sets and tags (R559, R560) -/

/-- Frame number a lies before frame number b, of the 32-bit numbers that wrap (R582). -/
def fnBefore (a b : Nat) : Bool := decide (2 ^ 31 ≤ (a % 2 ^ 32 + (2 ^ 32 - b % 2 ^ 32)) % 2 ^ 32)

/-- From a frame on, a tag. -/
def tagFrom (l : List (Nat × Nat)) (k tag : Nat) : List (Nat × Nat) :=
  l.filter (fun p => fnBefore p.1 k) ++ [(k % 2 ^ 32, tag)]

/-- The tag of a frame, and what remains to come after it. -/
def tagAt (l : List (Nat × Nat)) (k : Nat) : Nat × List (Nat × Nat) :=
  let past := l.filter (fun p => !fnBefore k p.1)
  let cur := ((past.getLast?).map Prod.snd).getD 0
  (cur, (k, cur) :: l.filter (fun p => fnBefore k p.1))

/-- Hold the tags of a context. -/
def State.setTags (s : State) (c : Nat) (l : List (Nat × Nat)) : State :=
  { s with vis := { s.vis with tags := s.vis.tags.put c l } }

/-- A set that began at frame k, with latency L, is complete and j is the next frame: its tag comes into force (R560). -/
def State.setTaken (s : State) (c j : Nat) : State :=
  match s.vis.acked.lookup c with
  | none => s
  | some (_, lat, tag) =>
    ({ s with vis := { s.vis with acked := s.vis.acked.erase c } }).setTags c
      (tagFrom (s.vis.tags.get c []) (j + 2 ^ 32 - 1 + lat) tag)

/-- Put the next write of the set on the bus; the set is complete after its last (R560). -/
def State.cciNext (s : State) (p : Nat) (r : CciRun) : State :=
  match r.set.entries[r.idx]? with
  | some (a, v) =>
    let len := [1, 2, 4, 4].getD (bits a 8 2) 4
    let reg := if bitOf a 7 then bits a 16 16 else bits a 16 8
    (({ s with vis := { s.vis with cci := s.vis.cci.put p r } }).set (F.VIS_PORT_STAT_CCI_BUSY p) 1).emit
      (.cci p (bits a 0 7) (bitOf a 7) reg (v % 256 ^ len) len)
  | none =>
    ({ s with vis := { s.vis with cci := s.vis.cci.erase p
                                  acked := s.vis.acked.put r.ctx (r.k, r.lat, r.set.tag) } }).set
      (F.VIS_PORT_STAT_CCI_BUSY p) 0

/-- The armed set of a context starts at the Frame Start of frame k while the bus is free (R560). -/
def State.setBegin (s : State) (c k : Nat) : State :=
  match s.vis.armed.lookup c with
  | none => s
  | some x =>
    if (s.vis.cci.lookup (c / 4)).isSome then s
    else
      let lat := s.get (F.VIS_CTX_LAT c)
      let s := ({ s with vis := { s.vis with armed := s.vis.armed.erase c } }).set (F.VIS_CTX_STAT_SET_ARMED c) 0
      (s.setTags c (tagFrom (s.vis.tags.get c []) (k + lat) 0xFFFF)).cciNext (c / 4) ⟨c, x, 0, k, lat⟩

/-- CCI_WRITE_DONE (R560): acknowledged, or not. -/
def execCciWriteDone (t : Nat) (p : Fin 2) (nak : Bool) (s : State) : Host.Outcome State Fault Refusal :=
  let s := s.at t
  .next (match s.vis.cci.lookup p.val with
    | none => s
    | some r =>
      if nak then
        ((({ s with vis := { s.vis with cci := s.vis.cci.erase p.val } }).set (F.VIS_PORT_STAT_CCI_BUSY p.val) 0).set
          (F.VIS_CTX_STAT_CCI_NAK r.ctx) 1).raise 0x75 0 0
      else s.cciNext p.val { r with idx := r.idx + 1 })

/-- The pending settings set of a context (R559, R581). -/
def State.pendingSet (s : State) (c : Nat) : VSet :=
  ⟨min 0xFFFE (s.get (F.VIS_SET_CTL_TAG c)), (List.range (min 16 (s.get (F.VIS_SET_CTL_N c)))).map (fun i =>
    (s.get (F.VIS_SET_A_DEV c i) + s.get (F.VIS_SET_A_ADDR16 c i) * 2 ^ 7 + s.get (F.VIS_SET_A_DLEN c i) * 2 ^ 8
      + s.get (F.VIS_SET_A_REG c i) * 2 ^ 16, s.get (F.VIS_SET_V c i)))⟩

/-- The pending set becomes the armed set (R559). -/
def State.setArm (s : State) (c : Nat) : State :=
  ({ s with vis := { s.vis with armed := s.vis.armed.put c (s.pendingSet c) } }).set (F.VIS_CTX_STAT_SET_ARMED c) 1

/-- VIS_SET_ARM (R559). -/
def execVisSetArm (m : Fin 9) (c : Fin 8) (s : State) : Host.Outcome State Fault Refusal :=
  .next (s.regOp m (F.VIS_SET_ARM_ARM c.val).off (fun s => s.setArm c))

/-! ## Slots (R556, R557) -/

/-- VIS_CTX_STAT.FREE follows the slots taken. -/
def State.showFree (s : State) (c : Nat) : State :=
  s.set (F.VIS_CTX_STAT_FREE c) (s.app (F.VIS_CTX_SLOT_SLOTS c) - s.vis.taken.get c 0)

/-- The k oldest unreleased slots are released (R582). -/
def State.relSlots (s : State) (c k : Nat) : State :=
  ({ s with vis := { s.vis with taken := s.vis.taken.put c (s.vis.taken.get c 0 - k) } }).showFree c

/-- VIS_CTX_REL (R582). -/
def execVisCtxRel (m : Fin 9) (c : Fin 8) (k : Nat) (s : State) : Host.Outcome State Fault Refusal :=
  .next (s.regOp m (F.VIS_CTX_REL c.val).off (fun s => s.relSlots c (k % 256)))

/-- A frame takes its slot: none where it is dropped (R557). -/
def State.takeSlot (s : State) (c : Nat) : Option Nat × State :=
  let n := s.app (F.VIS_CTX_SLOT_SLOTS c)
  let ok := s.inTables (s.app (F.VIS_CTX_BASE c)) (n * (s.app (F.VIS_CTX_SLOT_SIZE c) * 65536))
    && decide (2 ≤ s.app (F.VIS_CTX_SLOT_SIZE c))
  let k := s.vis.taken.get c 0
  if ok && decide (k < n) then
    let i := s.vis.nextSlot.get c 0 % n
    (some i, { s with vis := { s.vis with nextSlot := s.vis.nextSlot.put c ((i + 1) % n), taken := s.vis.taken.put c (k + 1) } })
  else
    let s := if ok then s else s.set (F.VIS_CTX_STAT_ADDR c) 1
    (none, (s.inc (F.VIS_CTX_DROP c)).raise 0x74 0 0)

/-! ## The tables a frame needs (R561, R562, R564, R567) -/

/-- The entries of a defect map: x and y. -/
def defEntries (l : List Byte) : List (Nat × Nat) :=
  (List.range (l.length / 4)).map (fun i => (leAt l (4 * i) 2, leAt l (4 * i + 2) 2))

/-- Ascending order of y, and of x within y, with no repeats. -/
def defOrdered : List (Nat × Nat) → Bool
  | [] => true
  | [_] => true
  | a :: b :: r => decide (a.2 < b.2 ∨ (a.2 = b.2 ∧ a.1 < b.1)) && defOrdered (b :: r)

/-- Read n bytes of a table: none outside the partition, with the memory stopped, or where they read poisoned. -/
def State.table (s : State) (a n : Nat) : Option (List Byte) × State :=
  if !s.inTables a n || !s.memUp then (none, s) else s.rdOr 6 a n

/-- The defect map of a port is refused, or stands. -/
def State.defMark (s : State) (p : Nat) (bad : Bool) : State :=
  let key := (s.app (F.VIS_DEF_BASE p), s.app (F.VIS_DEF_N p))
  let l := s.vis.defBad.filter (· != p)
  let s := { s with vis := { s.vis with defSeen := s.vis.defSeen.put p key, defBad := if bad then p :: l else l } }
  if bad then s.raise 0x76 0 0 else s

/-- At a Frame Start, a map whose registers have changed is checked (R562); the map to use, none where it was needed and
could not be read. -/
def State.defTable (s : State) (p : Nat) : Option (List (Nat × Nat)) × State :=
  let a := s.app (F.VIS_DEF_BASE p)
  let n := s.app (F.VIS_DEF_N p)
  let fresh := s.vis.defSeen.get p (0, 0) != (a, n)
  if n = 0 then (some [], if fresh then s.defMark p false else s)
  else if !s.inTables a (4 * n) || decide (65536 < n) then (some [], if fresh then s.defMark p true else s)
  else
    match s.table a (4 * n) with
    | (none, s) => (none, s)
    | (some l, s) =>
      let e := defEntries l
      let s := if fresh then s.defMark p (!defOrdered e) else s
      (some (if s.vis.defBad.contains p then [] else e), s)

/-- The blocks' check: CRC-32C over the address, bytes 0..59 and what follows the block. -/
def blockOk (a magic : Nat) (b : List Byte) : Bool :=
  leAt b 0 4 == magic && leAt b 60 4 == crc32c (leBytes 8 a ++ b.take 60 ++ b.drop 64)

/-- Bytes lo..hi of a block are 0. -/
def zeroAt (b : List Byte) (lo hi : Nat) : Bool := ((b.drop lo).take (hi + 1 - lo)).all (· == 0)

/-- The ranges of the metrology block (R564). -/
def metOk (b : List Byte) : Bool :=
  decide (1 ≤ leAt b 8 2 ∧ leAt b 8 2 ≤ 64) && decide (1 ≤ leAt b 10 2 ∧ leAt b 10 2 ≤ 64)
    && decide (leAt b 4 2 + leAt b 8 2 ≤ 512) && decide (leAt b 6 2 + leAt b 10 2 ≤ 512)
    && decide (1 ≤ leAt b 12 1 ∧ leAt b 12 1 ≤ 7) && zeroAt b 13 15 && zeroAt b 42 43 && zeroAt b 48 59

/-- The ranges of the registration block (R567). -/
def regOk (b : List Byte) : Bool :=
  decide (1 ≤ leAt b 4 1 ∧ leAt b 4 1 ≤ 32) && decide (1 ≤ leAt b 5 1 ∧ leAt b 5 1 ≤ 32)
    && decide (1 ≤ leAt b 16 2 ∧ leAt b 16 2 ≤ 128) && decide (1 ≤ leAt b 18 2 ∧ leAt b 18 2 ≤ 128)
    && zeroAt b 6 7 && zeroAt b 20 23 && zeroAt b 32 59

/-- The metrology block of a context: none where it fails (R564). -/
def State.metTable (s : State) (c : Nat) : Option (List Byte) × State :=
  let a := s.app (F.VIS_MET_BASE c)
  match s.table a 64 with
  | (none, s) => (none, s)
  | (some b, s) => (if metOk b && blockOk a 0x54454D56 b then some b else none, s)

/-- The registration block of a context and its template: none where it fails (R567). -/
def State.regTable (s : State) (c : Nat) : Option (List Byte) × State :=
  let a := s.app (F.VIS_REG_BASE c)
  match s.table a 64 with
  | (none, s) => (none, s)
  | (some b, s) =>
    if !regOk b then (none, s)
    else
      match s.table (leAt b 24 8) (2 * (leAt b 4 1 * leAt b 5 1)) with
      | (none, s) => (none, s)
      | (some t, s) => (if blockOk a 0x47455256 (b ++ t) then some (b ++ t) else none, s)

/-- Take a table that a frame needs: a failure marks TABLE (R555). -/
def needed {α : Type} (want : Bool) (r : Option α × State) (s : State) : Option α × Bool × State :=
  if !want then (none, false, s) else (r.1, r.1.isNone, r.2)

/-! ## Frame Start (R554 to R562) -/

/-- The start-of-frame registers of a context and the defect map registers of its port take effect (R15). -/
def State.frameApply (s : State) (c : Nat) : State :=
  { s with strip := (frameFlds c ++ [F.VIS_DEF_BASE (c / 4), F.VIS_DEF_N (c / 4)]).foldl (fun r f => r.set f (s.get f)) s.strip }

/-- The frame that opens: its tables are read and checked, and its marks of the opening set. -/
def State.newFrame (s : State) (c fn sensorFn tag : Nat) (slot : Option Nat) : State :=
  let cfg : Regs := (frameFlds c).foldl (fun r f => r.set f (s.app f)) []
  let (d, s) := s.defTable (c / 4)
  let (lsc, bl, s) := needed (slot.isSome && s.app (F.VIS_CTX_CTL_LSC_EN c) == 1)
    (s.table (s.app (F.VIS_LSC_BASE c)) 2178) s
  let (met, bm, s) := needed (slot.isSome && s.app (F.VIS_CTX_CTL_MET_EN c) == 1) (s.metTable c) s
  let (reg, br, s) := needed (slot.isSome && s.app (F.VIS_CTX_CTL_REG_EN c) == 1) (s.regTable c) s
  let bad := slot.isSome && (bl || bm || br || (d.isNone && s.app (F.VIS_CTX_CTL_DEF_EN c) == 1))
  let marks := b2n (tag == 0xFFFF) * 2 ^ 9 + b2n (s.vis.defBad.contains (c / 4)) * 2 ^ 10 + b2n bad * 2 ^ 12
  let now := s.clk.now
  let f : VFrame := {
    fn := fn, sensorFn := sensorFn % 2 ^ 16, slot := slot.getD 0, tFs := s.mtNs now g1ns, tFe := 0, at_ := now
    dropped := slot.isNone, lastPkt := now, lines := [], marks := marks, crcErr := 0, eccErr := 0, tag := tag, cfg := cfg
    defMap := if s.app (F.VIS_CTX_CTL_DEF_EN c) == 1 then d.getD [] else [], lsc := lsc, met := met, reg := reg }
  let s := s.setFrame c f
  if bad then s.raise 0x77 0 0 else s

/-- A Frame Start of a context. -/
def State.frameStart (s : State) (c sensorFn : Nat) : State :=
  let s := (s.closeFrame c (some 6)).frameApply c
  if s.app (F.VIS_CTX_CTL_EN c) = 0 then s
  else
    let k := (s.get (F.VIS_CTX_FRAME c) + 1) % 2 ^ 32
    let s := ((s.set (F.VIS_CTX_FRAME c) k).setTaken c k).setBegin c k
    let (tag, l) := tagAt (s.vis.tags.get c []) k
    let s := (s.setTags c l).set (F.VIS_CTX_STAT_TAG c) tag
    let (slot, s) := s.takeSlot c
    (s.newFrame c k sensorFn tag slot).showFree c

/-- A packet of a context whose header ECC corrected an error (R555, R579): counted, marked on the context's open frame, and
CSI_ECC is raised. -/
def State.headerFixed (s : State) (c : Nat) (fixed : Bool) : State :=
  if fixed then ((s.inc (F.VIS_CTX_ECC c)).onFrame c (fun f =>
    { f.mark 5 with eccErr := min 65535 (f.eccErr + 1) })).raise 0x72 0 0
  else s

/-- FRAME_START (R554).  A corrected header error of the packet belongs to the frame that it opens (DEDUCED, log entry 115). -/
def execFrameStart (t : Nat) (p : Fin 2) (vc : Nat) (k : FramePkt) (s : State) : Host.Outcome State Fault Refusal :=
  let s := s.at t
  .next (if s.domUp .vision && s.flag (F.VIS_PORT_CTL_EN p.val) && decide (vc < 4) then
      (s.frameStart (4 * p.val + vc) k.fn).headerFixed (4 * p.val + vc) k.eccFixed
    else s)

/-- FRAME_END (R554).  A corrected header error of the packet belongs to the frame that it closes (DEDUCED, log entry 115). -/
def execFrameEnd (t : Nat) (p : Fin 2) (vc : Nat) (k : FramePkt) (s : State) : Host.Outcome State Fault Refusal :=
  let s := s.at t
  .next (if s.domUp .vision && s.flag (F.VIS_PORT_CTL_EN p.val) && decide (vc < 4) then
      (s.headerFixed (4 * p.val + vc) k.eccFixed).closeFrame (4 * p.val + vc) none
    else s)

/-- FRAME_TIMEOUT (R554): 1 s without a packet of the context. -/
def execFrameTimeout (t : Nat) (c : Fin 8) (s : State) : Host.Outcome State Fault Refusal :=
  let s := s.at t
  .next (match s.vis.frames.lookup c.val with
    | none => s
    | some f => if f.lastPkt + ms 1000 ≤ s.clk.now then s.closeFrame c (some 6) else s)

/-- The data lanes a port uses (R581). -/
def State.camLanes (s : State) (p : Nat) : Nat :=
  match s.get (F.VIS_PORT_CTL_LANES p) with | 0 => 1 | 1 => 2 | 2 => 2 | _ => 4

/-- CAM_LANE_LOCK_LOSS (R554, R579). -/
def execCamLaneLockLoss (t : Nat) (p : Fin 2) (lane : Fin 4) (s : State) : Host.Outcome State Fault Refusal :=
  let s := s.at t
  .next (if s.domUp .vision then
      let s := s.set (F.VIS_PORT_STAT_LANE_UP p.val) (putBits (s.get (F.VIS_PORT_STAT_LANE_UP p.val)) lane 1 0)
      if lane.val < s.camLanes p then
        let s := (List.range 4).foldl (fun s v => s.closeFrame (4 * p.val + v) (some 11)) s
        if s.flag (F.VIS_PORT_CTL_EN p.val) then s.raise 0x70 0 0 else s
      else s
    else s)

/-- CAM_LANE_LOCK (R592). -/
def execCamLaneLock (t : Nat) (p : Fin 2) (lane : Fin 4) (s : State) : Host.Outcome State Fault Refusal :=
  let s := s.at t
  .next (if s.domUp .vision then
      s.set (F.VIS_PORT_STAT_LANE_UP p.val) (putBits (s.get (F.VIS_PORT_STAT_LANE_UP p.val)) lane 1 1)
    else s)

/-! ## Long packets (R553, R555) -/

/-- Pixels of a packed line of n bits a pixel; low bits whose byte is missing are taken from fr. -/
def unpack (n : Nat) (d : List Byte) (fr : Nat) : List Nat :=
  let byte (i : Nat) : Nat := (d[i]?.map BitVec.toNat).getD 0
  (List.range (8 * d.length / n)).map (fun i =>
    if n = 8 then byte i
    else if n = 16 then byte (2 * i) * 256 + byte (2 * i + 1)
    else
      let g := if n = 10 then 4 else 2
      let w := n - 8
      let lsb := (g + 1) * (i / g) + g
      let low := if lsb < d.length then bits (byte lsb) (w * (i % g)) w else bits fr (4 * i) w
      byte ((g + 1) * (i / g) + i % g) * 2 ^ w + low)

/-- The CSI-2 data type of a DT code (R552). -/
def dtCode (dt : Nat) : Nat := 0x2A + if dt = 0 then 0 else if dt = 1 then 1 else if dt = 2 then 2 else 4

/-- A data type that Loupe supports. -/
def rawType (dt : Nat) : Bool := dt == 0x2A || dt == 0x2B || dt == 0x2C || dt == 0x2E

/-- A long packet of a context. -/
def State.longPacket (s : State) (c dt : Nat) (data : List Byte) (eccFixed crcOk : Bool) : State :=
  let s := s.headerFixed c eccFixed
  let s := if crcOk then s else ((s.inc (F.VIS_CTX_CRC c)).onFrame c (fun f =>
    { f.mark 4 with crcErr := min 65535 (f.crcErr + 1) })).raise 0x71 0 0
  let s := s.onFrame c (fun f => { f with lastPkt := s.clk.now })
  let want := match s.vis.frames.lookup c with
    | some f => f.app (F.VIS_CTX_CTL_DT c)
    | none => s.app (F.VIS_CTX_CTL_DT c)
  if dt = dtCode want then
    let n := dtBits want
    let (fr, s) := s.fresh
    s.onFrame c (fun f => { f with lines := f.lines ++ [unpack n data fr] })
  else
    let s := s.inc (F.VIS_PORT_OTHER (c / 4))
    if rawType dt then s.onFrame c (fun f => f.mark 7) else s

/-- LONG_PACKET (R553, R555). -/
def execLongPacket (t : Nat) (p : Fin 2) (vc dt : Nat) (data : List Byte) (eccFixed crcOk : Bool) (s : State) :
    Host.Outcome State Fault Refusal :=
  let s := s.at t
  .next (if s.domUp .vision && s.flag (F.VIS_PORT_CTL_EN p.val) && decide (vc < 4) then
      s.longPacket (4 * p.val + vc) dt data eccFixed crcOk
    else s)

/-- PACKET_ECC_ERROR (R553): a header that cannot be corrected. -/
def execPacketEccError (t : Nat) (p : Fin 2) (s : State) : Host.Outcome State Fault Refusal :=
  let s := s.at t
  .next (if s.domUp .vision && s.flag (F.VIS_PORT_CTL_EN p.val) then
      ((List.range 4).foldl (fun s v => s.onFrame (4 * p.val + v) (fun f =>
        { f.mark 5 with eccErr := min 65535 (f.eccErr + 1) })) (s.inc (F.VIS_PORT_UE p.val))).raise 0x72 0 0
    else s)

/-! ## Correction (R561) -/

/-- A corrected pixel: v16, v3 and whether it was left unfixed. -/
structure Pixel where
  v16 : Nat
  v3 : Nat
  unfixed : Bool
  deriving DecidableEq, Repr

/-- v2 of a pixel of a line with v1 values l, and whether it stays unfixed. -/
def fixPixel (l : List Nat) (bad : List Nat) (x : Nat) : Nat × Bool :=
  let v1 := (l[x]?).getD 0
  if !bad.contains x then (v1, false)
  else
    let left : Option Nat := if x = 0 ∨ bad.contains (x - 1) then none else l[x - 1]?
    let right : Option Nat := if bad.contains (x + 1) then none else l[x + 1]?
    match left, right with
    | some a, some b => ((rhu (a + b : Nat) 2).toNat, false)
    | some a, none => (a, false)
    | none, some b => (b, false)
    | none, none => (v1, true)

/-- The shading gain of a pixel times s²: s² times 16,384 without a grid (R561). -/
def shade (lsc : Option (List Byte)) (s x y : Nat) : Int :=
  match lsc with
  | none => (16384 * s * s : Nat)
  | some b =>
    let g (i j : Nat) : Int := leSAt b (2 * (33 * j + i)) 2
    let xi := min x (32 * s)
    let i := min (xi / s) 31
    let fx := xi - i * s
    let yi := min y (32 * s)
    let j := min (yi / s) 31
    let fy := yi - j * s
    ((s - fx) * (s - fy) : Nat) * g i j + (fx * (s - fy) : Nat) * g (i + 1) j + ((s - fx) * fy : Nat) * g i (j + 1)
      + (fx * fy : Nat) * g (i + 1) (j + 1)

/-- The corrected pixels of a line. -/
def VFrame.fixLine (f : VFrame) (c y : Nat) (raw : List Nat) : List Pixel :=
  let n := dtBits (f.app (F.VIS_CTX_CTL_DT c))
  let sp := 2 ^ (f.app (F.VIS_CTX_CTL_LSC_LOG2 c) + 3)
  let v16 := raw.map (fun r => r * 2 ^ (16 - n))
  let v1 := v16.map (fun v => v - f.app (F.VIS_CTX_BLACK c))
  let bad := (f.defMap.filter (fun p => p.2 == y)).map Prod.fst
  (List.range raw.length).map (fun x =>
    let r := fixPixel v1 bad x
    ⟨(v16[x]?).getD 0, tc 16 (min 65535 (rhu (r.1 * shade f.lsc sp x y) (16384 * sp * sp))), r.2⟩)

/-- The corrected frame. -/
def VFrame.fixed (f : VFrame) (c : Nat) : List (List Pixel) :=
  (List.range f.lines.length).map (fun y => f.fixLine c y ((f.lines[y]?).getD []))

/-- The pixel (x, y) of a corrected frame, none where it was not received. -/
def pixAt (g : List (List Pixel)) (x y : Int) : Option Pixel :=
  if x < 0 ∨ y < 0 then none
  else
    match g[y.toNat]? with
    | none => none
    | some l => l[x.toNat]?

/-! ## Spot metrology (R565, R566) -/

/-- A spot result (R566) with the expected centre. -/
structure Spot where
  row : Nat
  col : Nat
  edge : Bool
  dark : Bool
  dfct : Bool
  cx : Int
  cy : Int
  sum : Nat
  ex : Int
  ey : Int
  deriving DecidableEq, Repr

/-- The spot of beam (ROW0 + a, COL0 + b) (R565); with s = 0 and SPOT_MIN = 0 the centre is a free value. -/
def spotOf (b : List Byte) (g : List (List Pixel)) (ra cb fr : Nat) : Spot :=
  let ex := leSAt b 16 4 + cb * leSAt b 24 4 + ra * leSAt b 32 4
  let ey := leSAt b 20 4 + cb * leSAt b 28 4 + ra * leSAt b 36 4
  let px := rhu ex 256
  let py := rhu ey 256
  let h := leAt b 12 1
  let thr := leAt b 40 2
  let win : List (Int × Int) := (List.range (2 * h + 1)).flatMap (fun (j : Nat) => (List.range (2 * h + 1)).map
    (fun (i : Nat) => (px - (h : Int) + (i : Int), py - (h : Int) + (j : Int))))
  let got := win.filterMap (fun q => (pixAt g q.1 q.2).map (fun v => (q, v)))
  let s := (got.map (fun q => q.2.v3 - thr)).sum
  let sx := (got.map (fun q => ((q.2.v3 - thr : Nat) : Int) * q.1.1)).sum
  let sy := (got.map (fun q => ((q.2.v3 - thr : Nat) : Int) * q.1.2)).sum
  let dark := decide (s < leAt b 44 4)
  let cx := if dark then ex else if s = 0 then sx0 fr 0 else rhu (256 * sx) s
  let cy := if dark then ey else if s = 0 then sx0 fr 32 else rhu (256 * sy) s
  ⟨leAt b 4 2 + ra, leAt b 6 2 + cb, decide (got.length < win.length), dark, got.any (fun q => q.2.unfixed), cx, cy, s, ex, ey⟩
where
  /-- A signed 32-bit piece of a free value. -/
  sx0 (fr lo : Nat) : Int := sx 32 (bits fr lo 32)

/-- The spots of a frame, in ascending row and column (R565). -/
def VFrame.spots (f : VFrame) (g : List (List Pixel)) (fr : Nat) : List Spot :=
  match f.met with
  | none => []
  | some b =>
    (List.range (leAt b 8 2)).flatMap (fun ra => (List.range (leAt b 10 2)).map (fun cb =>
      spotOf b g ra cb (bits fr (64 * (64 * ra + cb)) 64)))

/-- The 16 bytes of a spot result (R566). -/
def Spot.bytes (p : Spot) : List Byte :=
  leBytes 2 (p.row % 512 + b2n p.edge * 2 ^ 12 + b2n p.dark * 2 ^ 13 + b2n p.dfct * 2 ^ 14) ++ leBytes 2 p.col
    ++ leBytes 4 (tc 32 p.cx) ++ leBytes 4 (tc 32 p.cy) ++ leBytes 4 p.sum

/-! ## Registration marks (R568) -/

/-- The SAD of an offset of the search, none where it is skipped. -/
def sadAt (b : List Byte) (g : List (List Pixel)) (dx dy : Nat) : Option Nat :=
  let tw := leAt b 4 1
  let v := (List.range (leAt b 5 1)).flatMap (fun (j : Nat) => (List.range tw).map (fun (i : Nat) =>
    (pixAt g (leSAt b 8 4 + (dx : Int) + (i : Int)) (leSAt b 12 4 + (dy : Int) + (j : Int))).map (fun p =>
      ((p.v3 : Int) - leAt b (64 + 2 * (j * tw + i)) 2).natAbs)))
  if v.all Option.isSome then some (v.map (fun o => o.getD 0)).sum else none

/-- The better of two offsets: the earlier one unless the later SAD is smaller. -/
def better (a b : Option (Nat × Nat × Nat)) : Option (Nat × Nat × Nat) :=
  match a, b with
  | none, b => b
  | a, none => a
  | some x, some y => if y.1 < x.1 then some y else some x

/-- The sub-pixel step from three SADs, and whether EDGE is set (R568). -/
def subStep (m p : Option Nat) (s0 : Nat) : Int × Bool :=
  match m, p with
  | some a, some b =>
    let d : Int := 2 * ((a : Int) - 2 * s0 + b)
    (if d ≤ 0 then 0 else clampI (rhu (256 * ((a : Int) - b)) d.toNat) (-128) 128, false)
  | _, _ => (0, true)

/-- A registration result: MARK_X, MARK_Y, MARK_SAD, MARK_FLAGS. -/
structure RegMark where
  x : Int
  y : Int
  sad : Nat
  flags : Nat
  deriving DecidableEq, Repr

/-- The search of R568. -/
def VFrame.regMark (f : VFrame) (g : List (List Pixel)) : RegMark :=
  match f.reg with
  | none => ⟨0, 0, 0, 0⟩
  | some b =>
    let sw := leAt b 16 2
    let sh := leAt b 18 2
    let sad (dx dy : Int) : Option Nat :=
      if dx < 0 ∨ dy < 0 ∨ (sw : Int) ≤ dx ∨ (sh : Int) ≤ dy then none else sadAt b g dx.toNat dy.toNat
    let best := ((List.range sh).flatMap (fun dy => (List.range sw).map (fun dx =>
      (sadAt b g dx dy).map (fun v => (v, dx, dy))))).foldl better none
    match best with
    | none => ⟨0, 0, 0, 0⟩
    | some (v, dx, dy) =>
      let ux := subStep (sad (dx - 1) dy) (sad (dx + 1) dy) v
      let uy := subStep (sad dx (dy - 1)) (sad dx (dy + 1)) v
      ⟨256 * (leSAt b 8 4 + dx) + ux.1, 256 * (leSAt b 12 4 + dy) + uy.1, v, 1 + 2 * b2n (ux.2 || uy.2)⟩

/-! ## The frame record (R556, R558, R563) -/

/-- The smallest and largest of a list; free where there is none. -/
def minMax (l : List Nat) (fr : Nat) : Nat × Nat :=
  match l with
  | [] => (bits fr 0 16, bits fr 16 16)
  | x :: r => (r.foldl min x, r.foldl max x)

/-- Bytes 0..251 of a frame record. -/
def VFrame.head (f : VFrame) (c : Nat) (g : List (List Pixel)) (nspots : Nat) (m : RegMark) (fr : Nat) : List Byte :=
  let v := g.flatten.map Pixel.v3
  let ls := minMax (f.lines.map List.length) fr
  let vs := minMax v (fr / 2 ^ 32)
  let unfixed := (g.flatten.filter Pixel.unfixed).length
  leBytes 4 0x50554F4C ++ leBytes 2 1 ++ leBytes 1 c ++ zeros 1 ++ leBytes 4 f.fn ++ leBytes 2 f.sensorFn ++ zeros 2
    ++ leBytes 8 f.tFs ++ leBytes 8 f.tFe ++ leBytes 2 f.tag ++ leBytes 2 f.marks ++ leBytes 4 f.lines.length
    ++ leBytes 2 ls.1 ++ leBytes 2 ls.2 ++ leBytes 2 f.crcErr ++ leBytes 2 f.eccErr ++ leBytes 2 unfixed
    ++ leBytes 2 nspots ++ zeros 4 ++ leBytes 4 v.length ++ leBytes 2 vs.1 ++ leBytes 2 vs.2 ++ leBytes 8 v.sum
    ++ leBytes 8 (v.map (fun x => x * x)).sum
    ++ ((List.range 32).map (fun i => leBytes 4 (v.filter (fun x => x / 2048 == i)).length)).flatten
    ++ leBytes 4 (tc 32 m.x) ++ leBytes 4 (tc 32 m.y) ++ leBytes 4 m.sad ++ leBytes 4 m.flags ++ zeros 28

/-- The pixels of a frame are stored line by line (R556, R563). -/
def State.storePixels (s : State) (f : VFrame) (c : Nat) (g : List (List Pixel)) : State :=
  let a := f.slotAddr c + pixOfs
  (List.range g.length).foldl (fun s i =>
    let l := ((g[i]?).getD []).map (fun p => if f.app (F.VIS_CTX_CTL_STORE c) = 1 then p.v3 else p.v16)
    let k := ((List.range l.length).filter (f.fits c i)).length
    s.wr 6 (a + i * f.app (F.VIS_CTX_STRIDE c)) ((l.take k).flatMap (leBytes 2))) s

/-- A frame's pixels and spots, then its record, then vector 20 + c (R558); the frame's spots for Gauger. -/
def State.writeRecord (s : State) (c : Nat) (f : VFrame) : List Spot × State :=
  let (fr, s) := s.fresh
  let g := f.fixed c
  let sp := f.spots g (fr / 2 ^ 64)
  let spb := sp.flatMap Spot.bytes
  let a := f.slotAddr c
  let s := (s.storePixels f c g).wr 6 (a + 256) spb
  let h := f.head c g sp.length (f.regMark g) fr
  let s := s.wr 6 a (h ++ leBytes 4 (crc32c (leBytes 8 a ++ h ++ spb)))
  (sp, s.irq (20 + c))

end Sys2Proof.Machine
end

