-- ==== Sys2Proof/Machine/Gauger.lean ====
section
/-! DEFINITION. Gauger (R569 to R575): runs over frame records, and the trim steppers. -/

namespace Sys2Proof.Machine
open Sys2Proof

/-! ## Outputs and trims (R569, R572) -/

/-- The axis of trim i: offsets and sensitivities of axes 0 and 1. -/
def trimAxis (i : Nat) : Nat := i % 2

/-- The Governor register of trim i. -/
def trimFld (i : Nat) : Fld := if i < 2 then F.GOV_TRIM_OFF (trimAxis i) else F.GOV_DEF_SENS (trimAxis i)

/-- The signed or unsigned value a trim register holds, or that a value in its layout stands for. -/
def trimVal (i v : Nat) : Int := if i < 2 then sx 16 v else ((v % 2 ^ 20 : Nat) : Int)

/-- The trim that a run of a kind measures. -/
def GRun.trim (r : GRun) : Nat := r.kind - 1

/-- The number of outputs of a run. -/
def GRun.size (r : GRun) : Nat := if r.kind = 0 then 4096 else 1

/-- The state of an output. -/
def GRun.out (r : GRun) (k : Nat) : GOut := r.outs.get k ⟨none, false, false⟩

/-- The beams of block b (R317), as r·512 + c. -/
def blockBeams (b : Nat) : List Nat :=
  (List.range 64).flatMap (fun r => (List.range 64).map (fun c => (64 * (b / 8) + r) * 512 + 64 * (b % 8) + c))

/-- Beam r·512 + c lies in block b. -/
def inBlock (b k : Nat) : Bool := k / 512 / 64 == b / 8 && k % 512 / 64 == b % 8

/-- The displaced park register of a SENS run (R569). -/
def GRun.parkFld (r : GRun) : Fld := if r.kind = 3 then F.GOV_PARK_X else F.GOV_PARK_Y

/-- A SENS run. -/
def GRun.sens (r : GRun) : Bool := r.kind == 3 || r.kind == 4

/-- Hold the run. -/
def State.setRun (s : State) (r : Option GRun) : State := { s with gau := { s.gau with run := r } }

/-! ## Start and end (R569, R573) -/

/-- A run is BUSY. -/
def State.gauBusy (s : State) : Bool := s.gau.run.isSome

/-- The run that GAU_RUN_CTL sets is refused (R569). -/
def State.runRefused (s : State) : Bool :=
  let k := s.get F.GAU_RUN_CTL_KIND
  s.gauBusy || !bitOf (s.get F.PWR_DOM_STAT_ON) Dom.vision.idx || decide (4 < k) || (k == 0 && !s.areaValid)
    || ((k == 3 || k == 4) && (s.armedOrRunning || s.get F.GOV_STAT_MODE != 0))

/-- The outputs of a run go STALE (R572). -/
def State.runStale (s : State) (r : GRun) : State :=
  if r.kind = 0 then
    let l := s.gau.stale.filter (fun k => !inBlock r.block k)
    ({ s with gau := { s.gau with stale := blockBeams r.block ++ l } }).set F.GAU_STALE (putBits (s.get F.GAU_STALE) r.block 1 1)
  else s.set F.GAU_TRIM_STAT_STALE (putBits (s.get F.GAU_TRIM_STAT_STALE) r.trim 1 1)

/-- A write of 1 to GAU_RUN_CMD.START (R569). -/
def State.runStart (s : State) : State :=
  if s.runRefused then s.set F.GAU_RUN_STAT_REFUSED 1
  else
    let k := s.get F.GAU_RUN_CTL_KIND
    let r : GRun := {
      kind := k, ctx := s.get F.GAU_RUN_CTL_CTX, block := s.get F.GAU_RUN_CTL_BLOCK
      tries := max 2 (s.get F.GAU_RUN_CTL_TRIES), start := s.clk.now, used := 0, outs := []
      park := s.getS (if k = 3 then F.GOV_PARK_X else F.GOV_PARK_Y), moved := false, held := 0, prevC := none }
    ((((s.setRun (some r)).runStale r).set F.GAU_RUN_STAT_STATE 1).set F.GAU_RUN_STAT_FRAMES 0).set F.GAU_RUN_STAT_ACCEPTED 0

/-- RUN_START (R569). -/
def execRunStart (m : Fin 9) (s : State) : Host.Outcome State Fault Refusal :=
  .next (s.regOp m F.GAU_RUN_CMD_START.off State.runStart)

/-- Outputs accepted in range, and outputs accepted. -/
def GRun.counts (r : GRun) : Nat × Nat :=
  ((r.outs.filter (fun p => p.2.accepted && p.2.inRange)).length, (r.outs.filter (fun p => p.2.accepted)).length)

/-- A run ends, DONE or FAIL (R573); a SENS run puts the park value back (R569). -/
def State.runEnd (s : State) (r : GRun) (ok : Bool) : State :=
  let s := (s.setRun none).set F.GAU_RUN_STAT_STATE (if ok then 2 else 3)
  let s := if r.sens then s.setS r.parkFld r.park else s
  if ok then s.irq 28
  else ((s.addN F.GAU_DISAGREE (r.size - r.counts.2)).raise 0x57 0 0).irq 29

/-- A write of 1 to GAU_RUN_CMD.CANCEL (R573). -/
def State.runCancel (s : State) : State :=
  match s.gau.run with
  | none => s
  | some r => s.runEnd r false

/-- CANCEL (R573). -/
def execCancel (m : Fin 9) (s : State) : Host.Outcome State Fault Refusal :=
  .next (s.regOp m F.GAU_RUN_CMD_CANCEL.off State.runCancel)

/-! ## Trim targets (R572, R574, R575) -/

/-- An accepted value becomes the stepping target of trim i (R572). -/
def State.trimTarget (s : State) (i : Nat) (v : Int) : State :=
  let w := tc (trimFld i).width v
  let s := s.set (F.GAU_TRIM_TGT i) w
  s.stepping i (w != s.get (trimFld i))

/-- The stepper of trim i is held (R574). -/
def State.trimPaused (s : State) (i : Nat) : Bool :=
  bitOf (s.get F.GAU_TRIM_STAT_STALE) i || s.flag F.GOV_STAT_FREEZE
    || s.flag (if trimAxis i = 0 then F.GOV_STAT_SAT_X else F.GOV_STAT_SAT_Y)

/-- One step of a trim toward its target (R574). -/
def State.trimStep (s : State) (i : Nat) : State :=
  if !bitOf (s.get F.GAU_TRIM_CTL_EN) i || !s.gau.targets.contains i || s.trimPaused i then s
  else
    let cur := trimVal i (s.get (trimFld i))
    let tgt := trimVal i (s.get (F.GAU_TRIM_TGT i))
    let v := if cur < tgt then cur + 1 else if tgt < cur then cur - 1 else cur
    if i < 2 ∨ v ≠ 0 then
      let s := s.set (trimFld i) (tc (trimFld i).width v)
      if v = tgt then (s.stepping i false).irq 30 else s
    else s

/-- TRIM_STEP (R574): INTERVAL µs since the step of that trim before it. -/
def execTrimStep (t : Nat) (k : Fin 4) (s : State) : Host.Outcome State Fault Refusal :=
  let s := s.at t
  .next (if s.domUp .motion && s.beatDue (.trim k.val) (us (max 1 (s.get F.GAU_TRIM_CTL_INTERVAL))) then
      (s.trimStep k).beat (.trim k.val)
    else s)

/-! ## Measurements (R569, R570) -/

/-- A spot serves (R570). -/
def Spot.serves (p : Spot) : Bool := !p.edge && !p.dark && !p.dfct

/-- The beam of a spot. -/
def Spot.beam (p : Spot) : Nat := p.row * 512 + p.col

/-- The gain a spot measures (R569). -/
def State.gainMeas (s : State) (p : Spot) : Int := rhu (p.sum * 16384 : Nat) (s.get F.GAU_GAIN_REF)

/-- The offset a frame measures on an axis, none without a serving spot (R569). -/
def State.offMeas (s : State) (i : Nat) (l : List Spot) : Option Int :=
  if l.isEmpty then none
  else
    let d := (l.map (fun p => if i = 0 then p.cx - p.ex else p.cy - p.ey)).sum
    some (s.getS (F.GOV_TRIM_OFF i) - rhu (d * s.getS F.GAU_PIX_CODE) (l.length * 2 ^ 24))

/-- Centroids of the serving spots on an axis, by beam. -/
def centroids (y : Bool) (l : List Spot) : SMap Int := l.map (fun p => (p.beam, if y then p.cy else p.cx))

/-- The sensitivity measured between two holds: the mean change over the beams that serve in both, taken along the
displacement; a shift of 0 gives none (R569). -/
def State.sensMeas (s : State) (i : Nat) (moved : Bool) (prev cur : SMap Int) : Option Int :=
  let d := cur.filterMap (fun p => (prev.lookup p.1).map (fun q => if moved then p.2 - q else q - p.2))
  let sum := d.sum
  if sum = 0 then none
  else
    let k := rhu (s.getS F.GAU_SENS_DELTA * 256) (s.get F.GAU_PIX_PU)
    let num : Int := (s.get (F.GOV_DEF_SENS (trimAxis i)) : Int) * k * d.length
    some (if sum < 0 then rhu (-num) sum.natAbs else rhu num sum.natAbs)

/-! ## Repeat agreement (R571, R572) -/

/-- One measurement of an output: the value accepted, if it is. -/
def GOut.take (o : GOut) (m : Int) (tol : Nat) : GOut × Option Int :=
  match o.prev with
  | some p =>
    if (m - p).natAbs ≤ tol then ({ o with accepted := true }, some (rhu (m + p) 2)) else ({ o with prev := some m }, none)
  | none => ({ o with prev := some m }, none)

/-- An accepted gain (R572): outside 0x2000..0x7FFF it is not applied. -/
def State.gainAccept (s : State) (k : Nat) (v : Int) : Bool × State :=
  if v < 0x2000 ∨ 0x7FFF < v then (false, (s.inc F.GAU_RANGE).raise 0x58 0 0)
  else
    let s := { s with gau := { s.gau with stale := s.gau.stale.filter (· != k) } }
    (true, if s.areaValid then s.wr 6 (s.get F.GAU_TGT_BASE + 2 * k) (leBytes 2 v.toNat) else s)

/-- A spot of a GAIN run. -/
def State.gainSpot (s : State) (r : GRun) (p : Spot) : GRun × State :=
  let k := p.beam
  if !inBlock r.block k || (r.out k).accepted then (r, s)
  else
    let (o, v) := (r.out k).take (s.gainMeas p) (s.get F.GAU_TOL_GAIN)
    match v with
    | none => ({ r with outs := r.outs.put k o }, s)
    | some v =>
      let (ok, s) := s.gainAccept k v
      ({ r with outs := r.outs.put k { o with inRange := ok } }, s)

/-- A measurement of a trim run. -/
def State.trimMeas (s : State) (r : GRun) (m : Int) : GRun × State :=
  let (o, v) := (r.out 0).take m (s.get F.GAU_TOL_TRIM)
  match v with
  | none => ({ r with outs := r.outs.put 0 o }, s)
  | some v =>
    let s := s.set F.GAU_TRIM_STAT_STALE (putBits (s.get F.GAU_TRIM_STAT_STALE) r.trim 1 0)
    ({ r with outs := r.outs.put 0 { o with inRange := true } }, s.trimTarget r.trim v)

/-- A serving frame of a SENS run: at the last frame of a hold the shift is measured and the park value alternates. -/
def State.sensFrame (s : State) (r : GRun) (l : List Spot) : GRun × State :=
  let held := r.held + 1
  if held < max 1 (s.get F.GAU_SETTLE) then ({ r with held := held }, s)
  else
    let cur := centroids (r.kind == 4) l
    let m := r.prevC.bind (fun p => s.sensMeas r.trim r.moved p cur)
    let (r, s) := match m with
      | none => (r, s)
      | some v => s.trimMeas r v
    let s := s.setS r.parkFld (if r.moved then r.park else r.park + s.getS F.GAU_SENS_DELTA)
    ({ r with held := 0, moved := !r.moved, prevC := if cur.isEmpty then none else some cur }, s)

/-- Gauger reads the record of a slot and its spot results from HBM: they pass FCRC (R558), which a write the controller
discarded leaves them failing (R716). -/
def State.recordPasses (s : State) (a nspots : Nat) : Bool × State :=
  match s.rdOr 6 a (256 + 16 * nspots) with
  | (none, s) => (false, s)
  | (some b, s) =>
    (leAt b 0 4 == 0x50554F4C && leAt b 50 2 == nspots
      && leAt b 252 4 == crc32c (leBytes 8 a ++ b.take 252 ++ b.drop 256), s)

/-- A frame serves the run where its record passes too (R570). -/
def State.frameServes (s : State) (r : GRun) (c : Nat) (f : VFrame) : Bool :=
  decide (r.ctx = c) && f.marks == 0 && f.tag == s.get F.GAU_RUN_TAG && decide (r.start < f.at_)

/-- A run takes a serving frame (R571), and ends when every output is accepted in range or its tries are used (R573). -/
def State.runFrame (s : State) (r : GRun) (spots : List Spot) : State :=
  let l := spots.filter Spot.serves
  let (r, s) := match r.kind with
    | 0 => l.foldl (fun (a : GRun × State) p => a.2.gainSpot a.1 p) (r, s)
    | 1 => match s.offMeas 0 l with | none => (r, s) | some m => s.trimMeas r m
    | 2 => match s.offMeas 1 l with | none => (r, s) | some m => s.trimMeas r m
    | _ => s.sensFrame r l
  let r := { r with used := r.used + 1 }
  let n := r.counts.1
  let s := ((s.setRun (some r)).set F.GAU_RUN_STAT_FRAMES r.used).set F.GAU_RUN_STAT_ACCEPTED n
  if n = r.size then
    (if r.kind = 0 then s.set F.GAU_STALE (putBits (s.get F.GAU_STALE) r.block 1 0) else s).runEnd r true
  else if r.tries ≤ r.used then s.runEnd r false
  else s

/-- FRAME_RECORD_WRITE (R558): the oldest closed frame of the context; Gauger reads the record (R570). -/
def execFrameRecordWrite (t : Nat) (c : Fin 8) (s : State) : Host.Outcome State Fault Refusal :=
  let s := s.at t
  .next (match s.vis.closed.get c.val [] with
    | [] => s
    | f :: rest =>
      if !s.memUp || !s.domUp .vision then s
      else
        let s := { s with vis := { s.vis with closed := s.vis.closed.put c rest } }
        let (spots, s) := s.writeRecord c f
        match s.gau.run with
        | none => s
        | some r =>
          if s.domUp .motion && s.frameServes r c f then
            let (ok, s) := s.recordPasses (f.slotAddr c) spots.length
            if ok then s.runFrame r spots else s
          else s)

end Sys2Proof.Machine
end

