-- ==== Sys2Proof/Machine/Registers.lean ====
section
/-! DEFINITION. WIN_REG (R8 to R15, R698 to R711): reads and writes of registers, the force bank, the snapshot bank and
SNAP (R435 to R437), and access errors. -/

namespace Sys2Proof.Machine
open Sys2Proof

/-! ## Registers whose value follows from the state -/

/-- The working copy as it stands, as words of LGR_WORK (R629): REASON reads 0 (log entry 33), and so do the words past the
end, JCRC among them. -/
def State.workWords (s : State) : List Nat :=
  let c := { s.lgr.copy with cfgEpoch := s.get F.TOP_CFG_EPOCH, gainEpoch := s.get F.TOP_GAIN_EPOCH,
                             formeEpoch := s.get F.TOP_FORME_EPOCH }
  let b := c.bytes 0 s.lgr.jseq (s.flag F.LGR_STAT_CAL_VALID)
  (List.range (b.length / 4)).map (fun i => leAt b (4 * i) 4)

/-- WCH_SRC_STAT of a source shows its timer, its cause and its type (R592, R625). -/
def State.viewSrc (s : State) (src : Nat) : State :=
  let s := if s.winOpen src then s else s.set (F.WCH_SRC_STAT_WCOUNT src) 0
  ((s.setB (F.WCH_SRC_STAT_TIMER src) (s.wsrc src).deadline.isSome).setB (F.WCH_SRC_STAT_CAUSE src) (s.causeOn src)).setB
    (F.WCH_SRC_STAT_LEVEL src) (s.levelCause src).isSome

/-- TIM_NOW shows machine time (R481), of an instant on a grid of g units. -/
def State.viewTime (s : State) (g : Nat) : State :=
  let x := s.mtFr s.clk.now g
  (s.set F.TIM_NOW (x / 2 ^ 16)).set F.TIM_NOW_FR x

/-- LGR_CAL, PWR_SEQ_STAT with NWIN at the budget in force, and the failures of an open AUTH window (R618, R657, R667, R668). -/
def State.viewAon (s : State) : State :=
  let s := (if s.authGoes then s else s.set F.SEC_AUTHFAIL 0).showSeq
  (s.set F.LGR_CAL s.lgr.copy.calendar).set F.PWR_SEQ_STAT_NWIN
    (nWin (if s.pwr.admitted.isEmpty then s.get F.PWR_BUDGET else s.pwr.budget))

/-- Bring the register at an offset up to date before it is read. -/
def State.view (s : State) (off : Nat) : State :=
  if 0x48000 ≤ off ∧ off < 0x4C000 then
    let w := (off - 0x48000) / 4
    s.set (F.LGR_WORK w) (s.workWords.getD w 0)
  else if 0x21000 ≤ off ∧ off < 0x22000 then s.viewSrc ((off - 0x21000) / 32)
  else if off = 0x130020 ∨ off = 0x130024 ∨ off = 0x130028 then s.viewTime g1ns
  else if off = 0x40010 ∨ off = 0x40014 ∨ off = F.PWR_SEQ_STAT_NWIN.off ∨ off = F.SEC_AUTHFAIL.off then s.viewAon
  else if off = F.WCH_FAULTN_PIN.off then s.showPin
  else s

/-- Bring every register but LGR_WORK up to date. -/
def State.viewAll (s : State) (g : Nat) : State :=
  let s := if s.domUp .ctrl then ((List.range 128).foldl State.viewSrc s).showPin else s
  (if s.domUp .ring then s.viewTime g else s).viewAon

/-! ## Words (R8, R699) -/

/-- The word of a register, its fields taken from get; WO fields read 0 (R8). -/
def RegRow.word (r : RegRow) (i j : Nat) (get : RowFld → Fld → Nat) : Nat :=
  (r.flds.map (fun f => if f.acc == .wo then 0 else f.show (get f (f.fld i j)))).sum

/-- The live word of a register: ST fields show the pending value (R8). -/
def State.wordAt (s : State) (r : RegRow) (i j : Nat) : Nat := r.word i j (fun _ f => s.get f)

/-- Why an access of whole words at an offset is recorded (R702, R703, R706, R707): 1 RESERVED, 3 OFF, 4 READ_ONLY. -/
def State.accKind (s : State) (off : Nat) (write : Bool) : Option Nat :=
  if off < 0x1A0000 then
    if (findRow regRows off).isNone then some 1 else if s.domLive (domOf off) then none else some 3
  else if 0x1000000 ≤ off ∧ off < 0x1020000 then if write then some 4 else if s.domUp .ctrl then none else some 3
  else if 0x1800000 ≤ off ∧ off < 0x1A00000 then if write then some 4 else none
  else if 0x2000000 ≤ off ∧ off < 0x3000000 then
    if write then some 4
    else if off - 0x2000000 < 0x1A0000 ∧ (findRow regRows (off - 0x2000000)).isSome then none else some 1
  else if (0x3000000 ≤ off ∧ off < 0x3000400) ∨ (0x3001000 ≤ off ∧ off < 0x3001008) then
    if s.domLive .host then none else some 3
  else some 1

/-! ## RC fields (R8, R10, R436) -/

/-- Clear an RC field to its reset value; the stripe being composed counts EQ_SAT again from 0. -/
def State.rcClear (s : State) (f : Fld) : State :=
  let s := s.set f f.rst
  if f.bit = F.CMP_EQ_SAT.bit then
    match s.composing with
    | some x => s.setStripe { x with comp := { x.comp with eqSat := 0 } }
    | none => s
  else s

/-- A read of a register takes its RC fields; a stamp's identity leaves its FIFO (R8, R512). -/
def State.rcTake (s : State) (off : Nat) (r : RegRow) (i j : Nat) : State :=
  if off = F.TIM_PTP_RX_ID_TYPE.off then s.ptpPop false
  else if off = F.TIM_PTP_TX_ID_TYPE.off then s.ptpPop true
  else (r.flds.filter (fun f => f.acc == .rc)).foldl (fun s f => s.rcClear (f.fld i j)) s

/-- Every live RC field of the domains that are up is taken (R436). -/
def State.rcTakeAll (s : State) : State :=
  (regRows.filter (fun r => r.flds.any (fun f => f.acc == .rc))).foldl (fun s r =>
    r.cells.foldl (fun s c => if s.domUp (domOf c.1) then s.rcTake c.1 r c.2.1 c.2.2 else s) s) s

/-! ## SNAP (R435 to R437) -/

/-- A write of 1 to TOP_SNAP.SNAP: the capture, and BUSY until the bank is filled. -/
def State.snap (s : State) (clear : Bool) : State :=
  if s.flag F.TOP_SNAP_STAT_BUSY then s.set F.TOP_SNAP_STAT_MISSED 1
  else
    let g := if s.domUp .motion then g50 else g1ns
    let s := ((s.set F.TOP_SNAP_STAT_BUSY 1).set F.TOP_SNAP_STAT_SEQ (s.get F.TOP_SNAP_STAT_SEQ + 1)).set F.TOP_SNAP_TIME
      (s.mtNs s.clk.now g)
    let s := s.viewAll g
    let s := { s with snapRegs := s.regs, snapForce := s.force, snapWork := s.workWords }
    if clear then s.rcTakeAll else s

/-- SNAP (R435). -/
def execSnap (m : Fin 9) (s : State) : Host.Outcome State Fault Refusal :=
  .next (s.regOp m F.TOP_SNAP_SNAP.off (fun s => s.snap false))

/-- SNAP_CLEAR (R436). -/
def execSnapClear (m : Fin 9) (s : State) : Host.Outcome State Fault Refusal :=
  .next (s.regOp m F.TOP_SNAP_SNAP.off (fun s => s.snap true))

/-- The bank is filled (R437). -/
def State.snapDone (s : State) : State :=
  if s.flag F.TOP_SNAP_STAT_BUSY then (s.set F.TOP_SNAP_STAT_BUSY 0).irq 10 else s

/-- SNAP_DONE (R437). -/
def execSnapDone (t : Nat) (s : State) : Host.Outcome State Fault Refusal := .next (s.at t).snapDone

/-- A register holds a field that SNAP captures (R435, R706); copies of the sign of an RW field are none. -/
def RegRow.snapped (r : RegRow) : Bool :=
  r.flds.any (fun f => (f.acc == .ro && !f.sgn) || f.acc == .rc || f.acc == .w1c || f.acc == .st)

/-- The word of the snapshot bank for the register at an offset (R706). -/
def State.snapWord (s : State) (off : Nat) : Nat :=
  if 0x48000 ≤ off ∧ off < 0x4C000 then s.snapWork.getD ((off - 0x48000) / 4) 0
  else
    match findRow regRows off with
    | none => 0
    | some (r, i, j) =>
      if r.snapped then r.word i j (fun f x => if f.acc == .st then s.snapForce.get x else s.snapRegs.get x) else 0

/-- The word of the force bank for the register at an offset (R705). -/
def State.forceWord (s : State) (off : Nat) : Nat :=
  match findRow regRows off with
  | none => 0
  | some (r, i, j) => r.word i j (fun f x => if f.acc == .st then s.frc x else 0)

/-- The word of the Daybook window at a byte offset of it (R613). -/
def State.dbkWord (s : State) (o : Nat) : Nat :=
  match List.lookup (o / 32) s.dbk.slots with
  | none => 0
  | some r => leAt r.bytes (o % 32 / 4 * 4) 4

/-- The data bits that stand flipped in the word of array 3 at an array address: those that no check has found. -/
def State.dbkFlips (s : State) (a : Nat) : Nat :=
  (s.upsetsOf 3 (a / 64)).foldl (fun v u => match u with
    | .data w b => if w.val = a / 8 % 8 ∧ b.val / 32 = a / 4 % 2 then v ^^^ 2 ^ (b.val % 32) else v
    | .row _ _ => v
    | .col _ => v) 0

/-- A read of the Daybook window at a byte offset of it (R272, R273, R613): a word that reads uncorrectable is a free value
(DESIGN CHOICE, log entry 105). -/
def State.dbkRead (s : State) (m o : Nat) : Nat × State :=
  let a := dbkBase + o
  let was := s.isWritten 3 (a / 64) (a / 8 % 8)
  match s.sramRead 3 (a / 8 * 8) with
  | (true, s) =>
    let (v, s) := s.fresh
    (v % 2 ^ 32, if 1 ≤ m then s.busError (m - 1) else s)
  | (false, s) => (if was then s.dbkWord o ^^^ s.dbkFlips a else 0, s)

/-! ## Reads -/

/-- A read of a word that no rule refuses: its value, and the state it leaves. -/
def State.readOk (s : State) (m off : Nat) : Nat × State :=
  if off < 0x1A0000 then
    let s := s.view off
    match findRow regRows off with
    | none => (0, s)
    | some (r, i, j) => (s.wordAt r i j, s.rcTake off r i j)
  else if off < 0x1020000 then s.dbkRead m (off - 0x1000000)
  else if off < 0x1A00000 then (s.forceWord (off - 0x1800000), s)
  else if off < 0x3000000 then
    let s := s.snapDone
    (s.snapWord (off - 0x2000000), s)
  else if off < 0x3000400 then (s.msix.word ((off - 0x3000000) / 4), s)
  else (bits s.msix.pba (8 * (off - 0x3001000)) 32, s)

/-- A read of the word at an offset of WIN_REG by a master (R701 to R706). -/
def State.readWord (s : State) (m off : Nat) : State :=
  let off := off / 4 * 4
  match s.accKind off false with
  | some k => { s with rdata := 0 }.accErr m off false k
  | none =>
    let (w, s) := s.readOk m off
    { s with rdata := BitVec.ofNat 32 w }

/-- RC_READ (R10): a read through WIN_REG. -/
def execRcRead (m : Fin 9) (off : Nat) (s : State) : Host.Outcome State Fault Refusal := .next (s.readWord m off)

/-- A read of the snapshot bank (R437): it completes once BUSY is 0. -/
def State.snapRead (s : State) (m off : Nat) : State := s.readWord m (0x2000000 + off % 0x1000000)

/-- SNAP_BANK_READ (R437, R706). -/
def execSnapBankRead (m : Fin 9) (off : Nat) (s : State) : Host.Outcome State Fault Refusal := .next (s.snapRead m off)

/-! ## Writes -/

/-- Write the fields of a register under their access codes: RW and ST hold, 1 clears W1C, the others are left (R8). -/
def State.fldWrite (s : State) (r : RegRow) (i j v : Nat) : State :=
  r.flds.foldl (fun s f =>
    let x := f.fld i j
    let old := s.get x
    let b := bits v f.lo f.w
    if f.sgn then s
    else
      match f.acc with
      | .rw => s.set x (putBits old f.sh f.w b)
      | .st => s.set x (putBits old f.sh f.w b)
      | .w1c => s.set x (putBits old f.sh f.w (bits old f.sh f.w &&& (ones f.w ^^^ b)))
      | _ => s) s

/-- Hold what is written to the WO fields of a register that later actions use. -/
def State.holdWrite (s : State) (r : RegRow) (i j v : Nat) : State :=
  r.flds.foldl (fun s f => s.set (f.fld i j) (putBits (s.get (f.fld i j)) f.sh f.w (bits v f.lo f.w))) s

/-- Values that a register refuses: first offset of its row, lowest bit, width, least and greatest value. -/
def wRanges : List (Nat × Nat × Nat × Nat × Nat) := [
  (F.MEM_REF_CTL_TRFCPB.off, 0, 9, 1, 350), (F.BDL_ACK_TMO.off, 0, 20, 2000, 1000000),
  ((F.BDL_EQ_TAB_PRE 0).off, 0, 5, 0, 16), ((F.BDL_EQ_TAB_PRE 0).off, 8, 5, 0, 24), (F.ESC_SLIP_MAX.off, 0, 16, 0, 20000),
  ((F.GOV_DEF_SENS 0).off, 0, 20, 1, 1048575), (F.GOV_PRF_VEL.off, 0, 16, 1, 65535), (F.GOV_PRF_ACC.off, 0, 16, 1, 65535),
  (F.GOV_PRF_JERK.off, 0, 16, 1, 65535), (F.GOV_SP_CTL_EN.off, 16, 14, 400, 10000), (F.ASY_ARM_TMO.off, 0, 16, 1, 65535),
  (F.ASY_HM_SLOTS.off, 0, 16, 1, 65535), (F.KOR_LAUNCH_MIN.off, 0, 16, 50, 65535), (F.KOR_HALO_TMO.off, 0, 16, 20, 65535),
  (F.TIM_MARK_PERIOD.off, 0, 32, 1, 0xFFFFFFFF), (F.PRT_HL_CTO.off, 0, 10, 1, 1000),
  ((F.PRT_CH_LIMIT 0).off, 0, 25, 1, 16777216), ((F.VIS_CTX_LAT 0).off, 0, 4, 1, 15), (F.GAU_GAIN_REF.off, 0, 32, 1, 0xFFFFFFFF),
  (F.GAU_PIX_PU.off, 0, 32, 1, 0xFFFFFFFF), (F.WCH_ESC_T.off, 0, 24, 1, 16777215),
  ((F.WCH_SRC_WIN 0).off, 0, 30, 1000, 1000000000), ((F.DBK_WR_CODE_CODE 0).off, 0, 16, 0x8000, 0xFFFF), (F.PWR_BUDGET.off, 0, 12, 500, 2000)]

/-- No range refuses the value. -/
def wOk (base v : Nat) : Bool :=
  wRanges.all (fun q => q.1 != base || decide (q.2.2.2.1 ≤ bits v q.2.1 q.2.2.1 ∧ bits v q.2.1 q.2.2.1 ≤ q.2.2.2.2))

/-- Registers whose bits [5:0] read 0 (R148, R192, R236, R327, R461, R582). -/
def wAligned : List Nat := [
  F.CMP_TAP_ADDR.off, F.CMP_DPV_BASE.off, F.PLT_CKPT_BASE.off, F.PLT_TALLY_RING.off, F.ASY_OPEN_DARN.off, F.ASY_HM_BASE.off,
  F.KOR_HALO_BASE.off, (F.VIS_DEF_BASE 0).off, (F.VIS_CTX_BASE 0).off, (F.VIS_LSC_BASE 0).off, (F.VIS_MET_BASE 0).off,
  (F.VIS_REG_BASE 0).off, (F.VIS_CTX_STRIDE 0).off, F.GAU_TGT_BASE.off, F.SEC_FORME_ADDR.off]

/-- A register that ignores writes at present: which rules hold it, by the first offset of its row. -/
def State.wLocked (s : State) (m base i : Nat) : Bool :=
  if base = F.MEM_REF_CTL_TRFCPB.off ∨ base = (F.MEM_HASH 0).off ∨ base = (F.MEM_HASH 0).off + 4
      ∨ base = (F.MEM_DLY_RD 0).off ∨ base = (F.MEM_DLY_WR 0).off ∨ base = (F.MEM_DLY_CA 0).off then
    s.flag F.MEM_STAT_RUN_ACK || s.flag F.MEM_STAT_IN_SR
  else if base = (F.ESC_POS_CTL_ROLE 0).off ∨ base = (F.BDL_EQ_TAB_PRE 0).off then s.armedOrRunning
  else if base = F.KOR_DEV_DEVICE.off then s.flag F.KOR_CTL_JOIN
  else if base = F.KOR_HALO_BASE.off ∨ base = F.KOR_HALO_BASE.off + 4 then !s.kor.slots.isEmpty
  else if base = (F.PRT_CH_HEAD 0).off ∨ base = (F.PRT_CH_HEAD 0).off + 4 then s.chState i != 0
  else if base = (F.JRN_WDOG 0).off ∨ base = (F.JRN_KICK 0).off then m != coreMaster i
  else if base = (F.DBK_WR_CODE_CODE 0).off ∨ base = (F.DBK_WR_ARG 0 0).off ∨ base = (F.DBK_WR_GO_GO 0).off then m == 0
  else false

/-- Do f where bit b of the word written is 1. -/
def onBit (v b : Nat) (f : State → State) (s : State) : State := if bitOf v b then f s else s

/-- A write of ASY_CMD (R422); a code without a command does nothing. -/
def State.asyCmd (s : State) (v : Nat) : State :=
  match v % 8 with
  | 1 => s.open_
  | 2 => s.arm
  | 3 => s.stop_
  | 4 => s.abandon (bitOf v 3)
  | 5 => s.mend
  | _ => s

/-- A write of SEC_CMD (R651 to R656); a code without a command does nothing. -/
def State.secCmd (s : State) (v : Nat) : State :=
  match v % 16 with
  | 1 => s.provision
  | 2 => s.advance
  | 3 => s.genWrap (bits v 8 5)
  | 4 => s.loadKey
  | 5 => s.erase (bits v 8 5)
  | 6 => s.readDev
  | _ => s

/-- A write of BDL_CTL (R356, R357, R359): only SWING takes effect while a stripe is armed or running. -/
def State.bdlCtl (s : State) (r : RegRow) (l v : Nat) : State :=
  if s.armedOrRunning then s.set (F.BDL_CTL_SWING l) (bits v 4 4)
  else
    let s := s.fldWrite r l 0 v
    if s.flag (F.BDL_CTL_SLEEP l) then s.laneOff l else s.laneWake l

/-- A write of ESC_POS_CTL (R371, R382, R412): position does not return by it on a port of role X or Y (log entry 74). -/
def State.posCtl (s : State) (r : RegRow) (n v : Nat) : State :=
  let old := s.get (F.ESC_POS_CTL_ROLE n)
  let quad := s.flag (F.ESC_POS_CTL_QUAD n)
  let aux := !(old == 1 || old == 2)
  let s := s.fldWrite r n 0 v
  let s := onBit v 4 (fun s => s.set (F.ESC_POS_STAT_HOMED n) 0) s
  let role := s.get (F.ESC_POS_CTL_ROLE n)
  let s := if (old = 0) != (role = 0) then s.portStart n else s
  let s := if !quad && s.flag (F.ESC_POS_CTL_QUAD n) then s.setPort n { s.port n with illegal := (s.port n).sigLost } else s
  let s := if s.get (F.ESC_POS_STAT_STATE n) = 3 then s else s.lossNow n
  if aux then s.unfreeze else s

/-- A reaction code as WCH_SRC_CTL holds it (R598). -/
def reactCode (src v old : Nat) : Nat := if v = 5 ∧ blockDoms src 0 = [] then old else min v 6

/-- A write of WCH_SRC_CTL (R598, R625). -/
def State.srcCtl (s : State) (src v : Nat) : State :=
  (((s.set (F.WCH_SRC_CTL_N src) (bits v 0 8)).set (F.WCH_SRC_CTL_REACT src)
    (reactCode src (bits v 8 3) (s.get (F.WCH_SRC_CTL_REACT src)))).set (F.WCH_SRC_CTL_ESC src)
    (reactCode src (bits v 12 3) (s.get (F.WCH_SRC_CTL_ESC src)))).set (F.WCH_SRC_CTL_RING src) (bits v 15 1)

/-- A write of PRT_CH_CMD: ABORT comes before DOORBELL, RESET last. -/
def State.chCmd (s : State) (n v : Nat) : State :=
  onBit v 2 (fun s => s.chReset n) (onBit v 0 (fun s => s.doorbell n) (onBit v 1 (fun s => s.chAbort n []) s))

/-- A write of GAU_GAIN_CMD: STAGE and UNSTAGE together act as UNSTAGE (R578). -/
def State.gainCmd (s : State) (v : Nat) : State :=
  if bitOf v 1 then s.unstage else if bitOf v 0 then s.stage else s

/-- What a write does beyond or instead of holding its fields: by the first offset of its row, from the master, the row,
its indices and the word. -/
abbrev WHook := Nat → RegRow → Nat → Nat → Nat → State → State

/-- Registers of PD_AON and PD_CTRL that act. -/
def wHooksA : List (Nat × WHook) := [
  (F.TOP_EPOCH_CMD_COMMIT.off, fun _ _ _ _ v => onBit v 0 State.commitReq),
  ((F.SRM_CTL_SCRUB_EN 0).off, fun _ r i j v s => (s.fldWrite r i j v).lapStop i),
  (F.TOP_EPOCH_HOLD.off, fun _ r i j v s => (s.fldWrite r i j v).showBlocked),
  (F.TOP_SNAP_SNAP.off, fun _ _ _ _ v => onBit v 0 (fun s => s.snap (bitOf v 1))),
  (F.PWR_STATE_REQ.off, fun _ _ _ _ v s => s.stateReq ⟨v % 4, 0⟩),
  (F.PWR_DOM_REQ.off, fun _ _ _ _ v s => s.domReq (v % 4)),
  (F.LGR_CMD_WRITE.off, fun _ _ _ _ v s => onBit v 1 State.calSet (onBit v 0 (fun s => s.lgrWrite 0) s)),
  (F.SEC_CMD_OP.off, fun _ _ _ _ v s => s.secCmd v),
  (F.SEC_FORME_CMD_LOAD.off, fun _ _ _ _ v => onBit v 0 (fun s => s.formeLoad (bitOf v 1))),
  ((F.SEC_BLOB 0).off, fun _ r i j v s => s.holdWrite r i j v),
  ((F.SEC_TOKEN 0).off, fun _ r i j v s => s.holdWrite r i j v),
  (F.SEC_DBG_CTL_UNLOCK.off, fun _ _ _ _ v s => onBit v 1 State.lock (onBit v 0 State.unlock s)),
  (F.WCH_ACK.off, fun _ _ _ _ v s => s.ack (v % 128)),
  (F.WCH_FAULTN_RELEASE.off, fun _ r i j v s => onBit v 0 State.release (s.fldWrite r i j v)),
  ((F.WCH_SRC_CTL_N 0).off, fun _ _ i _ v s => s.srcCtl i v),
  ((F.WCH_SRC_STAT_SEVERE 0).off, fun _ r i j v s => onBit v 0 (fun s => s.clearSrc i) (s.fldWrite r i j (v / 2 * 2))),
  ((F.DBK_WR_GO_GO 0).off, fun _ _ i _ v => onBit v 0 (fun s => s.dbkGo i)),
  (F.ASY_CMD_OP.off, fun _ _ _ _ v s => s.asyCmd v),
  ((F.JRN_WDOG 0).off, fun _ r i j v s => (s.fldWrite r i j v).kick i),
  ((F.JRN_KICK 0).off, fun _ _ i _ v => onBit v 0 (fun s => s.kick i)),
  ((F.JRN_MB_POST 0).off, fun _ _ i _ v => onBit v 0 (fun s => s.irq (32 + i))),
  ((F.JRN_MB_OUT 0 0).off, fun m r i j v s => if m = coreMaster i then s.holdWrite r i j v else s),
  ((F.JRN_MB_IN 0 0).off, fun m r i j v s => if j = 7 then s.mbIn (Fin.ofNat 9 m) i v else s.fldWrite r i j v)]

/-- Registers of PD_HOST, PD_HBM and PD_RING that act. -/
def wHooksB : List (Nat × WHook) := [
  (F.PRT_IRQ_STAT.off, fun _ _ _ _ v s => s.irqClear false v),
  (F.PRT_IRQ_STAT.off + 4, fun _ _ _ _ v s => s.irqClear true v),
  ((F.PRT_CH_CMD_DOORBELL 0).off, fun _ _ i _ v s => s.chCmd i v),
  ((F.CHK_CTL_WIDTH 0).off, fun _ _ i _ v s => s.chkWidth i (bitOf v 0)),
  ((F.CHK_CMD_INIT 0).off, fun _ _ i _ v => onBit v 0 (fun s => s.chkInit i)),
  ((F.CHK_D8 0).off, fun _ _ i _ v s => s.chkFold i (leBytes 1 v)),
  ((F.CHK_D16 0).off, fun _ _ i _ v s => s.chkFold i (leBytes 2 v)),
  ((F.CHK_D32 0).off, fun _ _ i _ v s => s.chkFold i (leBytes 4 v)),
  ((F.CHK_FOLD 0).off, fun _ r i j v s => s.holdWrite r i j v),
  ((F.CHK_FOLD 0).off + 4, fun _ _ i _ v s => s.chkFold8 i v),
  ((F.CHK_VAL 0).off, fun _ _ i _ v s => s.chkValWrite i false v),
  ((F.CHK_VAL 0).off + 4, fun _ _ i _ v s => s.chkValWrite i true v),
  (F.MEM_CTL_RUN.off, fun _ _ _ _ v s => s.memRun (bitOf v 0)),
  (F.KOR_CTL_JOIN.off, fun _ _ _ _ v s => s.joinReq (bitOf v 0)),
  (F.KOR_DEV_DEVICE.off, fun _ r i j v s => (s.fldWrite r i j v).bypass),
  (F.KOR_TOPO_CTL_DISCOVER.off, fun _ _ _ _ v => onBit v 0 State.discover),
  ((F.KOR_LINK_CTL_RECOVER 0).off, fun _ r i j v s => onBit v ((F.KOR_LINK_CTL_RECOVER 0).bit % 32) (fun s => s.ringRecover i)
    (s.fldWrite r i j v)),
  (F.KOR_LAUNCH_CMD_GO.off, fun _ _ _ _ v => onBit v 0 (fun s => s.launchGo (bitOf v 1))),
  (F.KOR_HALO_CMD_RESEND_YLO.off, fun _ _ _ _ v s =>
    onBit v 1 (fun s => s.haloResend true) (onBit v 0 (fun s => s.haloResend false) s)),
  (F.TIM_CTL_AUTO.off, fun _ r i j v s => (s.ticks.fldWrite r i j v).incFollow),
  (F.TIM_INC.off, fun _ r i j v s => (s.ticks.fldWrite r i j v).incFollow),
  (F.TIM_INC.off + 4, fun _ r i j v s => (s.ticks.fldWrite r i j v).incFollow),
  (F.TIM_SET_CTL_NOW.off, fun _ _ _ _ v s => onBit v 1 State.armLoad (onBit v 0 State.loadTime s)),
  (F.TIM_ADJ.off, fun _ _ _ _ v s => s.timAdj v)]

/-- Registers of the composing, writing, motion and vision domains that act. -/
def wHooksC : List (Nat × WHook) := [
  (F.CMP_TAP_CTL_ARM.off, fun _ _ _ _ v s => s.tapArm (bitOf v 0)),
  (F.CMP_TAKE_RELEASE.off, fun _ _ _ _ v s => s.takeRelease v),
  (F.CMP_LAYER_RELEASE.off, fun _ _ _ _ v => onBit v 0 State.layerRelease),
  (F.HED_AUTH_CTL_START.off, fun _ _ _ _ v => onBit v 0 State.authStart),
  (F.HED_BEAM_CTL_ENABLE.off, fun _ _ _ _ v s => s.hedEnable (bitOf v 0)),
  (F.HED_BEAM_STAT_INHIBIT.off, fun _ r i j v s =>
    let b := F.HED_BEAM_STAT_INHIBIT.bit % 32
    onBit v b State.inhibitClear (s.fldWrite r i j (putBits v b 1 0))),
  (F.BDL_TRAIN_CTL_START.off, fun _ r i j v s => onBit v 0 State.trainStart (s.fldWrite r i j v)),
  ((F.BDL_CTL_SLEEP 0).off, fun _ r i _ v s => s.bdlCtl r i v),
  ((F.BDL_RX_CTL_RECOVER 0).off, fun _ r i j v s => onBit v 8 (fun s => s.bsrLoss i) (s.fldWrite r i j v)),
  ((F.ESC_POS_CTL_ROLE 0).off, fun _ r i _ v s => s.posCtl r i v),
  (F.GOV_MODE_REQ.off, fun _ _ _ _ v s => s.modeReq (bits v 0 2) (bits v 2 2)),
  (F.GOV_SEG_PUSH_PUSH.off, fun _ _ _ _ v s =>
    onBit v 2 State.segAbort (onBit v 1 State.segFlush (onBit v 0 State.segPush s))),
  ((F.GOV_TRIM_OFF 0).off, fun _ r i j v s => (s.fldWrite r i j v).trimCancel i),
  ((F.GOV_DEF_SENS 0).off, fun _ r i j v s => (s.fldWrite r i j v).trimCancel (2 + i)),
  (F.MGT_CTL_EN.off, fun _ r i j v s => (s.fldWrite r i j v).mgmtCtl),
  ((F.VIS_SET_ARM_ARM 0).off, fun _ _ i _ v => onBit v 0 (fun s => s.setArm i)),
  ((F.VIS_CTX_REL 0).off, fun _ _ i _ v s => s.relSlots i (v % 256)),
  (F.GAU_RUN_CMD_START.off, fun _ _ _ _ v s => onBit v 1 State.runCancel (onBit v 0 State.runStart s)),
  (F.GAU_GAIN_CMD_STAGE.off, fun _ _ _ _ v s => s.gainCmd v),
  (F.GAU_TGT_BASE.off + 4, fun _ _ _ _ v s => s.targetHi v)]

/-- A write to a register whose domain is up. -/
def State.regWriteAt (s : State) (m : Nat) (r : RegRow) (i j v : Nat) : State :=
  let v := if wAligned.contains r.base then v / 64 * 64 else v
  if s.wLocked m r.base i || !wOk r.base v then s
  else
    match List.lookup r.base (wHooksA ++ wHooksB ++ wHooksC) with
    | some f => f m r i j v s
    | none => s.fldWrite r i j v

/-- A write that no rule refuses; a block that PERST_N holds in reset takes none (R686). -/
def State.writeOk (s : State) (m off v : Nat) : State :=
  if off < 0x1A0000 then
    match findRow regRows off with
    | none => s
    | some (r, i, j) => if s.domUp (domOf off) then s.regWriteAt m r i j v else s
  else if off < 0x3000400 then (if s.domUp .host then s.msixWrite (off - 0x3000000) v else s)
  else s

/-- A write of a word at an offset of WIN_REG by a master (R701 to R707). -/
def State.writeWord (s : State) (m off v : Nat) : State :=
  let off := off / 4 * 4
  match s.accKind off true with
  | some k => s.accErr m off true k
  | none => s.writeOk m off (v % 2 ^ 32)

/-- REG_WRITE (R8): a write through WIN_REG. -/
def execRegWrite (m : Fin 9) (off : Nat) (v : BitVec 32) (s : State) : Host.Outcome State Fault Refusal :=
  .next (s.writeWord m off v.toNat)

/-! ## Access errors (R701, R710) -/

/-- An access that is refused: recorded with its kind; one that no rule refuses leaves the state as it is. -/
def State.accRefuse (s : State) (m off : Nat) (write full : Bool) : State :=
  match (if full then s.accKind (off / 4 * 4) write else some 2) with
  | none => s
  | some k => (if write then s else { s with rdata := 0 }).accErr m off write k

/-- REG_ACCESS_ERROR (R710). -/
def execRegAccessError (m : Fin 9) (off : Nat) (write full : Bool) (s : State) : Host.Outcome State Fault Refusal :=
  .next (s.accRefuse m off write full)

end Sys2Proof.Machine
end

