-- ==== Sys2Proof/Machine/Dispatch.lean ====
section
/-! DEFINITION. Dispatch: one arm for each command. -/

namespace Sys2Proof.Machine
open Sys2Proof

def exec (i : Instr) (s : State) : Host.Outcome State Fault Refusal :=
  match i with
  | .regWrite m off v => Sys2Proof.Machine.execRegWrite m off v s
  | .rcRead m off => Sys2Proof.Machine.execRcRead m off s
  | .snapBankRead m off => Sys2Proof.Machine.execSnapBankRead m off s
  | .regAccessError m off write full => Sys2Proof.Machine.execRegAccessError m off write full s
  | .ptpStampPop m tx => Sys2Proof.Machine.execPtpStampPop m tx s
  | .irqStatusClear m hi v => Sys2Proof.Machine.execIrqStatusClear m hi v s
  | .resetNAssert t => Sys2Proof.Machine.execResetNAssert t s
  | .startUp t badA badB => Sys2Proof.Machine.execStartUp t badA badB s
  | .perstNAssert t => Sys2Proof.Machine.execPerstNAssert t s
  | .functionLevelReset t => Sys2Proof.Machine.execFunctionLevelReset t s
  | .vinWarn t f => Sys2Proof.Machine.execVinWarn t f s
  | .vinReturn t => Sys2Proof.Machine.execVinReturn t s
  | .pwrStateRequest m r => Sys2Proof.Machine.execPwrStateRequest m r s
  | .pwrDomainRequest m v => Sys2Proof.Machine.execPwrDomainRequest m v s
  | .burstStart t => Sys2Proof.Machine.execBurstStart t s
  | .sequencerWindow t => Sys2Proof.Machine.execSequencerWindow t s
  | .domainLeaveReset t d => Sys2Proof.Machine.execDomainLeaveReset t d s
  | .powerGoodLoss t d => Sys2Proof.Machine.execPowerGoodLoss t d s
  | .blockReset t => Sys2Proof.Machine.execBlockReset t s
  | .chipReset t badA badB => Sys2Proof.Machine.execChipReset t badA badB s
  | .watchEvent t takes => Sys2Proof.Machine.execWatchEvent t takes s
  | .escalationExpiry t exps takes => Sys2Proof.Machine.execEscalationExpiry t exps takes s
  | .sourceAck m src => Sys2Proof.Machine.execSourceAck m src s
  | .sourceClear m src => Sys2Proof.Machine.execSourceClear m src s
  | .causeGone t src => Sys2Proof.Machine.execCauseGone t src s
  | .faultPulseEnd t => Sys2Proof.Machine.execFaultPulseEnd t s
  | .faultRelease m => Sys2Proof.Machine.execFaultRelease m s
  | .dbkGo m j => Sys2Proof.Machine.execDbkGo m j s
  | .calendarSecond t => Sys2Proof.Machine.execCalendarSecond t s
  | .calSet m => Sys2Proof.Machine.execCalSet m s
  | .thermalSample t temp => Sys2Proof.Machine.execThermalSample t temp s
  | .ledgerPeriodic t fails => Sys2Proof.Machine.execLedgerPeriodic t fails s
  | .ledgerWrite m fails => Sys2Proof.Machine.execLedgerWrite m fails s
  | .ledgerDeferred t fails => Sys2Proof.Machine.execLedgerDeferred t fails s
  | .commit m => Sys2Proof.Machine.execCommit m s
  | .epochCommit t => Sys2Proof.Machine.execEpochCommit t s
  | .snap m => Sys2Proof.Machine.execSnap m s
  | .snapClear m => Sys2Proof.Machine.execSnapClear m s
  | .snapDone t => Sys2Proof.Machine.execSnapDone t s
  | .open_ m => Sys2Proof.Machine.execOpen m s
  | .mend m => Sys2Proof.Machine.execMend m s
  | .arm m => Sys2Proof.Machine.execArm m s
  | .armComplete t => Sys2Proof.Machine.execArmComplete t s
  | .armTimeout t => Sys2Proof.Machine.execArmTimeout t s
  | .stop m => Sys2Proof.Machine.execStop m s
  | .abandon m newest => Sys2Proof.Machine.execAbandon m newest s
  | .stopComplete t accs => Sys2Proof.Machine.execStopComplete t accs s
  | .darnEntryWrite t => Sys2Proof.Machine.execDarnEntryWrite t s
  | .hallmarkWrite t => Sys2Proof.Machine.execHallmarkWrite t s
  | .shotFix t => Sys2Proof.Machine.execShotFix t s
  | .shotDue t accs => Sys2Proof.Machine.execShotDue t accs s
  | .shotDecodeDone t accs => Sys2Proof.Machine.execShotDecodeDone t accs s
  | .tallyEvalDone t mismatch => Sys2Proof.Machine.execTallyEvalDone t mismatch s
  | .trackExit t => Sys2Proof.Machine.execTrackExit t s
  | .beamInhibit t => Sys2Proof.Machine.execBeamInhibit t s
  | .inhibitClear m => Sys2Proof.Machine.execInhibitClear m s
  | .hedEnableSet m v => Sys2Proof.Machine.execHedEnableSet m v s
  | .authStart m => Sys2Proof.Machine.execAuthStart m s
  | .headAuthAuto t => Sys2Proof.Machine.execHeadAuthAuto t s
  | .authAnswer t h id usage mac => Sys2Proof.Machine.execAuthAnswer t h id usage mac s
  | .authTimeout t => Sys2Proof.Machine.execAuthTimeout t s
  | .answer t k h shot ack nak => Sys2Proof.Machine.execAnswer t k h shot ack nak s
  | .telemetry t k h id temps curs => Sys2Proof.Machine.execTelemetry t k h id temps curs s
  | .fom t k h foms => Sys2Proof.Machine.execFom t k h foms s
  | .laneShotTimeout t lane => Sys2Proof.Machine.execLaneShotTimeout t lane s
  | .telemStale t => Sys2Proof.Machine.execTelemStale t s
  | .wakeEnd t lane => Sys2Proof.Machine.execWakeEnd t lane s
  | .bdlPllLockLoss t => Sys2Proof.Machine.execBdlPllLockLoss t s
  | .bdlPllRelock t => Sys2Proof.Machine.execBdlPllRelock t s
  | .trainStart m => Sys2Proof.Machine.execTrainStart m s
  | .sweepHoldEnd t => Sys2Proof.Machine.execSweepHoldEnd t s
  | .bsrCtleHoldEnd t k fom => Sys2Proof.Machine.execBsrCtleHoldEnd t k fom s
  | .bsrDfeAdaptEnd t k fom => Sys2Proof.Machine.execBsrDfeAdaptEnd t k fom s
  | .bsrCdrLockLoss t k => Sys2Proof.Machine.execBsrCdrLockLoss t k s
  | .bsrFomLow t k fom => Sys2Proof.Machine.execBsrFomLow t k fom s
  | .bsrRecover m k => Sys2Proof.Machine.execBsrRecover m k s
  | .positionWord t n w => Sys2Proof.Machine.execPositionWord t n w s
  | .positionSlotMissing t n => Sys2Proof.Machine.execPositionSlotMissing t n s
  | .quadEdge t n a b lost => Sys2Proof.Machine.execQuadEdge t n a b lost s
  | .quadPeriod t n => Sys2Proof.Machine.execQuadPeriod t n s
  | .qidxEdge t n => Sys2Proof.Machine.execQidxEdge t n s
  | .govTick t nV rbx rby => Sys2Proof.Machine.execGovTick t nV rbx rby s
  | .hvRange t => Sys2Proof.Machine.execHvRange t s
  | .setpointTick t => Sys2Proof.Machine.execSetpointTick t s
  | .push m => Sys2Proof.Machine.execPush m s
  | .flush m => Sys2Proof.Machine.execFlush m s
  | .segAbort m => Sys2Proof.Machine.execSegAbort m s
  | .modeReq m req after => Sys2Proof.Machine.execModeReq m req after s
  | .doorbell m n => Sys2Proof.Machine.execDoorbell m n s
  | .chAbort m n data => Sys2Proof.Machine.execChAbort m n data s
  | .chReset m n => Sys2Proof.Machine.execChReset m n s
  | .descriptorRead t n d => Sys2Proof.Machine.execDescriptorRead t n d s
  | .descriptorComplete t n data => Sys2Proof.Machine.execDescriptorComplete t n data s
  | .luethSegmentCheck t n data => Sys2Proof.Machine.execLuethSegmentCheck t n data s
  | .completionTimeout t n data => Sys2Proof.Machine.execCompletionTimeout t n data s
  | .completionError t n ca data => Sys2Proof.Machine.execCompletionError t n ca data s
  | .hostLinkDown t moved => Sys2Proof.Machine.execHostLinkDown t moved s
  | .bmeClear t moved => Sys2Proof.Machine.execBmeClear t moved s
  | .chkInit m u => Sys2Proof.Machine.execChkInit m u s
  | .chkD8 m u v => Sys2Proof.Machine.execChkD8 m u v s
  | .chkD16 m u v => Sys2Proof.Machine.execChkD16 m u v s
  | .chkD32 m u v => Sys2Proof.Machine.execChkD32 m u v s
  | .chkFold m u hi => Sys2Proof.Machine.execChkFold m u hi s
  | .chkValWrite m u hi v => Sys2Proof.Machine.execChkValWrite m u hi v s
  | .chkWidth m u w => Sys2Proof.Machine.execChkWidth m u w s
  | .winGalRead t off len => Sys2Proof.Machine.execWinGalRead t off len s
  | .winGalWrite t off len => Sys2Proof.Machine.execWinGalWrite t off len s
  | .mgmtFrameRx t frame => Sys2Proof.Machine.execMgmtFrameRx t frame s
  | .mgmtLinkDown r => Sys2Proof.Machine.execMgmtLinkDown r s
  | .ptpEventRx t f seqId => Sys2Proof.Machine.execPtpEventRx t f seqId s
  | .ptpEventTx t f seqId twoStep corr => Sys2Proof.Machine.execPtpEventTx t f seqId twoStep corr s
  | .takeRelease m v => Sys2Proof.Machine.execTakeRelease m v s
  | .takeReleaseEffect t => Sys2Proof.Machine.execTakeReleaseEffect t s
  | .layerRelease m => Sys2Proof.Machine.execLayerRelease m s
  | .layerReleaseEffect t => Sys2Proof.Machine.execLayerReleaseEffect t s
  | .prepassComplete t => Sys2Proof.Machine.execPrepassComplete t s
  | .tileCompose t lane faults accs => Sys2Proof.Machine.execTileCompose t lane faults accs s
  | .cyclePublish t => Sys2Proof.Machine.execCyclePublish t s
  | .previewRebuildDone t => Sys2Proof.Machine.execPreviewRebuildDone t s
  | .tapArm m => Sys2Proof.Machine.execTapArm m s
  | .tapDisarm m => Sys2Proof.Machine.execTapDisarm m s
  | .tapDone t => Sys2Proof.Machine.execTapDone t s
  | .memRun m v => Sys2Proof.Machine.execMemRun m v s
  | .refreshInterval t bank => Sys2Proof.Machine.execRefreshInterval t bank s
  | .refreshIssue t bank use => Sys2Proof.Machine.execRefreshIssue t bank use s
  | .hbmTempRead t temp => Sys2Proof.Machine.execHbmTempRead t temp s
  | .hbmReadPoison t source addr corrected core => Sys2Proof.Machine.execHbmReadPoison t source addr corrected core s
  | .hbmPhy t channel reads => Sys2Proof.Machine.execHbmPhy t channel reads s
  | .scrubRead t a accs clash => Sys2Proof.Machine.execScrubRead t a accs clash s
  | .scrubSlow t a => Sys2Proof.Machine.execScrubSlow t a s
  | .join m v => Sys2Proof.Machine.execJoin m v s
  | .ringInputDown t l => Sys2Proof.Machine.execRingInputDown t l s
  | .ringInputUp t p foms => Sys2Proof.Machine.execRingInputUp t p foms s
  | .ringRecover m p => Sys2Proof.Machine.execRingRecover m p s
  | .discover m => Sys2Proof.Machine.execDiscover m s
  | .discovery t => Sys2Proof.Machine.execDiscovery t s
  | .topoWaitEnd t => Sys2Proof.Machine.execTopoWaitEnd t s
  | .topo t h msg => Sys2Proof.Machine.execTopo t h msg s
  | .topoResult t h msg => Sys2Proof.Machine.execTopoResult t h msg s
  | .link t h lflags => Sys2Proof.Machine.execLink t h lflags s
  | .sync t h ns fr corr dep => Sys2Proof.Machine.execSync t h ns fr corr dep s
  | .syncPeriod t => Sys2Proof.Machine.execSyncPeriod t s
  | .syncTimeout t => Sys2Proof.Machine.execSyncTimeout t s
  | .pdelayMeasure t p => Sys2Proof.Machine.execPdelayMeasure t p s
  | .pdelayReq t h dep => Sys2Proof.Machine.execPdelayReq t h dep s
  | .pdelayResp t h reqSeq turn => Sys2Proof.Machine.execPdelayResp t h reqSeq turn s
  | .launchGo m time => Sys2Proof.Machine.execLaunchGo m time s
  | .launch t h msg => Sys2Proof.Machine.execLaunch t h msg s
  | .launchDeadline t => Sys2Proof.Machine.execLaunchDeadline t s
  | .report t h msg => Sys2Proof.Machine.execReport t h msg s
  | .haloData t h id block nblk data => Sys2Proof.Machine.execHaloData t h id block nblk data s
  | .haloAck t h done refused id next => Sys2Proof.Machine.execHaloAck t h done refused id next s
  | .haloTimeout t yhi => Sys2Proof.Machine.execHaloTimeout t yhi s
  | .resendYlo m => Sys2Proof.Machine.execResendYlo m s
  | .resendYhi m => Sys2Proof.Machine.execResendYhi m s
  | .faultEvent t h msg => Sys2Proof.Machine.execFaultEvent t h msg s
  | .mail t h m data => Sys2Proof.Machine.execMail t h m data s
  | .timeTick t => Sys2Proof.Machine.execTimeTick t s
  | .timeSetNow m => Sys2Proof.Machine.execTimeSetNow m s
  | .atSyncIn m => Sys2Proof.Machine.execAtSyncIn m s
  | .timAdj m v => Sys2Proof.Machine.execTimAdj m v s
  | .syncInEdge t => Sys2Proof.Machine.execSyncInEdge t s
  | .syncOutMark t => Sys2Proof.Machine.execSyncOutMark t s
  | .frameStart t p vc k => Sys2Proof.Machine.execFrameStart t p vc k s
  | .longPacket t p vc dt data eccFixed crcOk => Sys2Proof.Machine.execLongPacket t p vc dt data eccFixed crcOk s
  | .packetEccError t p => Sys2Proof.Machine.execPacketEccError t p s
  | .frameEnd t p vc k => Sys2Proof.Machine.execFrameEnd t p vc k s
  | .frameTimeout t c => Sys2Proof.Machine.execFrameTimeout t c s
  | .camLaneLockLoss t p lane => Sys2Proof.Machine.execCamLaneLockLoss t p lane s
  | .frameRecordWrite t c => Sys2Proof.Machine.execFrameRecordWrite t c s
  | .cciWriteDone t p nak => Sys2Proof.Machine.execCciWriteDone t p nak s
  | .visSetArm m c => Sys2Proof.Machine.execVisSetArm m c s
  | .visCtxRel m c k => Sys2Proof.Machine.execVisCtxRel m c k s
  | .runStart m => Sys2Proof.Machine.execRunStart m s
  | .cancel m => Sys2Proof.Machine.execCancel m s
  | .trimStep t k => Sys2Proof.Machine.execTrimStep t k s
  | .stage m => Sys2Proof.Machine.execStage m s
  | .unstage m => Sys2Proof.Machine.execUnstage m s
  | .gainTargetCopy m v => Sys2Proof.Machine.execGainTargetCopy m v s
  | .provision m => Sys2Proof.Machine.execProvision m s
  | .advance m => Sys2Proof.Machine.execAdvance m s
  | .genWrap m slot => Sys2Proof.Machine.execGenWrap m slot s
  | .loadKey m => Sys2Proof.Machine.execLoadKey m s
  | .erase m slot => Sys2Proof.Machine.execErase m slot s
  | .readDev m => Sys2Proof.Machine.execReadDev m s
  | .formeLoad m persist => Sys2Proof.Machine.execFormeLoad m persist s
  | .persist m => Sys2Proof.Machine.execPersist m s
  | .persistDone t good => Sys2Proof.Machine.execPersistDone t good s
  | .unlock m => Sys2Proof.Machine.execUnlock m s
  | .lock m => Sys2Proof.Machine.execLock m s
  | .jtagExtest t select => Sys2Proof.Machine.execJtagExtest t select s
  | .securityAlarm t cls => Sys2Proof.Machine.execSecurityAlarm t cls s
  | .tampAlarm t inputB => Sys2Proof.Machine.execTampAlarm t inputB s
  | .jrnTrap t j cause inNmi => Sys2Proof.Machine.execJrnTrap t j cause inNmi s
  | .jrnWdog t j inNmi => Sys2Proof.Machine.execJrnWdog t j inNmi s
  | .jrnKick m j => Sys2Proof.Machine.execJrnKick m j s
  | .jrnMbPost m j => Sys2Proof.Machine.execJrnMbPost m j s
  | .jrnMbIn m j v => Sys2Proof.Machine.execJrnMbIn m j v s
  | .refclkLoss t => Sys2Proof.Machine.execRefclkLoss t s
  | .pllLockLoss t clk => Sys2Proof.Machine.execPllLockLoss t clk s
  | .vbakLow t lost => Sys2Proof.Machine.execVbakLow t lost s
  | .hostLinkUp t width speed bme => Sys2Proof.Machine.execHostLinkUp t width speed bme s
  | .mgmtLinkUp r => Sys2Proof.Machine.execMgmtLinkUp r s
  | .camLaneLock t p lane => Sys2Proof.Machine.execCamLaneLock t p lane s
  | .beamInhibitRelease t => Sys2Proof.Machine.execBeamInhibitRelease t s
  | .vinEnergySample t mV mA => Sys2Proof.Machine.execVinEnergySample t mV mA s
  | .msixUnmask m off v => Sys2Proof.Machine.execMsixUnmask m off v s

end Sys2Proof.Machine
end

