-- ==== Sys2Proof/Machine/LineCode.lean ====
section
/-! DEFINITION. The line code and the frames on the links: lanes and return lanes (R335 to R350), position and set-point
words (R373 to R375, R397), ring frames (R467 to R471, R477, R483, R484, R494, R499, R501, R506).  The step works on
the fields of a frame; this file gives the bits that a record of State.out puts on its lands, and the command that
received bits stand for (log entry 103). -/

namespace Sys2Proof.Machine
open Sys2Proof

/-! ## Bits -/

/-- The n low bits of v, least significant first (R339). -/
def bitsOf : Nat → Nat → List Bool
  | 0, _ => []
  | n + 1, v => (v % 2 == 1) :: bitsOf n (v / 2)

/-- The value of bits, least significant first. -/
def ofBits : List Bool → Nat
  | [] => 0
  | b :: l => b2n b + 2 * ofBits l

/-- The bits of a byte string in sending order (R339). -/
def byteBits (l : List Byte) : List Bool := l.flatMap (fun b => bitsOf 8 b.toNat)

/-- The n bytes at the head of received bits. -/
def bytesOf : Nat → List Bool → List Byte
  | 0, _ => []
  | n + 1, l => BitVec.ofNat 8 (ofBits (l.take 8)) :: bytesOf n (l.drop 8)

/-! ## Scrambler (R340, R341) -/

/-- The keystream bit of a scrambler state. -/
def ksBit (s : Nat) : Bool := bitOf s 30 != bitOf s 27

/-- The scrambler state after one bit. -/
def ksNext (s : Nat) : Nat := (2 * s + b2n (ksBit s)) % 2 ^ 31

/-- Bits exclusive-ORed with the keystream from a state; the same function descrambles. -/
def scramble : Nat → List Bool → List Bool
  | _, [] => []
  | s, b :: l => (b != ksBit s) :: scramble (ksNext s) l

/-- The scrambler state after n bits. -/
def ksAfter : Nat → Nat → Nat
  | s, 0 => s
  | s, n + 1 => ksAfter (ksNext s) n


/-! ## Stuff bits and SYNC (R342, R343, R374) -/

/-- The run that ends at the last bit on the line: its bit and its length. -/
structure Run where
  last : Bool
  len : Nat
  deriving DecidableEq, Repr

/-- The run after one more bit. -/
def Run.add (r : Run) (b : Bool) : Run := if b = r.last then ⟨b, r.len + 1⟩ else ⟨b, 1⟩

/-- A link's code: the run limit, and SYNC as leading zeros, ones and a tail; the ones are sent as they stand, and the
tail too where tailAsIs says so. -/
structure LineCode where
  limit : Nat
  lead : Nat
  ones : Nat
  tail : List Bool
  tailAsIs : Bool
  deriving DecidableEq, Repr

/-- SYNC of shot frames and return messages, 0x3C5A_FFFF_FFFF_FFE0 (R335, R348). -/
def laneCode : LineCode := ⟨40, 5, 43, bitsOf 16 0x3C5A, true⟩

/-- CSYNC of control frames, 0x5AC2_FFFF_FFFF_FFE0 (R345). -/
def ctrlCode : LineCode := ⟨40, 5, 43, bitsOf 16 0x5AC2, true⟩

/-- SYNC of ring frames, 0xA53C_FFFF_FFFF_FFE0 (R467). -/
def ringCode : LineCode := ⟨40, 5, 43, bitsOf 16 0xA53C, true⟩

/-- SYNC of position and set-point words, 0x7_FFFE (R374). -/
def wordCode : LineCode := ⟨16, 1, 18, [false], false⟩

/-- The bits of SYNC, and whether each is sent as it stands. -/
def LineCode.sync (c : LineCode) : List (Bool × Bool) :=
  List.replicate c.lead (false, false) ++ List.replicate c.ones (true, true) ++ c.tail.map (fun b => (b, c.tailAsIs))

/-- Bits as sent, stuff bits included, and the run they leave (R342). -/
def stuff (limit : Nat) : Run → List (Bool × Bool) → List Bool × Run
  | r, [] => ([], r)
  | r, (b, asIs) :: l =>
    if !asIs && r.len == limit then
      let x := stuff limit (Run.add ⟨!r.last, 1⟩ b) l
      ((!r.last) :: b :: x.1, x.2)
    else
      let x := stuff limit (r.add b) l
      (b :: x.1, x.2)

/-- A frame on the line after a run: SYNC, then the scrambled fields (R339 to R342). -/
def LineCode.send (c : LineCode) (seed : Nat) (r : Run) (data : List Bool) : List Bool × Run :=
  stuff c.limit r (c.sync ++ (scramble seed data).map (fun b => (b, false)))

/-- n bits of IDLE fill from a scrambler state, after a run on the line, stuff bits included (R341, R342). -/
def LineCode.fill (c : LineCode) (st : Nat) (r : Run) (n : Nat) : List Bool × Run :=
  stuff c.limit r ((scramble st (List.replicate n false)).map (fun b => (b, false)))

/-- The scrambler state from which lane l fills (R341): after the last bit of its last frame since it left electrical idle,
else the lane's own seed. -/
def State.laneFill (s : State) (l : Nat) : Nat :=
  match List.lookup l s.bdl.lastSent with
  | some p => ksAfter p.1 p.2
  | none => 2 ^ 30 + l

/-- n bits of IDLE fill on lane l after a run on it; none in electrical idle (R341, R356). -/
def State.laneIdle (s : State) (l : Nat) (r : Run) (n : Nat) : Option (List Bool × Run) :=
  if s.get (F.BDL_STAT_STATE l) = 0 then none else some (laneCode.fill (s.laneFill l) r n)

/-- The scrambler state from which ring r fills (R341, R467): after the last bit of its last frame, else the ring's own seed. -/
def State.ringFill (s : State) (r : Nat) : Nat :=
  match (s.ringOut r).sent with
  | some p => ksAfter p.1 p.2
  | none => 2 ^ 30 + r * 2 ^ 27

/-- n bits of IDLE fill on ring r after a run on it, while its transmitter sends (R464, R467). -/
def State.ringIdle (s : State) (r : Nat) (l : Run) (n : Nat) : Option (List Bool × Run) :=
  if s.domUp .ring && s.role != 0 && s.ringSends then some (ringCode.fill (s.ringFill r) l n) else none

/-- The seed of a position or set-point word (R374): id is n for POS[n] and 3 for SETP. -/
def wordSeed (seq id : Nat) : Nat := 2 ^ 30 + seq * 2 ^ 5 + id

/-- The scrambler state from which SETP fills (R341, R374): after the last CRC bit of its last word, else its own seed with
SEQ 0 (DEDUCED, log entry 103). -/
def State.setpFill (s : State) : Nat :=
  match s.gov.spSent with
  | some q => ksAfter (wordSeed q 3) 96
  | none => wordSeed 0 3

/-- n bits of IDLE fill on SETP after a run on it, while PD_MOTION runs (R374). -/
def State.setpIdle (s : State) (r : Run) (n : Nat) : Option (List Bool × Run) :=
  if s.domUp .motion then some (wordCode.fill s.setpFill r n) else none

/-- The received bits after SYNC: exactly the ones, with a 0 before them and the tail after them (R343, R374). -/
def LineCode.afterSync (c : LineCode) : List Bool → Option (List Bool)
  | [] => none
  | b :: l =>
    if !b && l.take (c.ones + c.tail.length) == List.replicate c.ones true ++ c.tail then
      some (l.drop (c.ones + c.tail.length))
    else c.afterSync l

/-- The run that SYNC leaves at its end. -/
def LineCode.syncRun (c : LineCode) : Run := (c.sync.map Prod.fst).foldl Run.add ⟨true, 0⟩

/-- The next n bits with stuff bits discarded; none on a line error (R342, R343) or where the bits run out. -/
def unstuff (limit : Nat) : Run → Nat → List Bool → Option (List Bool)
  | _, 0, _ => some []
  | _, _ + 1, [] => none
  | r, n + 1, b :: l =>
    if r.len = limit then (if b = r.last then none else unstuff limit ⟨b, 1⟩ (n + 1) l)
    else (unstuff limit (r.add b) n l).map (b :: ·)

/-- The first n field bits of a received frame, descrambled from a seed. -/
def LineCode.recv (c : LineCode) (seed n : Nat) (bits : List Bool) : Option (List Bool) :=
  match c.afterSync bits with
  | none => none
  | some l => (unstuff c.limit c.syncRun n l).map (scramble seed)

/-! ## Shot frames and control frames (R335 to R346) -/

/-- The CRC of a shot frame over fold block, header and payload (R338). -/
def frameCrc (header : Nat) (pay : List Byte) : Nat :=
  crc32c (leBytes 8 (bits header 20 40) ++ leBytes 1 (bits header 0 6) ++ leBytes 1 (bits header 6 5)
    ++ leBytes 2 (bits header 11 9) ++ leBytes 8 header ++ pay)

/-- The payload bytes of a lane's values (R196, R335). -/
def framePay (vals : Vals) : List Byte := packLeaf (laneArr vals 0)

/-- The field bits of a shot frame: header, payload, CRC. -/
def frameData (header : Nat) (pay : List Byte) : List Bool :=
  bitsOf 64 header ++ byteBits pay ++ bitsOf 32 (frameCrc header pay)

/-- The field bits of a control frame: CHEAD, body, CRC (R345). -/
def ctrlData (typ cseq : Nat) (body : List Byte) : List Bool :=
  let head := leBytes 1 typ ++ leBytes 2 body.length ++ zeros 1 ++ leBytes 4 cseq
  byteBits (head ++ body) ++ bitsOf 32 (crc32c (leBytes 8 cseq ++ head ++ body))

/-! ## Return messages (R348 to R350) -/

/-- The seed of a return message on return lane k (R348). -/
def retSeed (mseq k : Nat) : Nat := 2 ^ 30 + mseq % 2 ^ 25 * 2 ^ 5 + k

/-- The field bits of a return message: MHEAD, body, CRC (R348). -/
def retData (k typ mseq : Nat) (body : List Byte) : List Bool :=
  let head := leBytes 1 typ ++ leBytes 2 body.length ++ zeros 1 ++ leBytes 4 mseq
  byteBits (head ++ body) ++ bitsOf 32 (crc32c (leBytes 4 mseq ++ leBytes 1 k ++ zeros 3 ++ head ++ body))

/-- The length of a return message's body (R349); none for an unknown type. -/
def retLen (typ : Nat) : Option Nat := List.lookup typ [(0x10, 16), (0x20, 80), (0x21, 8), (0x30, 560)]

/-- The body of a return message of sequence number mseq whose line code, CRC, TYPE, LEN and zero bytes pass (R350). -/
def retRead (k mseq : Nat) (line : List Bool) : Option (Nat × List Byte) :=
  match laneCode.recv (retSeed mseq k) 64 line with
  | none => none
  | some h =>
    let typ := ofBits (h.take 8)
    let len := ofBits ((h.drop 8).take 16)
    if retLen typ = some len ∧ ofBits ((h.drop 24).take 8) = 0 ∧ ofBits ((h.drop 32).take 32) = mseq then
      match laneCode.recv (retSeed mseq k) (96 + 8 * len) line with
      | none => none
      | some d =>
        let body := bytesOf len (d.drop 64)
        if d = retData k typ mseq body ∧ (typ = 0x10 → leAt body 5 3 = 0 ∧ leAt body 10 6 = 0) then some (typ, body) else none
    else none

/-- The command that a return message stands for: one whose checks fail is discarded whatever it was (R350), and so is an
AUTH_ANSWER on BSR[1..3], which R349 does not send there (DESIGN CHOICE, log entry 114). -/
def retCmd (t : Nat) (k : Fin 4) (mseq : Nat) (line : List Bool) : Instr :=
  match retRead k mseq line with
  | none => .answer t k ⟨mseq, false⟩ none 0 0
  | some (typ, b) =>
    let h : RetHdr := ⟨mseq, true⟩
    if typ = 0x10 then .answer t k h (some (leAt b 0 5)) (b.getD 8 0) (b.getD 9 0)
    else if typ = 0x20 then
      .telemetry t k h (leAt b 0 16) ((List.range 16).map (fun i => leSAt b (16 + 2 * i) 2))
        ((List.range 16).map (fun i => leAt b (48 + 2 * i) 2))
    else if typ = 0x21 then .fom t k h ((List.range 8).map (fun i => leAt b i 1))
    else if k = 0 then .authAnswer t h (leAt b 0 16) ((List.range 64).map (fun i => leAt b (16 + 8 * i) 8)) (leAt b 528 32)
    else .answer t k ⟨mseq, false⟩ none 0 0

/-! ## Position words (R373 to R375) -/

/-- A position word with its CRC, before the line code (R373, R375). -/
def posWord (link seq : Nat) (pos : Int) (valid index warn : Bool) (age : Nat) : Nat :=
  let w := seq % 256 + tc 48 pos * 2 ^ 8 + b2n valid * 2 ^ 56 + b2n index * 2 ^ 57 + b2n warn * 2 ^ 58
    + age % 65536 * 2 ^ 64
  w + crc16 0xFFFF (leBytes 1 seq ++ leBytes 1 link ++ leBytes 10 w) * 2 ^ 80

/-- The fields of a received word whose line code passes; its CRC is checked with the port's LINK_ID (R375). -/
def posFields (link w : Nat) : PosWord :=
  { seq := Fin.ofNat 256 w, pos := sx 48 (bits w 8 48), valid := bitOf w 56, index := bitOf w 57, warn := bitOf w 58,
    age := bits w 64 16, line := true,
    crc := bits w 80 16 == crc16 0xFFFF (leBytes 1 w ++ leBytes 1 link ++ leBytes 10 w) }

/-- What port n receives from line bits: the word under the scrambler seed of the SEQ that the word itself carries and
whose CRC passes; without one, a word with a line error or a failed CRC. -/
def posRead (link : Nat) (n : Fin 3) (line : List Bool) : PosWord :=
  let bad (l : Bool) : PosWord := ⟨0, 0, false, false, false, 0, l, false⟩
  match wordCode.recv 0 96 line with
  | none => bad false
  | some _ =>
    match (List.range 256).find? (fun q => match wordCode.recv (wordSeed q n) 96 line with
        | none => false
        | some d => ofBits (d.take 8) == q && (posFields link (ofBits d)).crc) with
    | none => bad true
    | some q => posFields link (ofBits ((wordCode.recv (wordSeed q n) 96 line).getD []))

/-- POSITION_WORD as the bits on POS[n] stand for it. -/
def posCmd (t link : Nat) (n : Fin 3) (line : List Bool) : Instr := .positionWord t n (posRead link n line)

/-! ## Ring frames (R467 to R471) -/

/-- The LFLAGS of an entry (R477). -/
def entryFlags (e : TopoEntry) : Nat := b2n e.raUp + 2 * b2n e.rbUp + 4 * b2n e.dup

/-- The 16 bytes of an entry (R477). -/
def entryBytes (e : TopoEntry) : List Byte :=
  leBytes 1 e.device ++ leBytes 1 e.role ++ leBytes 1 (entryFlags e) ++ zeros 5 ++ leBytes 8 e.serial

/-- A TOPO or TOPO_RESULT payload (R477). -/
def topoBytes (kind : Nat) (m : TopoMsg) : List Byte :=
  leBytes 1 kind ++ leBytes 1 m.entries.length ++ leBytes 1 (b2n m.full + 2 * b2n m.broken + 4 * b2n m.masters)
    ++ leBytes 1 m.brk ++ leBytes 2 m.tseq ++ zeros 10 ++ m.entries.flatMap entryBytes

/-- A LAUNCH payload (R494). -/
def launchBytes (m : LaunchMsg) : List Byte :=
  leBytes 1 1 ++ leBytes 1 (b2n m.time) ++ zeros 2 ++ leBytes 4 m.layer ++ leBytes 1 m.mend ++ zeros 7
    ++ leBytes 8 m.posOrT ++ leBytes 2 m.tfr ++ zeros 6 ++ leBytes 8 m.deadline ++ leBytes 8 m.group
    ++ (List.range 64).flatMap (fun i => leBytes 2 (m.stripes.getD i 0))

/-- A REPORT payload (R499). -/
def reportBytes (m : ReportMsg) : List Byte :=
  leBytes 1 2 ++ leBytes 1 m.result ++ leBytes 2 m.lseq ++ leBytes 4 m.layer ++ leBytes 1 m.mend ++ zeros 1
    ++ leBytes 2 m.stripe ++ zeros 4 ++ leBytes 8 (tc 64 m.xa) ++ zeros 8

/-- The bytes of a payload (R470, R471, R477, R480, R483, R484, R494, R499, R501, R506). -/
def RPay.bytes : RPay → List Byte
  | .sync n f c => leBytes 1 1 ++ zeros 7 ++ leBytes 8 n ++ leBytes 2 f ++ zeros 6 ++ leBytes 8 (tc 64 c)
  | .pdReq => leBytes 1 2 ++ zeros 15
  | .pdResp q v => leBytes 1 3 ++ zeros 1 ++ leBytes 2 q ++ zeros 12 ++ leBytes 8 (tc 64 v)
  | .launch m => launchBytes m
  | .report m => reportBytes m
  | .haloData i b n d => leBytes 1 1 ++ zeros 1 ++ leBytes 2 i ++ leBytes 4 b ++ leBytes 4 n ++ zeros 4 ++ d
  | .haloAck d r i n => leBytes 1 2 ++ leBytes 1 (b2n d + 2 * b2n r) ++ leBytes 2 i ++ leBytes 4 n ++ zeros 8
  | .fault m => leBytes 1 1 ++ zeros 7 ++ leBytes 16 m.word
  | .topo m => topoBytes 1 m
  | .topoResult m => topoBytes 2 m
  | .link f => leBytes 1 3 ++ leBytes 1 f ++ zeros 14
  | .mail p n d => leBytes 1 1 ++ leBytes 1 p ++ zeros 2 ++ leBytes 4 n ++ zeros 8 ++ d

/-- The header of a ring frame (R468). -/
def ringHead (r src dst seq cls len : Nat) (bcast : Bool) (hops : Nat) : Nat :=
  dst % 64 + src % 64 * 2 ^ 6 + cls * 2 ^ 12 + seq % 65536 * 2 ^ 16 + len % 4096 * 2 ^ 32 + b2n bcast * 2 ^ 44
    + r % 2 * 2 ^ 45 + hops % 64 * 2 ^ 46

/-- The CRC of a ring frame: HOPS counts as 0 (R469). -/
def ringCrc (head : Nat) (pay : List Byte) : Nat :=
  crc32c (leBytes 1 (bits head 6 6) ++ leBytes 1 (bits head 0 6) ++ leBytes 2 (bits head 16 16) ++ zeros 4
    ++ leBytes 8 (head - bits head 46 6 * 2 ^ 46) ++ pay)

/-- The field bits of a ring frame: header, payload, CRC (R467). -/
def ringData (head : Nat) (pay : List Byte) : List Bool :=
  bitsOf 64 head ++ byteBits pay ++ bitsOf 32 (ringCrc head pay)

/-- An entry from its 16 bytes. -/
def topoEntryOf (b : List Byte) : TopoEntry :=
  ⟨leAt b 0 1, leAt b 1 1, bitOf (leAt b 2 1) 0, bitOf (leAt b 2 1) 1, bitOf (leAt b 2 1) 2, leAt b 8 8⟩

/-- A TOPO or TOPO_RESULT payload from its bytes. -/
def topoOf (b : List Byte) : TopoMsg :=
  let f := leAt b 2 1
  ⟨bitOf f 0, bitOf f 1, bitOf f 2, leAt b 3 1, leAt b 4 2,
    (List.range (leAt b 1 1)).map (fun i => topoEntryOf ((b.drop (16 + 16 * i)).take 16))⟩

/-- A LAUNCH payload from its bytes. -/
def launchOf (b : List Byte) : LaunchMsg :=
  ⟨leAt b 1 1 == 1, leAt b 4 4, leAt b 8 1, leAt b 16 8, leAt b 24 2, leAt b 32 8, leAt b 40 8,
    (List.range 64).map (fun i => leAt b (48 + 2 * i) 2)⟩

/-- A fault message from its 128 bits (R586). -/
def faultOf (w : Nat) : FMsg := ⟨bits w 0 7, bits w 7 2, bits w 9 7, bits w 16 8, bits w 24 48, bits w 72 48, bits w 120 8⟩

/-- The payload that a class and KIND make of bytes; none for a class or kind that R470 does not list. -/
def payOf (cls : Nat) (b : List Byte) : Option RPay :=
  match cls, leAt b 0 1 with
  | 0, 1 => some (.sync (leAt b 8 8) (leAt b 16 2) (leSAt b 24 8))
  | 0, 2 => some .pdReq
  | 0, 3 => some (.pdResp (leAt b 2 2) (leSAt b 16 8))
  | 1, 1 => some (.launch (launchOf b))
  | 1, 2 => some (.report ⟨leAt b 1 1, leAt b 2 2, leAt b 4 4, leAt b 8 1, leAt b 10 2, leSAt b 16 8⟩)
  | 2, 1 => some (.haloData (leAt b 2 2) (leAt b 4 4) (leAt b 8 4) (b.drop 16))
  | 2, 2 => some (.haloAck (bitOf (leAt b 1 1) 0) (bitOf (leAt b 1 1) 1) (leAt b 2 2) (leAt b 4 4))
  | 3, 1 => some (.fault (faultOf (leAt b 8 16)))
  | 4, 1 => some (.topo (topoOf b))
  | 4, 2 => some (.topoResult (topoOf b))
  | 4, 3 => some (.link (leAt b 1 1))
  | 5, 1 => some (.mail (leAt b 1 1) (leAt b 4 4) (b.drop 16))
  | _, _ => none

/-- A payload passes R472: its class and kind are listed, its length is the kind's, and every reserved bit is 0. The
bytes after MLEN bytes of mail are not reserved (R471). -/
def payRead (cls : Nat) (b : List Byte) : Option RPay :=
  match payOf cls b with
  | none => none
  | some p =>
    let whole := match p with
      | .mail q n d => p.bytes == b && decide (n ≤ d.length ∧ q < 8)
      | .link f => p.bytes == b && decide (f < 8)
      | .haloData _ _ _ d => p.bytes == b && !d.isEmpty
      | .launch m => p.bytes == b && decide (leAt b 1 1 < 2) && m.stripes.length == 64
      | _ => p.bytes == b
    if whole && decide (16 ≤ b.length ∧ b.length ≤ 2048) then some p else none

/-- A ring frame of known ring, source, sequence number and class, read from line bits: its header and payload where
every check of R472 passes. -/
def ringRead (r src seq cls : Nat) (line : List Bool) : Option (RingHdr × RPay) :=
  match ringCode.recv (ringSeed r src seq cls) 64 line with
  | none => none
  | some h =>
    let head := ofBits h
    let len := bits head 32 12
    match ringCode.recv (ringSeed r src seq cls) (96 + 8 * len) line with
    | none => none
    | some d =>
      let pay := bytesOf len (d.drop 64)
      match payRead cls pay with
      | none => none
      | some p =>
        if bits head 6 6 = src ∧ bits head 16 16 = seq ∧ bits head 12 4 = cls ∧ bits head 45 1 = r ∧ bits head 52 12 = 0
            ∧ d = ringData head pay then
          some (⟨Fin.ofNat 2 r, Fin.ofNat 64 src, Fin.ofNat 64 head, Fin.ofNat 65536 seq, bitOf head 44,
            Fin.ofNat 64 (bits head 46 6), true, true⟩, p)
        else none

/-- A received ring frame has no line error and its CRC passes (R472). -/
def ringWholeLine (r src seq cls : Nat) (line : List Bool) : Bool :=
  match ringCode.recv (ringSeed r src seq cls) 64 line with
  | none => false
  | some h =>
    let len := bits (ofBits h) 32 12
    match ringCode.recv (ringSeed r src seq cls) (96 + 8 * len) line with
    | none => false
    | some d => d == ringData (ofBits h) (bytesOf len (d.drop 64))

/-- The command that a ring frame stands for; dep is the departure of a frame that the part forwards or answers. A frame
that fails a check is discarded whatever it was (R472). -/
def ringCmd (t r src seq cls dep : Nat) (line : List Bool) : Instr :=
  match ringRead r src seq cls line with
  | none =>
    .link t ⟨Fin.ofNat 2 r, Fin.ofNat 64 src, 0, Fin.ofNat 65536 seq, true, 0, ringWholeLine r src seq cls line, false⟩ 0
  | some (h, p) =>
    match p with
    | .sync n f c => .sync t h n f c dep
    | .pdReq => .pdelayReq t h dep
    | .pdResp q v => .pdelayResp t h q v
    | .launch m => .launch t h m
    | .report m => .report t h m
    | .haloData i b n d => .haloData t h i b n d
    | .haloAck d q i n => .haloAck t h d q i n
    | .fault m => .faultEvent t h ⟨Fin.ofNat 128 m.source, m.sev, m.sub, m.kind, m.addr, m.time, m.seq⟩
    | .topo m => .topo t h m
    | .topoResult m => .topoResult t h m
    | .link f => .link t h f
    | .mail q n d => .mail t h ⟨q, n⟩ d

/-! ## The bits of a record of State.out -/

/-- The bits that a record puts on its lands after a run on the line: shot frames, control frames, set-point words and
ring frames. The other records leave over links whose own standards give their bits. -/
def Tx.line (r : Run) : Tx → Option (List Bool × Run)
  | .frame lane h v => some (laneCode.send (laneSeed (bits h 20 40) lane) r (frameData h (framePay v)))
  | .ctrl typ q b => some (ctrlCode.send (ctrlSeed q) r (ctrlData typ q b))
  | .setp w => some (wordCode.send (wordSeed (w % 256) 3) r (bitsOf 96 w))
  | .ring g src dst seq bc hops p =>
    some (ringCode.send (ringSeed g src seq p.cls) r
      (ringData (ringHead g src dst seq p.cls p.bytes.length bc hops) p.bytes))
  | _ => none

end Sys2Proof.Machine
end

