-- ==== Sys2Proof/Safety.lean ====
section
/-! DEFINITION. Safe runs: steps that answer a next state, and what a command leaves as it was, in the terms the claims
use. -/

namespace Sys2Proof
open Machine

/-- A command completes from a state: exec answers a next state. -/
def Completes (c : Instr) (s : State) : Prop := ∃ t, exec c s = .next t

/-- The state a command leaves, the state itself where none is left. -/
def after (c : Instr) (s : State) : State :=
  match exec c s with
  | .next t => t
  | _ => s

/-- Every field whose bit address is not that of a listed field holds what it held. -/
def KeepsFields (l : List Fld) (s t : State) : Prop := ∀ f : Fld, (∀ g ∈ l, f.bit ≠ g.bit) → t.get f = s.get f

/-- Every byte of HBM reads as before. -/
def KeepsHbm (s t : State) : Prop := ∀ a, cellGet t.mem.cells a = cellGet s.mem.cells a

/-- Nothing changes but fields of the register store, and of those the listed ones alone. -/
def OnlyFields (l : List Fld) (s t : State) : Prop := t = { s with regs := t.regs } ∧ KeepsFields l s t

/-- Nothing changes outside the registers, the Watch, the Daybook with the upsets standing in its array, MSI-X and the
output record: what events can touch. -/
def EventsOnly (s t : State) : Prop :=
  t = { s with regs := t.regs, watch := t.watch, dbk := t.dbk, sram := t.sram, msix := t.msix, out := t.out } ∧
  t.arr 0 = s.arr 0 ∧ t.arr 1 = s.arr 1 ∧ t.arr 2 = s.arr 2 ∧ { t.arr 3 with upsets := (s.arr 3).upsets } = s.arr 3

/-- The canonical form of the machine's data: HBM lists strictly rising addresses and no zero byte, and every register
store lists strictly rising bit addresses. -/
def Canonical (s : State) : Prop :=
  s.mem.wf = true ∧ Regs.wf s.regs = true ∧ Regs.wf s.force = true ∧ Regs.wf s.strip = true

/-- A ring frame that the part takes for itself (R472 to R474): it is in the ring and admitted, the frame is good and not
its own, its SEQ is new from that source, and it is addressed to the part, or to all and still allowed a hop. -/
def RingTakes (s : State) (h : RingHdr) : Prop :=
  s.inRing = true ∧ s.admitted = true ∧ h.good = true ∧ h.whole = true ∧ h.src.val ≠ s.get F.KOR_DEV_DEVICE ∧
  (DupWin.mark (s.kor.dups.lookup h.src.val) h.seq.val).isSome = true ∧
  (if h.bcast then h.hops.val ≠ 63 else h.dst.val = s.get F.KOR_DEV_DEVICE)

/-- No frame waits in the ring transmitters at an instant, and both lines are free (R470, R475). -/
def RingIdle (s : State) (t : Nat) : Prop :=
  ∀ r, r < 2 → (s.ringOut r).queue = [] ∧ (s.ringOut r).free ≤ 5 * max s.clk.now t

/-- A return message that the part accepts on return lane k (R349, R350): its receiver runs, the frame passes its checks
and its MSEQ follows the last one accepted. -/
def ReturnGood (s : State) (k : Nat) (h : RetHdr) : Prop :=
  s.domUp .bdlb = true ∧ s.get (F.BDL_RX_STAT_STATE k) ≠ 0 ∧ h.good = true ∧
  ∀ q, (s.bdl.bsr.get k Bsr.start).mseq = some q →
    1 ≤ (h.mseq + 2 ^ 32 - q) % 2 ^ 32 ∧ (h.mseq + 2 ^ 32 - q) % 2 ^ 32 < 2 ^ 31

end Sys2Proof
end

