-- ==== Sys2Proof/Certificates/Slice0/Obligations.lean ====
section
/-! DEFINITION. The statements for the provers, one Prop each. -/

section
open Sys2Proof Sys2Proof.Machine

/-- A step takes the command at the front of the queue and runs it on the state with the rest of the queue; with no
command waiting it answers the same state (the model's choice, log entry 9). -/
def Obligations.StepRunsFrontCommand : Prop :=
  (∀ (s : State) (c : Instr) (rest : List Instr), s.pending = c :: rest → step s = exec c { s with pending := rest }) ∧
  (∀ s : State, s.pending = [] → step s = .next s)

/-- After reset every field holds the value of its Reset column, nothing waits and the machine's data are canonical.
-/
def Obligations.ResetHoldsResetValues : Prop :=
  (∀ f : Fld, State.reset.get f = f.rst ∧ State.reset.frc f = f.rst) ∧ State.reset.pending = [] ∧ Canonical State.reset

/-- Every step keeps the canonical form of HBM and of the register stores. -/
def Obligations.StepKeepsCanonicalForm : Prop :=
  ∀ s t : State, Canonical s → step s = .next t → Canonical t

/-- WATCH_EVENT takes the oldest event of a source (R591): it is counted in CNT and in the open window, or opens a new
one; the source becomes SEVERE when the count reaches N, and one message is issued. Where the message itself cannot
leave by the ring (R475), RING_DROP and WCH_OVF may follow it. ESCALATION_EXPIRY (R604): a timer that has run out on a
source still SEVERE sets ESCALATED, stops, and the escalation's code counts as applied. Each of these commands
completes, with exec answering a next state, under conditions on the state and the operands alone: watchEvent,
escalationExpiry. -/
def Obligations.WatchTakesAndEscalates : Prop :=
  (∀ (s : State) (t : Nat) (src : Fin 128) (e : WEv) (rest : List WEv),
      s.domUp .ctrl = true → (s.wsrc src).queue = e :: rest →
      let cnt := if (s.at t).winOpen src then min 255 (s.get (F.WCH_SRC_STAT_WCOUNT src) + 1) else 1
      ∃ u, exec (.watchEvent t [src]) s = .next u ∧
        (s.get (F.WCH_SRC_CTL_RING src) = 0 ∨ (src.val ≠ 0x68 ∧ src.val ≠ 0x08) → (u.wsrc src).queue = rest) ∧
        u.get (F.WCH_SRC_CNT src) = min (s.get (F.WCH_SRC_CNT src) + 1) (2 ^ 32 - 1) ∧
        u.get (F.WCH_SRC_STAT_WCOUNT src) = cnt ∧ u.watch.msgs = s.watch.msgs + 1 ∧
        u.severe src = (s.severe src || decide (max 1 (s.get (F.WCH_SRC_CTL_N src)) ≤ cnt)) ∧ KeepsHbm s u) ∧
  (∀ (s : State) (t d : Nat) (src : Fin 128),
      s.domUp .ctrl = true → s.severe src = true → (s.wsrc src).deadline = some d → d ≤ max s.clk.now t →
      ∃ u, exec (.escalationExpiry t [src] []) s = .next u ∧
        u.get (F.WCH_SRC_STAT_ESCALATED src) = 1 ∧ (u.wsrc src).deadline = none ∧
        (u.wsrc src).applied = max (s.wsrc src).applied (min 6 (s.get (F.WCH_SRC_CTL_ESC src))) ∧
        u.watch.msgs = s.watch.msgs + 1 ∧ KeepsHbm s u)

/-- SOURCE_ACK stops the escalation timer and changes nothing else (R603); SOURCE_CLEAR of a source whose cause is
present is refused, else the source is QUIET (R594); CAUSE_GONE notes that the cause of a SEVERE source has ended
(R593). DBK_GO (R616): a core's write with a code of 0x8000 or above puts one record into the slot of its SEQ, unless
the rate limit holds it back; a write of HOST, or a lower code, is ignored. Each of these commands completes, with
exec answering a next state, under conditions on the state and the operands alone: sourceAck, sourceClear, causeGone,
dbkGo. -/
def Obligations.SourcesClearedAndRecorded : Prop :=
  (∀ (s : State) (m : Fin 9) (src : Fin 128), s.domUp .ctrl = true →
    ∃ u, exec (.sourceAck m src) s = .next u ∧ (u.wsrc src).deadline = none ∧
      u = { s with watch := { s.watch with src := u.watch.src } } ∧ ∀ k, k ≠ src.val → u.wsrc k = s.wsrc k) ∧
  (∀ (s : State) (m : Fin 9) (src : Fin 128), s.domUp .ctrl = true → s.causeOn src = true →
    ∃ u, exec (.sourceClear m src) s = .next u ∧ u.get (F.WCH_SRC_STAT_CLEAR_REFUSED src) = 1 ∧
      u.get F.DBK_SEQ = (s.get F.DBK_SEQ + 1) % 2 ^ 32 ∧ u.watch = s.watch ∧ u.mem = s.mem ∧
      KeepsFields [F.WCH_SRC_STAT_CLEAR_REFUSED src, F.DBK_SEQ] s u) ∧
  (∀ (s : State) (m : Fin 9) (src : Fin 128), s.domUp .ctrl = true → s.causeOn src = false →
    ∃ u, exec (.sourceClear m src) s = .next u ∧ u.severe src = false ∧
      u.get (F.WCH_SRC_STAT_ESCALATED src) = 0 ∧ u.get (F.WCH_SRC_STAT_CAUSE_GONE src) = 0 ∧
      u.get (F.WCH_SRC_STAT_WCOUNT src) = 0 ∧ (u.wsrc src).wopen = false ∧ (u.wsrc src).deadline = none ∧
      (u.wsrc src).queue = (s.wsrc src).queue ∧ u.get F.DBK_SEQ = (s.get F.DBK_SEQ + 1) % 2 ^ 32 ∧ u.mem = s.mem) ∧
  (∀ (s : State) (t : Nat) (src : Fin 128), s.domUp .ctrl = true → s.severe src = true →
    ((s.at t).pinEnd src).causeOn src = false →
    ∃ u, exec (.causeGone t src) s = .next u ∧ u.get (F.WCH_SRC_STAT_CAUSE_GONE src) = 1 ∧
      KeepsFields [F.WCH_SRC_STAT_CAUSE_GONE src, F.KOR_STAT_IN_RING] s u ∧ u.mem = s.mem ∧
      (src.val ≠ 2 → src.val ≠ 3 → KeepsFields [F.WCH_SRC_STAT_CAUSE_GONE src] s u)) ∧
  (∀ (s : State) (m : Fin 9) (j : Fin 8), s.domUp .ctrl = true → m ≠ 0 → 0x8000 ≤ s.get (F.DBK_WR_CODE_CODE j) →
    s.get F.DBK_RATE_N = 0 →
    ∃ u, exec (.dbkGo m j) s = .next u ∧ u.get F.DBK_SEQ = (s.get F.DBK_SEQ + 1) % 2 ^ 32 ∧
      (∃ r : DRec, u.dbk.slots.lookup (u.get F.DBK_SEQ % 4096) = some r ∧ r.seq = u.get F.DBK_SEQ ∧
        r.code = s.get (F.DBK_WR_CODE_CODE j) % 2 ^ 16 ∧ r.source = 0x80 + j.val ∧
        r.arg0 = s.get (F.DBK_WR_ARG j 0) % 2 ^ 32 ∧ r.arg1 = s.get (F.DBK_WR_ARG j 1) % 2 ^ 32 ∧
        r.arg2 = s.get (F.DBK_WR_ARG j 2) % 2 ^ 32) ∧ u.mem = s.mem ∧ KeepsFields [F.DBK_SEQ] s u) ∧
  (∀ (s : State) (m : Fin 9) (j : Fin 8), s.domUp .ctrl = true →
    m = 0 ∨ s.get (F.DBK_WR_CODE_CODE j) < 0x8000 → exec (.dbkGo m j) s = .next s)

/-- FAULT_N (R608, R609): a release while a SEVERE source of reaction 4 or above holds it is refused; before the
minimum has elapsed it is pending; after it the line is released, also by FAULT_PULSE_END. Each of these commands
completes, with exec answering a next state, under conditions on the state and the operands alone: faultRelease,
faultPulseEnd. -/
def Obligations.FaultLineRelease : Prop :=
  (∀ (s : State) (m : Fin 9), s.domUp .ctrl = true → s.assertedNow = true → exec (.faultRelease m) s = .next s) ∧
  (∀ (s : State) (m : Fin 9), s.domUp .ctrl = true → s.assertedNow = false → s.holdsFault = true →
    ∃ u, exec (.faultRelease m) s = .next u ∧ u.get F.WCH_FAULTN_REL_REFUSED = 1 ∧
      u.get F.WCH_FAULTN_DRIVEN = s.get F.WCH_FAULTN_DRIVEN) ∧
  (∀ (s : State) (m : Fin 9), s.domUp .ctrl = true → s.assertedNow = false → s.holdsFault = false → s.flag F.WCH_FAULTN_DRIVEN = true →
    s.clk.now < s.watch.faultMinEnd →
    ∃ u, exec (.faultRelease m) s = .next u ∧ u.get F.WCH_FAULTN_REL_PEND = 1 ∧
      OnlyFields [F.WCH_FAULTN_REL_PEND] s u) ∧
  (∀ (s : State) (m : Fin 9), s.domUp .ctrl = true → s.assertedNow = false → s.holdsFault = false → s.flag F.WCH_FAULTN_DRIVEN = true →
    s.watch.faultMinEnd ≤ s.clk.now →
    ∃ u, exec (.faultRelease m) s = .next u ∧ u.get F.WCH_FAULTN_DRIVEN = 0 ∧ u.get F.WCH_FAULTN_REL_PEND = 0) ∧
  (∀ (s : State) (t : Nat), s.domUp .ctrl = true → s.flag F.WCH_FAULTN_DRIVEN = true →
    s.flag F.WCH_FAULTN_REL_PEND = true → s.watch.faultMinEnd ≤ max s.clk.now t →
    ∃ u, exec (.faultPulseEnd t) s = .next u ∧ u.get F.WCH_FAULTN_DRIVEN = 0 ∧ u.get F.WCH_FAULTN_REL_PEND = 0)

/-- Lane states (R356, R358): WAKE ends in IDLE, a loss of the lane PLL puts every lane OFF, and a relock wakes for 20
µs each lane that may leave electrical idle. Preset sweeps and figures of merit (R41, R360, R361): a FOM message is
shown for its eight lanes, a sweep starts on idle lanes under an authenticated Head, each hold ends after 200 µs with
the next preset, and after preset 15 the sweep is done. Each of these commands completes, with exec answering a next
state, under conditions on the state and the operands alone: wakeEnd, bdlPllLockLoss, bdlPllRelock, fom, trainStart,
sweepHoldEnd. -/
def Obligations.LanesBroughtUp : Prop :=
  (∀ (s : State) (t : Nat) (l : Fin 32), s.get (F.BDL_STAT_STATE l) = 1 →
    s.bdl.wakeEnd.get l 0 ≤ max s.clk.now t →
    ∃ u, exec (.wakeEnd t l) s = .next u ∧ u.get (F.BDL_STAT_STATE l) = 2 ∧
      KeepsFields [F.BDL_STAT_STATE l] s u ∧ u.mem = s.mem) ∧
  (∀ (s : State) (t : Nat), s.bdl.pllLocked = true →
    ∃ u, exec (.bdlPllLockLoss t) s = .next u ∧ u.bdl.pllLocked = false ∧
      (∀ l, l < 32 → u.get (F.BDL_STAT_STATE l) = 0) ∧ u.mem = s.mem) ∧
  (∀ (s : State) (t : Nat), s.forme.isSome = true → s.domUp .plat = true → s.domUp .bdla = true → s.domUp .bdlb = true →
    s.pins.extest = false →
    ∃ u, exec (.bdlPllRelock t) s = .next u ∧ u.bdl.pllLocked = true ∧ u.mem = s.mem ∧
      ∀ l, l < 32 → s.get (F.BDL_STAT_STATE l) = 0 → s.get (F.BDL_CTL_SLEEP l) = 0 →
        u.get (F.BDL_STAT_STATE l) = 1 ∧ u.bdl.wakeEnd.get l 0 = max s.clk.now t + us 20) ∧
  (∀ (s : State) (t : Nat) (k : Fin 4) (h : RetHdr) (foms : List Nat), ReturnGood s k h →
    ∃ u, exec (.fom t k h foms) s = .next u ∧
      (∀ i, i < 8 → s.domUp (domOf (F.BDL_STAT_FOM (8 * k + i)).off) = true →
        u.get (F.BDL_STAT_FOM (8 * k + i)) = foms.getD i 0 % 256) ∧ u.mem = s.mem ∧
      (∀ w, s.bdl.sweep = some w → w.holdStart + us 100 ≤ max s.clk.now t → ∃ x, u.bdl.sweep = some x ∧
        ∀ i, i < 8 → bitOf w.mask (8 * k + i) = true → x.cur.lookup (8 * k + i) = some (foms.getD i 0 % 256)) ∧
      KeepsFields ((List.range 8).map fun i => F.BDL_STAT_FOM (8 * k + i)) s u) ∧
  (∀ (s : State) (m : Fin 9), s.domUp (domOf F.BDL_TRAIN_CTL_START.off) = true → s.armedOrRunning = false →
    s.bdl.sweep = none → s.get F.HED_AUTH_STAT_STATE = 2 →
    (∀ l, l < 32 → bitOf (s.get F.BDL_TRAIN_MASK) l = true → s.get (F.BDL_STAT_STATE l) = 2) →
    ∃ u, exec (.trainStart m) s = .next u ∧ u.get F.BDL_TRAIN_CTL_BUSY = 1 ∧
      u.bdl.sweep = some ⟨s.get F.BDL_TRAIN_MASK, 0, s.clk.now, [], []⟩ ∧ u.mem = s.mem ∧
      ∀ l, l < 32 → u.get (F.BDL_STAT_STATE l) =
        if bitOf (s.get F.BDL_TRAIN_MASK) l then 3 else s.get (F.BDL_STAT_STATE l)) ∧
  (∀ (s : State) (t : Nat) (w : Sweep), s.bdl.sweep = some w → w.holdStart + us 200 ≤ max s.clk.now t →
    ∃ u, exec (.sweepHoldEnd t) s = .next u ∧ u.mem = s.mem ∧
      if w.preset < 15 then
        (∃ x, u.bdl.sweep = some x ∧ x.preset = w.preset + 1 ∧ x.mask = w.mask ∧ x.holdStart = max s.clk.now t) ∧
          u.regs = s.regs
      else u.bdl.sweep = none ∧ u.get F.BDL_TRAIN_CTL_BUSY = 0 ∧ u.get F.BDL_TRAIN_CTL_DONE = 1)

/-- Return receivers (R362): after each held CTLE code the next one, after the last the one of the best figure with
the DFE adapting, for 1 ms; SERVICE at FOM_MIN or above; every way out of SERVICE leads back to START. Answers (R351,
R352): an ANSWER for the oldest shot with lane-shots of its return lane settles each lane it names, and counts its
NAKs; one with nothing outstanding is a stray; a lane-shot past its time-out is SILENT. Each of these commands
completes, with exec answering a next state, under conditions on the state and the operands alone: bsrCtleHoldEnd,
bsrDfeAdaptEnd, bsrCdrLockLoss, bsrFomLow, bsrRecover, answer, laneShotTimeout. -/
def Obligations.ReturnLanesAndAnswers : Prop :=
  (∀ (s : State) (t : Nat) (k : Fin 4) (fom : Nat), s.get (F.BDL_RX_STAT_STATE k) = 1 →
    (s.bdl.bsr.get k Bsr.start).adapting = false → (s.bdl.bsr.get k Bsr.start).since + ctleHold ≤ max s.clk.now t →
    let b := s.bdl.bsr.get k Bsr.start
    ∃ u p, exec (.bsrCtleHoldEnd t k fom) s = .next u ∧ u.get (F.BDL_RX_STAT_FOM k) = min fom 255 ∧ u.mem = s.mem ∧
      (u.bdl.bsr.get k Bsr.start).best = some p ∧ (p = (b.ctle, fom) ∨ b.best = some p) ∧ fom ≤ p.2 ∧
      (∀ q, b.best = some q → q.2 ≤ p.2) ∧
      u.get (F.BDL_RX_STAT_CTLE k) = (u.bdl.bsr.get k Bsr.start).ctle % 2 ^ (F.BDL_RX_STAT_CTLE k).width ∧
      if b.ctle < 15 then
        (u.bdl.bsr.get k Bsr.start).ctle = b.ctle + 1 ∧ (u.bdl.bsr.get k Bsr.start).adapting = false
      else (u.bdl.bsr.get k Bsr.start).ctle = p.1 ∧ (u.bdl.bsr.get k Bsr.start).adapting = true) ∧
  (∀ (s : State) (t : Nat) (k : Fin 4) (fom : Nat), s.get (F.BDL_RX_STAT_STATE k) = 1 →
    (s.bdl.bsr.get k Bsr.start).adapting = true → (s.bdl.bsr.get k Bsr.start).since + ms 1 ≤ max s.clk.now t →
    ∃ u, exec (.bsrDfeAdaptEnd t k fom) s = .next u ∧ u.get (F.BDL_RX_STAT_FOM k) = min fom 255 ∧ u.mem = s.mem ∧
      if s.get (F.BDL_RX_CTL_FOM_MIN k) ≤ fom then
        u.get (F.BDL_RX_STAT_STATE k) = 2 ∧ u.get (F.BDL_RX_STAT_LOCK k) = 1
      else u.get (F.BDL_RX_STAT_STATE k) = 1 ∧
        u.bdl.bsr.get k Bsr.start = { Bsr.start with since := max s.clk.now t }) ∧
  (∀ (s : State) (t : Nat) (k : Fin 4), s.domUp .bdlb = true → s.get (F.BDL_RX_STAT_STATE k) = 2 →
    ∃ u, exec (.bsrCdrLockLoss t k) s = .next u ∧ u.get (F.BDL_RX_STAT_STATE k) = 1 ∧
      u.get (F.BDL_RX_STAT_LOCK k) = 0 ∧ u.bdl.bsr.get k Bsr.start = { Bsr.start with since := max s.clk.now t } ∧
      u.mem = s.mem) ∧
  (∀ (s : State) (t : Nat) (k : Fin 4) (fom : Nat), s.domUp .bdlb = true → s.get (F.BDL_RX_STAT_STATE k) = 2 →
    fom < s.get (F.BDL_RX_CTL_FOM_MIN k) → (s.bdl.bsr.get k Bsr.start).since + ms 1 ≤ max s.clk.now t →
    ∃ u, exec (.bsrFomLow t k fom) s = .next u ∧ u.get (F.BDL_RX_STAT_STATE k) = 1 ∧
      u.get (F.BDL_RX_STAT_FOM k) = min fom 255 ∧ u.mem = s.mem) ∧
  (∀ (s : State) (m : Fin 9) (k : Fin 4), s.domUp (domOf (F.BDL_RX_CTL_RECOVER k).off) = true →
    s.get (F.BDL_RX_STAT_STATE k) = 2 →
    ∃ u, exec (.bsrRecover m k) s = .next u ∧ u.get (F.BDL_RX_STAT_STATE k) = 1 ∧
      u.bdl.bsr.get k Bsr.start = { Bsr.start with since := s.clk.now } ∧ u.mem = s.mem) ∧
  (∀ (s : State) (t : Nat) (k : Fin 4) (h : RetHdr) (ack nak : BitVec 8) (o : ShotOut), ReturnGood s k h →
    s.domUp (laneDom (8 * k.val)) = true → ack &&& nak = 0 → o.shot < 2 ^ 40 - 1 → s.bdl.out.find? (fun x => !(x.mine k).isEmpty) = some o →
    ∃ u, exec (.answer t k h (some o.shot) ack nak) s = .next u ∧ u.mem = s.mem ∧
      (∀ x, x ∈ u.bdl.out → x.shot = o.shot → ∀ i, i < 8 →
        (bitOf ack.toNat i || bitOf nak.toNat i) = true → 8 * k.val + i ∉ x.open_) ∧
      (∀ i, i < 8 → bitOf nak.toNat i = true → 8 * k.val + i ∈ o.open_ →
        u.get (F.BDL_NAK (8 * k + i)) = min (s.get (F.BDL_NAK (8 * k + i)) + 1) (2 ^ (F.BDL_NAK 0).width - 1))) ∧
  (∀ (s : State) (t : Nat) (k : Fin 4) (h : RetHdr) (ack nak : BitVec 8), ReturnGood s k h → ack &&& nak = 0 →
    (∀ o, o ∈ s.bdl.out → o.mine k = []) →
    ∃ u, exec (.answer t k h none ack nak) s = .next u ∧ u.mem = s.mem ∧
      u.get (F.BDL_RX_STRAY k) = min (s.get (F.BDL_RX_STRAY k) + 1) (2 ^ (F.BDL_RX_STRAY 0).width - 1)) ∧
  (∀ (s : State) (t : Nat) (l : Fin 32) (o : ShotOut), s.bdl.out.find? (fun x => x.open_.contains l.val) = some o →
    s.domUp (laneDom l) = true → o.tn + ns (s.app F.BDL_ACK_TMO) ≤ max s.clk.now t →
    ∃ u, exec (.laneShotTimeout t l) s = .next u ∧ u.mem = s.mem ∧
      (∀ x, x ∈ u.bdl.out → x.shot = o.shot → l.val ∉ x.open_) ∧
      u.get (F.BDL_SILENT l) = min (s.get (F.BDL_SILENT l) + 1) (2 ^ (F.BDL_SILENT 0).width - 1))

/-- The inhibit latch (R309, R312): a low land sets it, clears ENABLE and drops BEAM_ENABLE; it clears only after the
land has been high for 1 ms. BEAM_ENABLE (R310, R312): ENABLE written 0 drops it; written 1 it rises while every
condition holds. Each of these commands completes, with exec answering a next state, under conditions on the state and
the operands alone: beamInhibit, beamInhibitRelease, inhibitClear, hedEnableSet. -/
def Obligations.BeamInhibitAndEnable : Prop :=
  (∀ (s : State) (t : Nat), s.domUp .bdlb = true → s.get F.HED_BEAM_STAT_INHIBIT = 0 →
    ∃ u, exec (.beamInhibit t) s = .next u ∧ u.get F.HED_BEAM_STAT_INHIBIT = 1 ∧ u.get F.HED_BEAM_STAT_INHIBIT_IN = 1 ∧
      u.get F.HED_BEAM_CTL_ENABLE = 0 ∧ u.get F.HED_BEAM_STAT_ENABLE_OUT = 0 ∧
      (s.armedOrRunning = false → u.get F.HED_INH_SHOT = 2 ^ 40 - 1) ∧ u.pins.inhHighSince = none ∧ u.mem = s.mem) ∧
  (∀ (s : State) (t : Nat), s.domUp .bdlb = true →
    ∃ u, exec (.beamInhibitRelease t) s = .next u ∧ u.get F.HED_BEAM_STAT_INHIBIT_IN = 0 ∧
      u.pins.inhHighSince = some (max s.clk.now t) ∧ KeepsFields [F.HED_BEAM_STAT_INHIBIT_IN] s u ∧ u.mem = s.mem) ∧
  (∀ (s : State) (m : Fin 9) (t : Nat), s.domUp .bdlb = true → s.flag F.HED_BEAM_STAT_INHIBIT = true →
    s.pins.inhHighSince = some t → t + ms 1 ≤ s.clk.now →
    ∃ u, exec (.inhibitClear m) s = .next u ∧ u.get F.HED_BEAM_STAT_INHIBIT = 0 ∧ u.mem = s.mem) ∧
  (∀ (s : State) (m : Fin 9), s.domUp .bdlb = true → s.flag F.HED_BEAM_STAT_INHIBIT = true →
    (∀ t, s.pins.inhHighSince = some t → s.clk.now < t + ms 1) →
    ∃ u, exec (.inhibitClear m) s = .next u ∧ u.get F.HED_BEAM_STAT_REFUSED = 1 ∧
      OnlyFields [F.HED_BEAM_STAT_REFUSED] s u) ∧
  (∀ (s : State) (m : Fin 9), s.domUp .bdlb = true →
    ∃ u, exec (.hedEnableSet m false) s = .next u ∧ u.get F.HED_BEAM_CTL_ENABLE = 0 ∧
      u.get F.HED_BEAM_STAT_ENABLE_OUT = 0 ∧ u.mem = s.mem) ∧
  (∀ (s : State) (m : Fin 9), s.domUp .plat = true → s.domUp .bdla = true → s.domUp .bdlb = true →
    s.get F.HED_AUTH_STAT_STATE = 2 → s.get F.HED_BEAM_STAT_INHIBIT = 0 → s.get F.WCH_FAULTN_DRIVEN = 0 →
    s.pins.extest = false →
    ∃ u, exec (.hedEnableSet m true) s = .next u ∧ u.get F.HED_BEAM_CTL_ENABLE = 1 ∧
      u.get F.HED_BEAM_STAT_ENABLE_OUT = 1 ∧
      KeepsFields [F.HED_BEAM_CTL_ENABLE, F.HED_BEAM_STAT_ENABLE_OUT] s u ∧ u.mem = s.mem)

/-- Authentication of the Head (R313, R314): a start with a Head key, lane 0 IDLE and no stripe ARMED or RUNNING sends
a CHALLENGE of 100 bytes; the right MAC in time gives AUTHENTICATED and HED_ID; no answer by the deadline fails with
TIMEOUT. Telemetry (R321, R323): a report is shown and clears TELEM_STALE; 50 µs without one sets it. Each of these
commands completes, with exec answering a next state, under conditions on the state and the operands alone: authStart,
headAuthAuto, authAnswer, authTimeout, telemetry, telemStale. -/
def Obligations.HeadMessages : Prop :=
  (∀ (s : State) (m : Fin 9) (k : Nat), s.domUp .bdlb = true → s.armedOrRunning = false →
    s.get F.HED_AUTH_STAT_STATE ≠ 1 → s.headKey = some k → s.get (F.BDL_STAT_STATE 0) = 2 →
    ∃ u body, exec (.authStart m) s = .next u ∧ u.get F.HED_AUTH_STAT_STATE = 1 ∧
      u.get F.BDL_CSEQ = (s.get F.BDL_CSEQ + 1) % 2 ^ 32 ∧
      u.out = s.out ++ [.ctrl 1 ((s.get F.BDL_CSEQ + 1) % 2 ^ 32) body] ∧ body.length = 100 ∧ u.mem = s.mem) ∧
  (∀ (s : State) (t : Nat) (k : Nat), s.domUp .bdlb = true → s.hed.want = true → s.armedOrRunning = false →
    s.get F.HED_AUTH_STAT_STATE ≠ 1 → s.headKey = some k → s.get (F.BDL_STAT_STATE 0) = 2 →
    ∃ u, exec (.headAuthAuto t) s = .next u ∧ u.get F.HED_AUTH_STAT_STATE = 1 ∧ u.hed.want = false ∧ u.mem = s.mem) ∧
  (∀ (s : State) (t : Nat) (h : RetHdr) (id : Nat) (usage : List Nat) (k d : Nat), ReturnGood s 0 h →
    s.get F.HED_AUTH_STAT_STATE = 1 → s.hed.deadline = some d → max s.clk.now t ≤ d → s.headKey = some k →
    ∃ u, exec (.authAnswer t h id usage (headMac k (tag4 0x46 0x58 0x48 0x31) s.hed.nonce id usage)) s = .next u ∧
      u.get F.HED_AUTH_STAT_STATE = 2 ∧ (∀ i, i < 4 → u.get (F.HED_ID i) = bits id (32 * i) 32) ∧
      u.hed.lastId = some id ∧ u.mem = s.mem) ∧
  (∀ (s : State) (t : Nat) (d : Nat), s.get F.HED_AUTH_STAT_STATE = 1 → s.hed.deadline = some d →
    d ≤ max s.clk.now t →
    ∃ u, exec (.authTimeout t) s = .next u ∧ u.get F.HED_AUTH_STAT_STATE = 3 ∧ u.get F.HED_AUTH_STAT_CAUSE = 2 ∧
      u.get F.HED_AUTH_STAT_FAILS =
        min (s.get F.HED_AUTH_STAT_FAILS + 1) (2 ^ F.HED_AUTH_STAT_FAILS.width - 1) ∧ u.mem = s.mem) ∧
  (∀ (s : State) (t : Nat) (k : Fin 4) (h : RetHdr) (id : Nat) (temps : List Int) (curs : List Nat), ReturnGood s k h →
    ∃ u, exec (.telemetry t k h id temps curs) s = .next u ∧ u.get F.HED_BEAM_STAT_TELEM_STALE = 0 ∧
      u.hed.lastTelem = max s.clk.now t ∧ u.mem = s.mem ∧
      ∀ i, i < 16 → u.get (F.HED_TEMP i) = tc (F.HED_TEMP i).width (temps.getD i 0) ∧
        u.get (F.HED_CUR i) = curs.getD i 0 % 2 ^ (F.HED_CUR i).width) ∧
  (∀ (s : State) (t : Nat), s.domUp .bdlb = true → s.get F.HED_BEAM_STAT_TELEM_STALE = 0 →
    s.hed.lastTelem + us 50 ≤ max s.clk.now t →
    ∃ u, exec (.telemStale t) s = .next u ∧ u.get F.HED_BEAM_STAT_TELEM_STALE = 1 ∧ u.mem = s.mem)

/-- Ledger counters (R617, R618): each second in which VIN or VBAK feeds PD_AON counts the calendar and the time
powered on, CAL_SET loads the calendar and makes it valid, a rise from TC_LOW to TC_HIGH counts a thermal cycle, and
VIN energy, sampled each millisecond, carries its fraction of a joule. The journal (R619, R621, R622): after 600 s
powered on, on command, and on a deferred command once 60 s have passed, an entry with the working copy goes into the
next good slot. Each of these commands completes, with exec answering a next state, under conditions on the state and
the operands alone: calendarSecond, calSet, thermalSample, vinEnergySample, ledgerPeriodic, ledgerWrite,
ledgerDeferred. -/
def Obligations.LedgerCountsAndJournals : Prop :=
  (∀ (s : State) (t : Nat), s.aonFed = false → exec (.calendarSecond t) s = .next (s.at t)) ∧
  (∀ (s : State) (t : Nat), s.aonFed = true → (s.at t).beatDue .second (ms 1000) = true →
    ∃ u, exec (.calendarSecond t) s = .next u ∧ u = { s with clk := u.clk, lgr := u.lgr } ∧
      u.lgr.copy.calendar = min (s.lgr.copy.calendar + 1) (2 ^ 64 - 1) ∧
      (s.pins.vinOk = true → s.pwr.backup = false → u.lgr.copy.powerOn = min (s.lgr.copy.powerOn + 1) (2 ^ 64 - 1)) ∧
      (s.pins.vinOk = false → u.lgr.copy.powerOn = s.lgr.copy.powerOn)) ∧
  (∀ (s : State) (m : Fin 9), s.domUp (domOf F.LGR_CMD_CAL_SET.off) = true →
    ∃ u, exec (.calSet m) s = .next u ∧ u.lgr.copy.calendar = s.get F.LGR_CAL_SET ∧ u.get F.LGR_STAT_CAL_VALID = 1 ∧
      KeepsFields [F.LGR_STAT_CAL_VALID] s u ∧ u.mem = s.mem) ∧
  (∀ (s : State) (t : Nat) (temp : Int), s.pwr.backup = false → s.lgr.thermArmed = true →
    (s.at t).beatDue .dieTemp (ms 1000) = true → s.getS F.LGR_CTL_TC_LOW < s.getS F.LGR_CTL_TC_HIGH → s.getS F.LGR_CTL_TC_HIGH ≤ temp →
    ∃ u, exec (.thermalSample t temp) s = .next u ∧ u.pins.dieTemp = temp ∧ u.lgr.thermArmed = false ∧
      u.lgr.copy.thermal = min (s.lgr.copy.thermal + 1) (2 ^ 32 - 1) ∧ u.mem = s.mem) ∧
  (∀ (s : State) (t : Nat) (temp : Int), s.pwr.backup = false → temp ≤ s.getS F.LGR_CTL_TC_LOW →
    (s.at t).beatDue .dieTemp (ms 1000) = true →
    ∃ u, exec (.thermalSample t temp) s = .next u ∧ u.pins.dieTemp = temp ∧ u.lgr.thermArmed = true ∧
      u.lgr.copy.thermal = s.lgr.copy.thermal ∧ (tempBad temp = false → u.lgr.copy = s.lgr.copy) ∧ u.mem = s.mem) ∧
  (∀ (s : State) (t mV mA : Nat), s.pwr.backup = false → (s.at t).beatDue .energy (ms 1) = true →
    ∃ u, exec (.vinEnergySample t mV mA) s = .next u ∧ u = { s with clk := u.clk, lgr := u.lgr } ∧
      u.lgr.energyFrac < 10 ^ 9 ∧
      (s.lgr.copy.vinEnergy + (s.lgr.energyFrac + mV * mA) / 10 ^ 9 < 2 ^ 64 →
        u.lgr.copy.vinEnergy * 10 ^ 9 + u.lgr.energyFrac =
          s.lgr.copy.vinEnergy * 10 ^ 9 + s.lgr.energyFrac + mV * mA)) ∧
  (∀ (s : State) (t k : Nat) (r : List Nat), s.pwr.backup = false → s.lgr.lastPeriodic + 600 ≤ s.lgr.copy.powerOn →
    goodSlots s.lgr.badSlots (s.lgr.lastSlot.getD 1023) = k :: r →
    ∃ u e, exec (.ledgerPeriodic t 0) s = .next u ∧ u.lgr.journal.lookup k = some e ∧ e.reason = 0 ∧
      e.jseq = s.lgr.jseq + 1 ∧ u.lgr.jseq = s.lgr.jseq + 1 ∧ u.lgr.lastSlot = some k ∧ e.copy = u.lgr.copy ∧
      e.copy.calendar = s.lgr.copy.calendar ∧ u.mem = s.mem) ∧
  (∀ (s : State) (m : Fin 9) (k : Nat) (r : List Nat), s.domUp (domOf F.LGR_CMD_WRITE.off) = true →
    (∀ p, s.lgr.lastEntry = some p → p + ms 60000 ≤ s.clk.now) →
    goodSlots s.lgr.badSlots (s.lgr.lastSlot.getD 1023) = k :: r →
    ∃ u e, exec (.ledgerWrite m 0) s = .next u ∧ u.lgr.journal.lookup k = some e ∧ e.reason = 3 ∧
      u.lgr.jseq = s.lgr.jseq + 1 ∧ u.get F.LGR_STAT_PENDING = 0 ∧ u.mem = s.mem) ∧
  (∀ (s : State) (m : Fin 9) (p : Nat), s.domUp (domOf F.LGR_CMD_WRITE.off) = true → s.lgr.lastEntry = some p →
    s.clk.now < p + ms 60000 →
    ∃ u, exec (.ledgerWrite m 0) s = .next u ∧ u.get F.LGR_STAT_PENDING = 1 ∧ OnlyFields [F.LGR_STAT_PENDING] s u) ∧
  (∀ (s : State) (t p k : Nat) (r : List Nat), s.flag F.LGR_STAT_PENDING = true → s.lgr.lastEntry = some p →
    p + ms 60000 ≤ max s.clk.now t → goodSlots s.lgr.badSlots (s.lgr.lastSlot.getD 1023) = k :: r →
    ∃ u e, exec (.ledgerDeferred t 0) s = .next u ∧ u.lgr.journal.lookup k = some e ∧ e.reason = 3 ∧
      u.get F.LGR_STAT_PENDING = 0 ∧ u.mem = s.mem)

/-- Lifecycle (R650): PROVISION leads from BLANK to FACTORY with a device seed; a second ADVANCE within 1 ms of the
first, with no stripe open, leads one step on, and into RETIRED it empties every slot and the seed. Keys (R651 to
R656): GEN_WRAP fills a wrapping slot, LOAD_KEY a key slot from a blob that opens, ERASE empties the slot it names or
all of them, and READ_DEV shows the device public key. Each of these commands completes, with exec answering a next
state, under conditions on the state and the operands alone: provision, advance, genWrap, loadKey, erase, readDev. -/
def Obligations.LifecycleAndKeys : Prop :=
  (∀ (s : State) (m : Fin 9), s.domUp (domOf F.SEC_CMD_OP.off) = true →
    ∃ u, exec (.provision m) s = .next u ∧ u.get F.SEC_STAT_VALID = 1 ∧ u.get F.SEC_STAT_OP = 1 ∧ u.mem = s.mem ∧
      if s.get F.SEC_LIFE = 0 then u.get F.SEC_LIFE = 1 ∧ u.sec.seed.isSome = true ∧ u.get F.SEC_STAT_RESULT = 0
      else u.get F.SEC_LIFE = s.get F.SEC_LIFE ∧ u.sec = s.sec ∧ u.get F.SEC_STAT_RESULT = 1) ∧
  (∀ (s : State) (m : Fin 9) (t0 : Nat), s.domUp (domOf F.SEC_CMD_OP.off) = true → s.asy.queue = [] →
    s.get F.SEC_LIFE = 1 ∨ s.get F.SEC_LIFE = 2 → s.sec.advanceAt = some t0 → s.clk.now ≤ t0 + ms 1 →
    ∃ u, exec (.advance m) s = .next u ∧ u.get F.SEC_LIFE = s.get F.SEC_LIFE + 1 ∧ u.get F.SEC_STAT_RESULT = 0 ∧
      u.sec.advanceAt = none ∧ u.mem = s.mem ∧
      (s.get F.SEC_LIFE = 2 → u.sec.seed = none ∧ ∀ k, k < 24 → u.sec.slots.lookup k = none)) ∧
  (∀ (s : State) (m : Fin 9), s.domUp (domOf F.SEC_CMD_OP.off) = true →
    (s.get F.SEC_LIFE ≠ 1 ∧ s.get F.SEC_LIFE ≠ 2) ∨ s.asy.queue ≠ [] →
    ∃ u, exec (.advance m) s = .next u ∧ u.get F.SEC_LIFE = s.get F.SEC_LIFE ∧ u.get F.SEC_STAT_RESULT = 1 ∧
      u.sec.slots = s.sec.slots ∧ u.sec.seed = s.sec.seed) ∧
  (∀ (s : State) (m : Fin 9) (w : Nat), s.domUp (domOf F.SEC_CMD_OP.off) = true → s.keyed = true → 16 ≤ w → w ≤ 19 →
    ∃ u priv, exec (.genWrap m w) s = .next u ∧ u.sec.slots.lookup w = some (.wrap priv) ∧
      u.get F.SEC_STAT_RESULT = 0 ∧ u.get F.SEC_STAT_VALID = 1 ∧ u.mem = s.mem ∧
      ∀ k, k ≠ w → u.sec.slots.lookup k = s.sec.slots.lookup k) ∧
  (∀ (s : State) (m : Fin 9), s.domUp (domOf F.SEC_CMD_OP.off) = true → s.keyed = true → s.get F.SEC_DBG_STAT_OPEN = 0 →
    s.get F.PWR_STATE_STAT_STATE ≠ 2 →
    ∃ u, exec (.loadKey m) s = .next u ∧ u.get F.SEC_STAT_OP = 4 ∧ u.get F.SEC_STAT_VALID = 1 ∧ u.mem = s.mem ∧
      (blobOk s.blob = false → u.get F.SEC_STAT_RESULT = 4 ∧ u.sec = s.sec) ∧
      (∀ priv, blobOk s.blob = true → s.sec.slots.lookup (leAt s.blob 7 1) = some (.wrap priv) →
        s.expired (leAt s.blob 8 8) = false → (s.unwrap s.blob priv = none → u.get F.SEC_STAT_RESULT = 5) ∧
        ∀ key, s.unwrap s.blob priv = some key → u.get F.SEC_STAT_RESULT = 0 ∧ u.sec.slots.lookup (leAt s.blob 6 1) =
          some (if leAt s.blob 6 1 < 16 then .layout (leVal key) else .head (leVal key)))) ∧
  (∀ (s : State) (m : Fin 9), s.domUp (domOf F.SEC_CMD_OP.off) = true →
    s.keyed = false ∨ s.get F.SEC_DBG_STAT_OPEN = 1 ∨ s.get F.PWR_STATE_STAT_STATE = 2 →
    ∃ u, exec (.loadKey m) s = .next u ∧ u.get F.SEC_STAT_RESULT = 1 ∧ u.sec = s.sec ∧ u.mem = s.mem) ∧
  (∀ (s : State) (m : Fin 9) (k : Nat), s.domUp (domOf F.SEC_CMD_OP.off) = true → k < 24 →
    ∃ u, exec (.erase m k) s = .next u ∧ u.sec.slots.lookup k = none ∧ u.get F.SEC_STAT_RESULT = 0 ∧ u.mem = s.mem ∧
      ∀ j, j ≠ k → u.sec.slots.lookup j = s.sec.slots.lookup j) ∧
  (∀ (s : State) (m : Fin 9), s.domUp (domOf F.SEC_CMD_OP.off) = true →
    ∃ u, exec (.erase m 31) s = .next u ∧ (∀ k, k < 24 → u.sec.slots.lookup k = none) ∧
      u.get F.SEC_STAT_RESULT = 0) ∧
  (∀ (s : State) (m : Fin 9), s.domUp (domOf F.SEC_CMD_OP.off) = true → s.keyed = true →
    ∃ u, exec (.readDev m) s = .next u ∧ u.get F.SEC_STAT_OP = 6 ∧ u.get F.SEC_STAT_RESULT = 0 ∧ u.sec = s.sec ∧
      u.mem = s.mem ∧ ∀ i, i < 24 → u.get (F.SEC_PUB i) = leAt (ecPublic s.devKey) (4 * i) 4)

/-- Debug (R659, R661, R662): an accepted UNLOCK opens debug, erases the layout keys and the Copy buffer; a refused
one shows its result; LOCK closes debug; EXTEST holds BEAM_ENABLE low, every lane OFF and FAULT_N low. Alarms (R657,
R658): an alarm outside BACKUP sets its bit of SEC_ALARM, counts in the Ledger and empties every slot of its erase
level. Each of these commands completes, with exec answering a next state, under conditions on the state and the
operands alone: unlock, lock, jtagExtest, securityAlarm, tampAlarm. -/
def Obligations.DebugAndAlarms : Prop :=
  (∀ (s : State) (m : Fin 9), s.domUp (domOf F.SEC_DBG_CTL_UNLOCK.off) = true → s.unlockResult = 0 →
    ∃ u, exec (.unlock m) s = .next u ∧ u.get F.SEC_DBG_STAT_OPEN = 1 ∧ u.get F.SEC_DBG_STAT_RESULT = 0 ∧
      u.get F.SEC_DBG_STAT_VALID = 1 ∧ u.copy.layers = [] ∧ (∀ k, k < 16 → u.sec.slots.lookup k = none) ∧
      ∀ a, a < s.copyTop → cellGet u.mem.cells a = 0) ∧
  (∀ (s : State) (m : Fin 9), s.domUp (domOf F.SEC_DBG_CTL_UNLOCK.off) = true → s.unlockResult ≠ 0 →
    ∃ u, exec (.unlock m) s = .next u ∧ u.get F.SEC_DBG_STAT_OPEN = s.get F.SEC_DBG_STAT_OPEN ∧
      u.get F.SEC_DBG_STAT_RESULT = s.unlockResult ∧ u.mem = s.mem) ∧
  (∀ (s : State) (m : Fin 9), s.domUp (domOf F.SEC_DBG_CTL_LOCK.off) = true →
    ∃ u, exec (.lock m) s = .next u ∧ u.get F.SEC_DBG_STAT_OPEN = 0 ∧ u.get F.SEC_DBG_STAT_SCOPE = 0 ∧
      u.sec = s.sec ∧ u.mem = s.mem) ∧
  (∀ (s : State) (t : Nat), s.domUp .ctrl = true → s.scope 1 = true →
    ∃ u, exec (.jtagExtest t true) s = .next u ∧ u.pins.extest = true ∧ u.get F.HED_BEAM_STAT_ENABLE_OUT = 0 ∧
      u.get F.WCH_FAULTN_PIN = 0 ∧ (∀ l, l < 32 → u.get (F.BDL_STAT_STATE l) = 0) ∧ u.mem = s.mem) ∧
  (∀ (s : State) (t : Nat), s.domUp .ctrl = true →
    ∃ u, exec (.jtagExtest t false) s = .next u ∧ u.pins.extest = false ∧ u.mem = s.mem) ∧
  (∀ (s : State) (t : Nat) (c : AlarmClass), (s.at t).alarmMet c = false → exec (.securityAlarm t c) s = .next (s.at t)) ∧
  (∀ (s : State) (t : Nat) (c : AlarmClass), s.pwr.backup = false → (s.at t).alarmMet c = true →
    ∃ u, exec (.securityAlarm t c) s = .next u ∧ bitOf (u.get F.SEC_ALARM) (alarmCode c) = true ∧
      u.lgr.copy.tamper = min (s.lgr.copy.tamper + 1) (2 ^ 32 - 1) ∧
      (∀ k, k ∈ eraseSet (s.eraseLevel (alarmCode c)) → u.sec.slots.lookup k = none) ∧ u.mem = s.mem) ∧
  (∀ (s : State) (t : Nat) (b : Bool), s.pwr.backup = false → s.forme.isSome = true → bitOf (s.pol 12 1) (b2n b) = true →
    ∃ u, exec (.tampAlarm t b) s = .next u ∧ bitOf (u.get F.SEC_ALARM) 4 = true ∧
      (∀ k, k ∈ eraseSet (s.eraseLevel 4) → u.sec.slots.lookup k = none) ∧ u.mem = s.mem)

/-- The verdict of an SRAM read (R272): one flipped data bit of a block is named exactly, and two flipped data bits
are never taken for one. -/
def Obligations.SramVerdictCorrectsOneDetectsTwo : Prop :=
  (∀ (w : Fin 8) (b : Fin 64), verdict [.data w b] = .data w b) ∧
  (∀ (w v : Fin 8) (b c : Fin 64), (w, b) ≠ (v, c) → verdict [.data w b, .data v c] = .bad)

/-- The scrubber (R272, R276, R278): one flipped bit of the armed block it reads is corrected and counted, two are
counted as uncorrectable, and a lap past its limit is slow once. HBM errors (R257, R258, R264, R285): a poisoned read
is counted with its address and source and reaches its reader: a core takes a bus error, the parser drops the segment,
another reader finds the poison in the read it makes there; a PHY error poisons the reads in flight on its channel; a
corrected read sends one event; no byte changes. Each of these commands completes, with exec answering a next state,
under conditions on the state and the operands alone: scrubRead, scrubSlow, hbmReadPoison, hbmPhy. -/
def Obligations.MemoryErrors : Prop :=
  (∀ (s : State) (t blk : Nat) (w : Fin 8) (b : Fin 64) (a : Fin 4), s.domUp (sramDom a) = true →
    s.get (F.SRM_CTL_SCRUB_EN a) = 1 → blk < sramBlocks a → nextArmed (s.arr a).armed (s.arr a).nextBlk = some blk →
    s.upsetsOf a blk = [] →
    ∃ u, exec (.scrubRead t a [.flip blk (.data w b)] none) s = .next u ∧
      u.get (F.SRM_CE a) = min (s.get (F.SRM_CE a) + 1) (2 ^ 32 - 1) ∧ u.get (F.SRM_UE a) = s.get (F.SRM_UE a) ∧
      u.get (F.SRM_ERR_WORD a) = w ∧ u.get (F.SRM_ERR_BIT a) = b ∧ u.upsetsOf a blk = [] ∧ u.mem = s.mem) ∧
  (∀ (s : State) (t blk : Nat) (w v : Fin 8) (b c : Fin 64) (a : Fin 4), s.domUp (sramDom a) = true →
    s.get (F.SRM_CTL_SCRUB_EN a) = 1 → blk < sramBlocks a → nextArmed (s.arr a).armed (s.arr a).nextBlk = some blk →
    s.upsetsOf a blk = [] → (w, b) ≠ (v, c) →
    ∃ u, exec (.scrubRead t a [.flip blk (.data w b), .flip blk (.data v c)] none) s = .next u ∧
      u.get (F.SRM_UE a) = min (s.get (F.SRM_UE a) + 1) (2 ^ 32 - 1) ∧ u.get (F.SRM_CE a) = s.get (F.SRM_CE a) ∧
      u.mem = s.mem) ∧
  (∀ (s : State) (t t0 : Nat) (a : Fin 4), s.domUp (sramDom a) = true → s.get (F.SRM_CTL_SCRUB_EN a) = 1 →
    (s.arr a).lapStart = some t0 → (s.arr a).slowRaised = false →
    t0 + us (s.get (F.SRM_LAP_LIMIT a)) < max s.clk.now t →
    ∃ u, exec (.scrubSlow t a) s = .next u ∧ u.get (F.SRM_ERR_SLOW a) = 1 ∧ (u.arr a).slowRaised = true ∧
      u.mem = s.mem) ∧
  (∀ (s : State) (t : Nat) (r : MemRead), s.memUp = true →
    ∃ u, exec (.hbmReadPoison t r.source r.addr false r.core) s = .next u ∧
      u.get F.MEM_POISON = min (s.get F.MEM_POISON + 1) (2 ^ 32 - 1) ∧
      u.get F.MEM_POISON_ADDR = r.addr % 2 ^ 35 ∧ u.get F.MEM_POISON_ADDR_SRC = r.source.val ∧
      (r.source.val ≠ 1 → (r.source.val = 2 → s.sumsRead r.addr = false) → r.core = none →
        (r.source.val, r.addr / 64) ∈ u.mem.hurt) ∧
      (∀ j, r.source.val = 6 → r.core = some j →
        (u.cores.get j Core.idle).busErrors = (s.cores.get j Core.idle).busErrors + 1) ∧
      (r.source.val = 1 → s.inTables r.addr 1 = false →
        ∀ c, c ∈ u.copy.layers → ∀ g, g ∈ c.segs → r.addr < g.addr ∨ g.addr + g.room ≤ r.addr) ∧
      KeepsHbm s u) ∧
  (∀ (s : State) (t : Nat) (r : MemRead), s.memUp = true → s.domUp .ctrl = true →
    (s.wsrc 0x31).queue.length < 16 →
    ∃ u, exec (.hbmReadPoison t r.source r.addr true r.core) s = .next u ∧ (u.wsrc 0x31).queue = (s.wsrc 0x31).queue ++ [⟨0, 0⟩] ∧
      u.mem = s.mem ∧ u.regs = s.regs) ∧
  (∀ (s : State) (t : Nat) (c : Fin 16) (reads : List MemRead), s.memUp = true →
    ∃ u, exec (.hbmPhy t c reads) s = .next u ∧ KeepsHbm s u ∧
      (∀ r, r ∈ reads → s.channelOf r.addr = c.val → r.source.val ≠ 1 → r.source.val ≠ 2 → r.core = none →
        (r.source.val, r.addr / 64) ∈ u.mem.hurt) ∧
      let n := (reads.filter fun r => s.channelOf r.addr == c.val).length
      0 < n → u.get F.MEM_POISON = min (s.get F.MEM_POISON + n) (2 ^ 32 - 1))

/-- The memory controller (R243, R259 to R261, R263): RUN is acknowledged when every hash mask is valid, and the
writes that waited are carried out; refresh debt rises to 8 at most as tREFI elapses and falls by one with each
refresh, forced at debt 8; a temperature reading sets the refresh rate. Each of these commands completes, with exec
answering a next state, under conditions on the state and the operands alone: memRun, refreshInterval, refreshIssue,
hbmTempRead. -/
def Obligations.MemoryRunAndRefresh : Prop :=
  (∀ (s : State) (m : Fin 9), s.domUp .hbm = true → s.get F.MEM_STAT_IN_SR = 0 → s.get F.MEM_STAT_RUN_ACK = 0 →
    s.asy.mendWait = false →
    ∃ u, exec (.memRun m true) s = .next u ∧ u.get F.MEM_CTL_RUN = 1 ∧ (s.mem.waiting = [] → KeepsHbm s u) ∧
      if s.hashOk then u.get F.MEM_STAT_RUN_ACK = 1 ∧ u.get F.MEM_STAT_HASH_BAD = 0 ∧ u.mem.waiting = []
      else u.get F.MEM_STAT_RUN_ACK = 0 ∧ u.get F.MEM_STAT_HASH_BAD = 1 ∧ u.mem = s.mem) ∧
  (∀ (s : State) (m : Fin 9), s.domUp .hbm = true → s.get F.MEM_STAT_IN_SR = 0 →
    ∃ u, exec (.memRun m false) s = .next u ∧ u.get F.MEM_CTL_RUN = 0 ∧ u.get F.MEM_STAT_RUN_ACK = 0 ∧
      OnlyFields [F.MEM_CTL_RUN, F.MEM_STAT_RUN_ACK] s u) ∧
  (∀ (s : State) (t b : Nat), s.memUp = true → (s.at t).refDue b = true →
    ∃ u, exec (.refreshInterval t b) s = .next u ∧ u.mem.debt.get b 0 = min 8 (s.mem.debt.get b 0 + 1) ∧
      u.get F.MEM_REF_DEBT_MAX = max (s.get F.MEM_REF_DEBT_MAX) (min 8 (s.mem.debt.get b 0 + 1)) % 16 ∧ KeepsHbm s u) ∧
  (∀ (s : State) (t b : Nat) (use : BankUse), s.memUp = true → s.mem.refEnd.get b 0 ≤ max s.clk.now t →
    (use = .idle ∧ s.mem.debt.get b 0 ≠ 0) ∨ (use = .gap ∧ 8 ≤ s.mem.debt.get b 0) →
    ∃ u, exec (.refreshIssue t b use) s = .next u ∧ u.mem.debt.get b 0 = s.mem.debt.get b 0 - 1 ∧
      u.mem.refEnd.get b 0 = max s.clk.now t + ns (s.get F.MEM_REF_CTL_TRFCPB) ∧
      u.get F.MEM_REF_FORCED = (if 8 ≤ s.mem.debt.get b 0 then min (s.get F.MEM_REF_FORCED + 1) (2 ^ 32 - 1)
        else s.get F.MEM_REF_FORCED) ∧ KeepsHbm s u) ∧
  (∀ (s : State) (t : Nat) (temp : Int), s.memUp = true → (∀ p, s.mem.tempAt = some p → p + us 32 ≤ max s.clk.now t) →
    ∃ u, exec (.hbmTempRead t temp) s = .next u ∧ u.get F.MEM_TEMP_T = tc 8 temp ∧
      u.get F.MEM_TEMP_RATE = refRate (s.get F.MEM_TEMP_RATE) temp ∧
      u.mem = { s.mem with tempAt := some (max s.clk.now t) })

/-- The maps of R59 and R60 are inverse (R61): each beam-shot of the stripe's cycles writes one pixel and is listed
among the beam-shots of that pixel, each listed beam-shot writes the pixel it is listed for, and every pixel of the
body is written by exactly P beam-shots, from P successive cycles, at one place in the cycle and in one column, with
leading indices R apart. -/
def Obligations.ScanMapsAreInverse : Prop :=
  ∀ (g : Scan) (dir n : Nat), 0 < g.m → 0 < g.np → g.np ∣ 512 →
    (∀ shot r c, shot < g.cycles n * g.shots → r < 512 → c < 512 →
      let x := g.pixelOf dir shot r c
      (⟨x.2.2, shot, r, c⟩ : BeamShot) ∈ g.beamShots dir (g.cycles n) x.1 x.2.1 ∧ x.2.1 < g.side) ∧
    (∀ (x : Int) (y : Nat), y < g.side → ∀ b, b ∈ g.beamShots dir (g.cycles n) x y →
      g.pixelOf dir b.shot b.row b.col = (x, y, b.pass) ∧ b.row < 512 ∧ b.col < 512 ∧
        b.shot < g.cycles n * g.shots) ∧
    (∀ (x : Int) (y : Nat), 0 ≤ x → x < n * g.adv → y < g.side →
      (g.beamShots dir (g.cycles n) x y).length = g.np ∧
      ∃ a rho0 c i, i < g.shots ∧ ∀ j, j < g.np →
        (g.beamShots dir (g.cycles n) x y)[j]? = some ⟨j, (a + j) * g.shots + i, rowOf dir (rho0 + j * g.rows), c⟩)

/-- Segments and modes of the Governor (R393, R396, R407): a push joins the queue while it holds fewer than 4, FLUSH
empties it, ABORT empties it and brings the set-points to rest, and a mode request waits while a stripe is ARMED or
RUNNING or an ARM waits. Each of these commands completes, with exec answering a next state, under conditions on the
state and the operands alone: push, flush, segAbort, modeReq. -/
def Obligations.GovernorSegmentsAndModes : Prop :=
  (∀ (s : State) (m : Fin 9), s.domUp .motion = true →
    ∃ u, exec (.push m) s = .next u ∧ u.mem = s.mem ∧
      if s.gov.queue.length < 4 then
        u.gov.queue = s.gov.queue ++
          [⟨s.get F.GOV_SEG_KIND == 1, s.getS F.GOV_SEG_X, s.getS F.GOV_SEG_Y, s.get F.GOV_SEG_VEL⟩] ∧
        u.get F.GOV_SEG_STAT_REFUSED = 0 ∧ u.get F.GOV_SEG_STAT_QUEUED = s.gov.queue.length + 1
      else u.gov.queue = s.gov.queue ∧ u.get F.GOV_SEG_STAT_REFUSED = 1 ∧ OnlyFields [F.GOV_SEG_STAT_REFUSED] s u) ∧
  (∀ (s : State) (m : Fin 9), s.domUp .motion = true →
    ∃ u, exec (.flush m) s = .next u ∧ u.gov.queue = [] ∧ u.gov.run = s.gov.run ∧ u.get F.GOV_SEG_STAT_QUEUED = 0 ∧
      KeepsFields [F.GOV_SEG_STAT_QUEUED, F.GOV_SEG_STAT_RUNNING] s u ∧ u.mem = s.mem) ∧
  (∀ (s : State) (m : Fin 9), s.domUp .motion = true →
    ∃ u, exec (.segAbort m) s = .next u ∧ u.gov.queue = [] ∧ u.gov.run = none ∧ u.mem = s.mem ∧
      ∀ r, s.gov.run = some r → (s.gov.sx.rests && s.gov.sy.rests) = false →
        u.get F.GOV_STAT_STOPPING = 1 ∧ ∃ e1 e2 e3 e4, u.gov.stop = some ⟨stopCurve s.gov.sx r.acc r.jerk r.period e1 e2,
          stopCurve s.gov.sy r.acc r.jerk r.period e3 e4, 0, r.period⟩) ∧
  (∀ (s : State) (m : Fin 9) (req after : Nat), s.domUp .motion = true → req < 4 → after < 4 → req ≠ 2 →
    s.armedOrRunning = false → s.asy.arm = none →
    ∃ u, exec (.modeReq m req after) s = .next u ∧ u.get F.GOV_STAT_MODE = (if req = 1 then 1 else 0) ∧
      u.get F.GOV_MODE_REQ = req ∧ u.get F.GOV_MODE_AFTER = after ∧ u.mem = s.mem) ∧
  (∀ (s : State) (m : Fin 9) (req after : Nat), s.domUp .motion = true → req < 4 → after < 4 → req ≠ 2 →
    s.armedOrRunning = true ∨ s.asy.arm.isSome = true →
    ∃ u, exec (.modeReq m req after) s = .next u ∧ u.get F.GOV_STAT_MODE = s.get F.GOV_STAT_MODE ∧
      u.gov.pend = some (if req = 1 then 1 else 0) ∧ u.get F.GOV_STAT_REQ_PEND = 1)

/-- A set-point tick (R37, R394 to R396): a running segment moves its set-points to its profile's next tick, an idle
Governor holds them, and a MOVE's profile ends at rest exactly on its target. A stop follows its own profile, within
LIM_VEL_CEIL, and ends at rest. The deflection tick (R400, R404): the outputs never leave -131,071..131,071, they hold
while the Governor is frozen, and 20 ticks out of tolerance set HV_BAD. Each of these commands completes, with exec
answering a next state, under conditions on the state and the operands alone: setpointTick, govTick, hvRange. -/
def Obligations.GovernorMoves : Prop :=
  (∀ (s : State) (t : Nat) (r : RunSeg), s.domUp .motion = true → s.gov.stop = none → s.gov.run = some r →
    (s.at t).beatDue .setpoint (ns r.period) = true → r.tick + 1 < max r.cx.total r.cy.total →
    ∃ u, exec (.setpointTick t) s = .next u ∧ u.gov.sx = r.cx.at_ (r.tick + 1) r.period ∧
      u.gov.sy = r.cy.at_ (r.tick + 1) r.period ∧ u.gov.run = some { r with tick := r.tick + 1 } ∧
      u.gov.spTick = s.gov.spTick + 1 ∧ u.mem = s.mem) ∧
  (∀ (s : State) (t : Nat), s.domUp .motion = true → s.gov.stop = none → s.gov.run = none → s.gov.queue = [] →
    (s.at t).beatDue .setpoint (ns (s.get F.GOV_SP_CTL_PERIOD)) = true →
    ∃ u, exec (.setpointTick t) s = .next u ∧ u.gov.sx = s.gov.sx ∧ u.gov.sy = s.gov.sy ∧
      u.gov.spTick = s.gov.spTick + 1 ∧ u.mem = s.mem) ∧
  (∀ (s : State) (t : Nat) (r : StopRun), s.domUp .motion = true → s.gov.stop = some r → s.gov.run = none →
    (s.at t).beatDue .setpoint (ns r.period) = true →
    ∃ u, exec (.setpointTick t) s = .next u ∧ u.gov.sx = r.cx.at_ (r.tick + 1) r.period s.velCeil ∧
      u.gov.sy = r.cy.at_ (r.tick + 1) r.period s.velCeil ∧ u.gov.spTick = s.gov.spTick + 1 ∧ u.mem = s.mem ∧
      if max r.cx.total r.cy.total ≤ r.tick + 1 then u.gov.stop = none ∧ u.get F.GOV_STAT_STOPPING = 0
      else u.gov.stop = some { r with tick := r.tick + 1 }) ∧
  (∀ (c : StopCurve) (p i : Nat) (ceil : Int), 0 ≤ ceil →
    -ceil ≤ (c.at_ i p ceil).vel ∧ (c.at_ i p ceil).vel ≤ ceil ∧
    (c.total ≤ i → (c.at_ i p ceil).vel = 0 ∧ (c.at_ i p ceil).acc = 0)) ∧
  (∀ (p0 x : Int) (v a j p i : Nat), 0 < v → p0 ≠ x → 0 < (moveCurve p0 x v a j p).n1 →
    (moveCurve p0 x v a j p).total ≤ i → (moveCurve p0 x v a j p).at_ i p = ⟨x, 0, 0⟩) ∧
  (∀ (s : State) (t : Nat) (nV rbx rby : Int), s.domUp .motion = true → s.get F.GOV_STAT_FREEZE = 0 →
    hvCode nV ≠ 0 → (s.at t).beatDue .govTick (ns 50) = true →
    ∃ u, exec (.govTick t nV rbx rby) s = .next u ∧ u.get F.GOV_HV_MEAS = hvCode nV ∧
      u.get (F.GOV_DEF_RB 0) = tc 18 rbx ∧ u.get (F.GOV_DEF_RB 1) = tc 18 rby ∧
      (∀ a, a < 2 → -131071 ≤ u.getS (F.GOV_DEF_OUT a) ∧ u.getS (F.GOV_DEF_OUT a) ≤ 131071) ∧ u.mem = s.mem) ∧
  (∀ (s : State) (t : Nat) (nV rbx rby : Int), s.domUp .motion = true → s.flag F.GOV_STAT_FREEZE = true →
    ∃ u, exec (.govTick t nV rbx rby) s = .next u ∧
      (∀ a, a < 2 → u.get (F.GOV_DEF_OUT a) = s.get (F.GOV_DEF_OUT a)) ∧ u.mem = s.mem) ∧
  (∀ (s : State) (t : Nat), s.domUp .motion = true → 20 ≤ s.gov.hvRun → s.get F.GOV_STAT_HV_BAD = 0 →
    ∃ u, exec (.hvRange t) s = .next u ∧ u.get F.GOV_STAT_HV_BAD = 1 ∧ u.mem = s.mem)

/-- Position ports (R376, R378): a good word in sequence is shown, a word that fails a check counts as bad, a slot
without a word as missing; the quadrature count follows the edges, a clock in which both A and B change is illegal and
counts nothing, and each period gives a word of the count. Each of these commands completes, with exec answering a
next state, under conditions on the state and the operands alone: positionWord, positionSlotMissing, quadEdge,
quadPeriod, qidxEdge. -/
def Obligations.PositionPorts : Prop :=
  (∀ (s : State) (t : Nat) (n : Fin 3) (w : PosWord), s.portOn n false = true → w.line = true → w.crc = true →
    w.valid = true → (∀ q, (s.port n).lastSeq = some q → (w.seq.val + 256 - q) % 256 = 1) →
    ∃ u, exec (.positionWord t n w) s = .next u ∧ u.get (F.ESC_POS_STAT_SEQ n) = w.seq.val ∧
      u.get (F.ESC_POS_VAL n) = tc 48 w.pos ∧ u.get (F.ESC_POS_BAD n) = s.get (F.ESC_POS_BAD n) ∧ u.mem = s.mem) ∧
  (∀ (s : State) (t : Nat) (n : Fin 3) (w : PosWord), s.portOn n false = true →
    (w.line && w.crc && w.valid) = false →
    ∃ u, exec (.positionWord t n w) s = .next u ∧
      u.get (F.ESC_POS_BAD n) = min (s.get (F.ESC_POS_BAD n) + 1) (2 ^ 32 - 1) ∧
      u.get (F.ESC_POS_VAL n) = s.get (F.ESC_POS_VAL n) ∧ u.mem = s.mem) ∧
  (∀ (s : State) (t : Nat) (n : Fin 3), s.portOn n false = true →
    2 * (s.port n).slotEnd + 3 * ns (5 * s.period n) ≤ 2 * max s.clk.now t →
    ∃ u, exec (.positionSlotMissing t n) s = .next u ∧
      u.get (F.ESC_POS_MISS n) = min (s.get (F.ESC_POS_MISS n) + 1) (2 ^ 32 - 1) ∧
      (u.port n).slotEnd = (s.port n).slotEnd + ns (5 * s.period n) ∧ u.mem = s.mem) ∧
  (∀ (s : State) (t : Nat) (n : Fin 3) (a b : Bool), s.portOn n true = true → (s.port n).qClk ≠ max s.clk.now t / 3300 →
    ∃ u, exec (.quadEdge t n a b false) s = .next u ∧ (u.port n).phA = a ∧ (u.port n).phB = b ∧ u.regs = s.regs ∧
      u.mem = s.mem ∧
      (a = (s.port n).phA ∧ b = (s.port n).phB → (u.port n).count = (s.port n).count) ∧
      (a ≠ (s.port n).phA ∧ b ≠ (s.port n).phB → (u.port n).illegal = true ∧ (u.port n).count = (s.port n).count) ∧
      (a ≠ (s.port n).phA ∧ b = (s.port n).phB →
        (u.port n).count = (s.port n).count + (if a = b then -1 else 1)) ∧
      (a = (s.port n).phA ∧ b ≠ (s.port n).phB →
        (u.port n).count = (s.port n).count + (if a = b then 1 else -1))) ∧
  (∀ (s : State) (t : Nat) (n : Fin 3) (b : Bool), s.portOn n true = true → (s.port n).qClk = max s.clk.now t / 3300 →
    (s.port n).movA = true → b ≠ (s.port n).phB →
    ∃ u, exec (.quadEdge t n (s.port n).phA b false) s = .next u ∧ (u.port n).phB = b ∧ (u.port n).illegal = true ∧
      (u.port n).count = (s.port n).qCount ∧ u.regs = s.regs ∧ u.mem = s.mem) ∧
  (∀ (s : State) (t : Nat) (n : Fin 3), s.portOn n true = true → (s.port n).illegal = false →
    (s.port n).slotEnd + ns (5 * s.period n) ≤ max s.clk.now t →
    ∃ u, exec (.quadPeriod t n) s = .next u ∧
      u.get (F.ESC_POS_VAL n) = tc 48 (rhu ((s.port n).count * s.get (F.ESC_Q_SCALE n)) 65536) ∧ u.mem = s.mem) ∧
  (∀ (s : State) (t : Nat) (n : Fin 3), s.portOn n true = true → s.get (F.ESC_POS_CTL_IDX_HOME n) = 1 →
    ∃ u, exec (.qidxEdge t n) s = .next u ∧ (u.port n).count = 0 ∧ u.get (F.ESC_POS_STAT_HOMED n) = 1 ∧
      u.get (F.ESC_POS_CTL_IDX_HOME n) = 0 ∧ KeepsFields [F.ESC_POS_STAT_HOMED n, F.ESC_POS_CTL_IDX_HOME n] s u ∧
      u.mem = s.mem)

/-- Placing a shot (R386, R387, R389): after a placed shot the next one, in another clock of CK_SHOT, takes the latest
of its crossing time, 625 ns after the shot before and the frame lead from now; one that would slip more than
ESC_SLIP_MAX is not placed and OVERSPEED is set. A shot falls due (R20, R295, R336, R392, R421): this step adds to the
output one frame for each of the 32 lanes, whose header names the lane, the shot, BLANK and MASK and whose values are
all zero where either is set; the counter shows it, the stripe is RUNNING, or ENDED after its last shot, and of HBM
only the shot's slot of the Tally ring is written. Each of these commands completes, with exec answering a next state,
under conditions on the state and the operands alone: shotFix, shotDue. -/
def Obligations.ShotsPlacedAndDue : Prop :=
  (∀ (s : State) (t : Nat) (x : Stripe) (a : Attempt) (p tc : Int), s.cur = some x → s.esc.att = some a →
      s.domUp .motion = true → a.launched = true → a.next ≤ a.last → a.bar = none → s.armedOrRunning = true →
      a.fixClk ≠ some (max s.clk.now t / 3300) → a.tPrev = some p → (s.at t).target x a = some tc →
      tc - ((max s.clk.now t / 66 : Nat) : Int) ≤ (s.frameLead + 50 * clampN (s.app F.ESC_FIX) 8 80 : Nat) →
      let tn := max (max tc (((max s.clk.now t / 66 : Nat) : Int) + (s.frameLead : Nat))) (p + 12500)
      ∃ u, exec (.shotFix t) s = .next u ∧ u.mem = s.mem ∧
        if tn - tc ≤ (s.app F.ESC_SLIP_MAX : Nat) then
          ∃ b out, u.esc.att = some b ∧ b.next = a.next + 1 ∧ b.tPrev = some tn ∧
            b.fixed = a.fixed ++ [⟨a.next, tn, out⟩]
        else u.get F.ESC_STAT_OVERSPEED = 1 ∧ u.get F.ESC_STOP_SHOT = a.next % 2 ^ 40) ∧
  (∀ (s : State) (t : Nat) (accs : List SramAcc) (x : Stripe) (a : Attempt) (f : FixShot) (r : List FixShot), s.cur = some x →
      s.esc.att = some a → a.fixed = f :: r → s.domUp .plat = true → s.domUp .motion = true → s.armedOrRunning = true →
      s.dueAt f ≤ (max s.clk.now t : Nat) → f.shot < 2 ^ 40 → (∀ l, l < 32 → s.mapBase l < 512) →
      ∃ u, exec (.shotDue t accs) s = .next u ∧
        u.get F.ESC_SHOT = f.shot % 2 ^ 40 ∧
        (∃ c, u.cur = some c ∧ c.id = x.id ∧ c.st = if f.shot = a.last then StripeSt.ended else StripeSt.running) ∧
        (∃ b, u.esc.att = some b ∧ b.due = some (f.shot, f.tn)) ∧
        (∃ o e new, o ∈ u.bdl.out ∧ o.shot = f.shot ∧ o.open_ = List.range 32 ∧ o.mask = decide (f.shot < a.ns) ∧
          (o.blank = true ∨ o.mask = true → e = []) ∧ u.out = s.out ++ new ∧
          ∀ l, l < 32 → ∃ h, Tx.frame l h (laneOf e l) ∈ new ∧ bits h 6 5 = l ∧ bits h 11 9 = s.mapBase l ∧
            bits h 20 40 = f.shot ∧ bitOf h 60 = o.blank ∧ bitOf h 61 = o.mask) ∧
        ∀ b, b < s.tallySlot f.shot ∨ s.tallySlot f.shot + 131136 ≤ b → cellGet u.mem.cells b = cellGet s.mem.cells b)

/-- Decoding and evaluation run ahead of the shots (R292, R298): the next published shot is decoded into a buffer,
Tally evaluates it, and HBM keeps every byte; copies that differ set TALLY_STATE. Each of these commands completes,
with exec answering a next state, under conditions on the state and the operands alone: shotDecodeDone, tallyEvalDone.
-/
def Obligations.ShotDecodeAndTally : Prop :=
  (∀ (s : State) (t : Nat) (accs : List SramAcc) (x : Stripe) (p : PubCycle), s.domUp .plat = true → s.memUp = true → s.cur = some x →
    s.plt.serving = some x.id → s.pubOf x.id (s.plt.nextDec / s.cyc) = some p → s.plt.nextDec ≤ x.lastShot s.cyc →
    s.ahead < s.depth →
    ∃ u, exec (.shotDecodeDone t accs) s = .next u ∧ u.plt.nextDec = s.plt.nextDec + 1 ∧ KeepsHbm s u ∧
      ((∀ m, s.plt.onAir = some m → m < s.plt.nextDec) → ∃ b, b ∈ u.plt.bufs ∧ b.shot = s.plt.nextDec)) ∧
  (∀ (s : State) (t : Nat) (x : Stripe) (b : ShotBuf), s.domUp .plat = true → s.cur = some x →
    s.plt.serving = some x.id → s.plt.bufs.find? (fun b => b.shot == s.plt.nextTally) = some b →
    s.tallyMay x s.plt.nextTally = true → s.plt.nextTally < x.firstShot s.cyc + 1024 → s.plt.owed = [] →
    ∃ u, exec (.tallyEvalDone t false) s = .next u ∧ u.plt.nextTally = s.plt.nextTally + 1 ∧ u.mem = s.mem ∧
      ∀ c, c ∈ u.plt.bufs → c.shot = s.plt.nextTally → c.tally.isSome = true) ∧
  (∀ (s : State) (t : Nat), s.domUp .plat = true →
    ∃ u, exec (.tallyEvalDone t true) s = .next u ∧ u.get F.PLT_TALLY_STAT_STATE = 1 ∧ u.mem = s.mem)

/-- Tally's limits hold of every emitted shot (R297, R298): no emitted value is above LIM_MAX_VALUE, no beam's window
above LIM_BEAM_DUTY, and a shot that is not zeroed whole keeps the Head's shot and window limits. -/
def Obligations.TallyKeepsLimits : Prop :=
  ∀ (s : State) (b : ShotBuf), (b.vals.map Prod.fst).Nodup →
    let e := emitted (some { b with tally := some (s.tallyEval b) }) false none
    (∀ p, p ∈ e → p.2 ≤ s.limMaxValue) ∧
    (s.tallyBypass = false → ∀ p, p ∈ e → s.plt.wsum.get p.1 0 + p.2 ≤ s.limBeamDuty) ∧
    ((s.tallyEval b).2 = none → valSum e ≤ s.limHeadShot ∧ (0 < valSum e → s.plt.hsum + valSum e ≤ s.limHeadWindow))

/-- The end of an attempt (R407, R439): once the last shot's slices are over an ENDED stripe leaves TRACK, and a stop
completes into STOPPED with its resume shot and cause, the Galley empty. A whole-shot darn entry (R443, R445): once
every lane-shot of the oldest shot is settled, the 16 bytes of its entry, with their CRC-32C over address and entry,
stand in the next place of the stripe's darn area, and no other byte changes. Each of these commands completes, with
exec answering a next state, under conditions on the state and the operands alone: trackExit, stopComplete,
darnEntryWrite. -/
def Obligations.AttemptsEndAndDarn : Prop :=
  (∀ (s : State) (t : Nat) (x : Stripe) (a : Attempt), s.cur = some x → s.esc.att = some a → x.st = .ended →
    (s.at t).attemptOver a = true → s.domUp .motion = true →
    ∃ u, exec (.trackExit t) s = .next u ∧ u.esc.att = none ∧ u.mem = s.mem ∧
      (s.gov.pend = none → s.get F.GOV_STAT_MODE = 2 →
        u.get F.GOV_STAT_MODE = if s.get F.GOV_MODE_AFTER = 1 then 1 else 0)) ∧
  (∀ (s : State) (t : Nat) (accs : List SramAcc) (x : Stripe) (a : Attempt) (r : StopRec), s.cur = some x →
    s.esc.att = some a → s.asy.stop = some r → s.domUp .plat = true → s.memUp = true ∨ r.noCkpt = true → s.bdl.out = [] → (s.at t).attemptOver a = true →
    ∃ u, exec (.stopComplete t accs) s = .next u ∧ u.asy.stop = none ∧
      (∃ c, u.cur = some c ∧ c.id = x.id ∧ c.st = StripeSt.stopped ∧ c.resume = some (max r.ns (x.resume.getD 0))) ∧
      u.get F.ASY_STOP_CAUSE = r.cause % 16 ∧ u.get F.ASY_STOP_VALID = 1 ∧
      u.get F.ASY_RESUME_SHOT = max r.ns (x.resume.getD 0) % 2 ^ 40 ∧ u.mem.tiles = [] ∧ u.mem.published = []) ∧
  (∀ (s : State) (t : Nat) (x : Stripe) (o : ShotOut) (r : List ShotOut) (w : Nat × Bool), s.domUp .plat = true →
      s.memUp = true → s.cur = some x → s.bdl.out = o :: r → o.open_ = [] → o.whole = some w →
      x.darnNext < x.darnSize → x.darnBase % 16 = 0 →
      x.darnBase + 16 * x.darnNext + 16 ≤ hbmTop → (x.darnBase + 16 * x.darnNext) / 64 ∉ s.mem.poison →
      (4, (x.darnBase + 16 * x.darnNext) / 64) ∉ s.mem.hurt →
      let a := x.darnBase + 16 * x.darnNext
      ∃ u, exec (.darnEntryWrite t) s = .next u ∧
        u.rd a 16 = leBytes 5 o.shot ++ leBytes 1 2 ++ leBytes 2 0xFFFF ++ leBytes 2 0xFFFF ++ leBytes 1 w.1 ++
          leBytes 1 (128 * b2n w.2) ++
          leBytes 4 (crc32c (leBytes 8 a ++ (leBytes 5 o.shot ++ leBytes 1 2 ++ leBytes 2 0xFFFF ++ leBytes 2 0xFFFF ++
            leBytes 1 w.1 ++ leBytes 1 (128 * b2n w.2)))) ∧
        (∃ c, u.cur = some c ∧ c.id = x.id ∧ c.darnCount = x.darnCount + 1 ∧ c.darnNext = x.darnNext + 1) ∧
        ∀ b, b < a ∨ a + 16 ≤ b → cellGet u.mem.cells b = cellGet s.mem.cells b)

/-- A write through WIN_REG (R8, R701 to R707): to any register that no rule locks or gives an action, with values in
range, RW and ST fields take their bits, a 1 clears a bit of a W1C field, the other fields keep what they hold, the
values in force stay and nothing else changes, as DBK_RATE, BDL_LEAD and TOP_SNAP_STAT show; one that is refused
changes no register and is recorded with its kind; every write to the Daybook window, the force bank or the snapshot
bank is refused with kind READ_ONLY. Each of these commands completes, with exec answering a next state, under
conditions on the state and the operands alone: regWrite. -/
def Obligations.RegisterWrites : Prop :=
  (∀ (s : State) (m : Fin 9) (off i j : Nat) (r : RegRow) (v : BitVec 32), off < 0x1A0000 → off % 4 = 0 →
    findRow regRows off = some (r, i, j) → s.domUp (domOf off) = true → s.wLocked m r.base i = false →
    wOk r.base v.toNat = true → wAligned.contains r.base = false →
    List.lookup r.base (wHooksA ++ wHooksB ++ wHooksC) = none →
    ∃ u, exec (.regWrite m off v) s = .next u ∧ OnlyFields (r.flds.map fun f => f.fld i j) s u ∧
      ∀ f, f ∈ r.flds → f.sgn = false → bits (u.get (f.fld i j)) f.sh f.w =
        match f.acc with
        | .rw => bits v.toNat f.lo f.w
        | .st => bits v.toNat f.lo f.w
        | .w1c => bits (s.get (f.fld i j)) f.sh f.w &&& (ones f.w ^^^ bits v.toNat f.lo f.w)
        | .ro => bits (s.get (f.fld i j)) f.sh f.w
        | .wo => bits (s.get (f.fld i j)) f.sh f.w
        | .rc => bits (s.get (f.fld i j)) f.sh f.w) ∧
  (∀ (s : State) (m : Fin 9) (v : BitVec 32), s.domUp .ctrl = true →
    ∃ u, exec (.regWrite m F.DBK_RATE_N.off v) s = .next u ∧ u.get F.DBK_RATE_N = v.toNat % 2 ^ 8 ∧
      u.get F.DBK_RATE_W = v.toNat / 2 ^ 8 ∧ OnlyFields [F.DBK_RATE_N, F.DBK_RATE_W] s u) ∧
  (∀ (s : State) (m : Fin 9) (v : BitVec 32), s.domUp .bdla = true →
    ∃ u, exec (.regWrite m F.BDL_LEAD.off v) s = .next u ∧ u.get F.BDL_LEAD = v.toNat % 2 ^ 9 ∧
      u.frc F.BDL_LEAD = s.frc F.BDL_LEAD ∧ OnlyFields [F.BDL_LEAD] s u) ∧
  (∀ (s : State) (m : Fin 9) (v : BitVec 32),
    ∃ u, exec (.regWrite m F.TOP_SNAP_STAT_MISSED.off v) s = .next u ∧ OnlyFields [F.TOP_SNAP_STAT_MISSED] s u ∧
      u.get F.TOP_SNAP_STAT_MISSED = if bitOf v.toNat 1 then 0 else s.get F.TOP_SNAP_STAT_MISSED % 2) ∧
  (∀ (s : State) (m : Fin 9) (off k : Nat) (v : BitVec 32), s.accKind (off / 4 * 4) true = some k →
    ∃ u, exec (.regWrite m off v) s = .next u ∧ u.get F.TOP_REG_ERR_KIND = k ∧ u.get F.TOP_REG_ERR_WRITE = 1 ∧
      u.get F.TOP_REG_ERR_MASTER = m.val ∧ u.get F.TOP_REG_ERR_VALID = 1 ∧
      u.get F.TOP_REG_ERR_ADDR = off / 4 * 4 % 2 ^ 26 ∧
      u.get F.TOP_REG_ERR_CNT = min (s.get F.TOP_REG_ERR_CNT + 1) (2 ^ 32 - 1) ∧ EventsOnly s u) ∧
  (∀ (s : State) (off : Nat), (0x1000000 ≤ off ∧ off < 0x1020000) ∨ (0x1800000 ≤ off ∧ off < 0x1A00000) ∨
    (0x2000000 ≤ off ∧ off < 0x3000000) → s.accKind (off / 4 * 4) true = some 4)

/-- Reads (R8, R10, R437, R701 to R706, R710): a read of a register that needs no bringing up to date answers its
fields, WO bits as 0, takes its RC fields to their reset values and leaves every other field, as PRT_GAL_REFUSE shows;
a refused read gives 0, the snapshot bank gives the captured word, and an access that covers no whole word is recorded
with kind 2. SNAP (R435 to R437): the bank takes every register as it stands, CLEAR clears the live RC fields, a write
while BUSY sets MISSED alone, and the end of the capture clears BUSY and sets the cause bit. Each of these commands
completes, with exec answering a next state, under conditions on the state and the operands alone: rcRead,
snapBankRead, regAccessError, ptpStampPop, snap, snapClear, snapDone. -/
def Obligations.ReadsAndSnapshots : Prop :=
  (∀ (s : State) (m : Fin 9) (off i j : Nat) (r : RegRow), off < 0x1A0000 → off % 4 = 0 →
    findRow regRows off = some (r, i, j) → s.domLive (domOf off) = true → s.view off = s →
    off ≠ F.TIM_PTP_RX_ID_TYPE.off → off ≠ F.TIM_PTP_TX_ID_TYPE.off →
    ∃ u, exec (.rcRead m off) s = .next u ∧ u.mem = s.mem ∧ u.force = s.force ∧
      KeepsFields ((r.flds.filter fun f => f.acc == .rc).map fun f => f.fld i j) s u ∧
      ∀ f, f ∈ r.flds → (f.acc = .rc → u.get (f.fld i j) = (f.fld i j).rst) ∧
        (f.sgn = false → bits u.rdata.toNat f.lo f.w = if f.acc = .wo then 0 else bits (s.get (f.fld i j)) f.sh f.w)) ∧
  (∀ (s : State) (m : Fin 9), s.domUp .host = true →
    ∃ u, exec (.rcRead m F.PRT_GAL_REFUSE.off) s = .next u ∧ u.rdata = BitVec.ofNat 32 (s.get F.PRT_GAL_REFUSE) ∧
      u.get F.PRT_GAL_REFUSE = 0 ∧ KeepsFields [F.PRT_GAL_REFUSE] s u ∧ u = { s with regs := u.regs, rdata := u.rdata }) ∧
  (∀ (s : State) (m : Fin 9) (off k : Nat), s.accKind (off / 4 * 4) false = some k →
    ∃ u, exec (.rcRead m off) s = .next u ∧ u.rdata = 0 ∧ u.get F.TOP_REG_ERR_KIND = k ∧
      u.get F.TOP_REG_ERR_WRITE = 0 ∧ u.get F.TOP_REG_ERR_ADDR = off / 4 * 4 % 2 ^ 26 ∧ u.mem = s.mem) ∧
  (∀ (s : State) (m : Fin 9) (off : Nat), off % 4 = 0 → off < 0x1A0000 → (findRow regRows off).isSome = true →
    ∃ u, exec (.snapBankRead m off) s = .next u ∧ u.rdata = BitVec.ofNat 32 (s.snapWord off) ∧
      u.get F.TOP_SNAP_STAT_BUSY = 0 ∧ u.snapRegs = s.snapRegs ∧ u.snapForce = s.snapForce ∧ u.mem = s.mem) ∧
  (∀ (s : State) (m : Fin 9) (off : Nat) (w : Bool),
    ∃ u, exec (.regAccessError m off w false) s = .next u ∧ u.get F.TOP_REG_ERR_KIND = 2 ∧
      u.get F.TOP_REG_ERR_WRITE = b2n w ∧ u.get F.TOP_REG_ERR_VALID = 1 ∧ u.mem = s.mem ∧ (w = false → u.rdata = 0)) ∧
  (∀ (s : State) (m : Fin 9) (tx : Bool), s.domUp .ring = true →
    ∃ u, exec (.ptpStampPop m tx) s = .next u ∧
      u.kor.ptpRx = (if tx then s.kor.ptpRx else s.kor.ptpRx.tail) ∧
      u.kor.ptpTx = (if tx then s.kor.ptpTx.tail else s.kor.ptpTx) ∧ u.mem = s.mem) ∧
  (∀ (s : State) (m : Fin 9), s.get F.TOP_SNAP_STAT_BUSY = 0 →
    ∃ u, exec (.snap m) s = .next u ∧ u.get F.TOP_SNAP_STAT_BUSY = 1 ∧
      u.get F.TOP_SNAP_STAT_SEQ = (s.get F.TOP_SNAP_STAT_SEQ + 1) % 2 ^ 16 ∧ u.snapRegs = u.regs ∧
      u.snapForce = s.force ∧ u.get F.TOP_SNAP_TIME = s.mtNs s.clk.now (if s.domUp .motion then g50 else g1ns) ∧
      u = { s with regs := u.regs, snapRegs := u.snapRegs, snapForce := u.snapForce, snapWork := u.snapWork }) ∧
  (∀ (s : State) (m : Fin 9), s.get F.TOP_SNAP_STAT_BUSY = 0 →
    ∃ u, exec (.snapClear m) s = .next u ∧ u.snapRegs.get F.TOP_REG_ERR_CNT = s.get F.TOP_REG_ERR_CNT ∧
      u.get F.TOP_REG_ERR_CNT = 0 ∧ u.get F.TOP_SNAP_STAT_BUSY = 1 ∧ u.mem = s.mem ∧
      (s.domUp .host = true → u.snapRegs.get F.PRT_GAL_REFUSE = s.get F.PRT_GAL_REFUSE ∧ u.get F.PRT_GAL_REFUSE = 0) ∧
      (s.domUp .host = false → u.get F.PRT_GAL_REFUSE = s.get F.PRT_GAL_REFUSE)) ∧
  (∀ (s : State) (m : Fin 9), s.get F.TOP_SNAP_STAT_BUSY = 1 →
    (∃ u, exec (.snap m) s = .next u ∧ u.get F.TOP_SNAP_STAT_MISSED = 1 ∧ OnlyFields [F.TOP_SNAP_STAT_MISSED] s u) ∧
    (∃ u, exec (.snapClear m) s = .next u ∧ u.get F.TOP_SNAP_STAT_MISSED = 1 ∧
      OnlyFields [F.TOP_SNAP_STAT_MISSED] s u)) ∧
  (∀ (s : State) (t : Nat), s.get F.TOP_SNAP_STAT_BUSY = 1 → s.domUp .host = true →
    ∃ u, exec (.snapDone t) s = .next u ∧ u.get F.TOP_SNAP_STAT_BUSY = 0 ∧ bitOf (u.get F.PRT_IRQ_STAT) 10 = true ∧
      KeepsFields [F.TOP_SNAP_STAT_BUSY, F.PRT_IRQ_STAT] s u ∧ u.snapRegs = s.snapRegs ∧ u.mem = s.mem)

/-- Check units (R544 to R546): INIT sets the running value to all ones of the width and clears the count, each data
write folds its bytes and counts one, a write of CHK_VAL replaces one half, a change of WIDTH sets all ones; CHK_RES
is the running value inverted. Each of these commands completes, with exec answering a next state, under conditions on
the state and the operands alone: chkInit, chkD8, chkD16, chkD32, chkFold, chkValWrite, chkWidth. -/
def Obligations.CheckUnits : Prop :=
  (∀ (s : State) (m : Fin 9) (k : Fin 8), s.domUp .host = true →
    ∃ u, exec (.chkInit m k) s = .next u ∧ u.get (F.CHK_VAL k) = ones (s.chkBits k) ∧ u.get (F.CHK_COUNT k) = 0 ∧
      u.get (F.CHK_RES k) = 0 ∧ OnlyFields [F.CHK_VAL k, F.CHK_RES k, F.CHK_COUNT k] s u) ∧
  (∀ (s : State) (m : Fin 9) (k : Fin 8) (l : List Byte) (c : Instr), s.domUp .host = true →
    (∃ v : BitVec 8, c = .chkD8 m k v ∧ l = leBytes 1 v.toNat) ∨ (∃ v : BitVec 16, c = .chkD16 m k v ∧ l = leBytes 2 v.toNat) ∨
      (∃ v : BitVec 32, c = .chkD32 m k v ∧ l = leBytes 4 v.toNat) →
    ∃ u, exec c s = .next u ∧ u.get (F.CHK_VAL k) =
        crcFold (if s.flag (F.CHK_CTL_WIDTH k) then 0xc96c5795d7870f42 else 0x82f63b78) (s.get (F.CHK_VAL k)) l
          % 2 ^ s.chkBits k ∧
      u.get (F.CHK_RES k) = u.get (F.CHK_VAL k) ^^^ ones (s.chkBits k) ∧
      u.get (F.CHK_COUNT k) = (s.get (F.CHK_COUNT k) + 1) % 2 ^ 32 ∧
      OnlyFields [F.CHK_VAL k, F.CHK_RES k, F.CHK_COUNT k] s u) ∧
  (∀ (s : State) (m : Fin 9) (k : Fin 8) (hi : BitVec 32), s.domUp .host = true →
    ∃ u, exec (.chkFold m k hi) s = .next u ∧ u.get (F.CHK_VAL k) =
        crcFold (if s.flag (F.CHK_CTL_WIDTH k) then 0xc96c5795d7870f42 else 0x82f63b78) (s.get (F.CHK_VAL k))
          (leBytes 4 (s.get (F.CHK_FOLD k)) ++ leBytes 4 hi.toNat) % 2 ^ s.chkBits k ∧
      u.get (F.CHK_COUNT k) = (s.get (F.CHK_COUNT k) + 1) % 2 ^ 32 ∧
      OnlyFields [F.CHK_FOLD k, F.CHK_VAL k, F.CHK_RES k, F.CHK_COUNT k] s u) ∧
  (∀ (s : State) (m : Fin 9) (k : Fin 8) (hi : Bool) (v : BitVec 32), s.domUp .host = true →
    s.get (F.CHK_VAL k) < 2 ^ 64 →
    ∃ u, exec (.chkValWrite m k hi v) s = .next u ∧ u.get (F.CHK_VAL k) =
        (if hi then s.get (F.CHK_VAL k) % 2 ^ 32 + v.toNat * 2 ^ 32
         else s.get (F.CHK_VAL k) / 2 ^ 32 * 2 ^ 32 + v.toNat) % 2 ^ s.chkBits k ∧
      u.get (F.CHK_COUNT k) = s.get (F.CHK_COUNT k) ∧ OnlyFields [F.CHK_VAL k, F.CHK_RES k] s u) ∧
  (∀ (s : State) (m : Fin 9) (k : Fin 8) (w : Bool), s.domUp .host = true →
    ∃ u, exec (.chkWidth m k w) s = .next u ∧
      if s.flag (F.CHK_CTL_WIDTH k) = w then u = s
      else u.get (F.CHK_CTL_WIDTH k) = b2n w ∧ u.get (F.CHK_VAL k) = ones (if w then 64 else 32) ∧
        u.get (F.CHK_RES k) = 0 ∧ OnlyFields [F.CHK_CTL_WIDTH k, F.CHK_VAL k, F.CHK_RES k] s u)

/-- A check unit computes the CRC its width names (R544, R84, R199): after INIT and one CHK_D8 for each byte of a
string, CHK_RES holds CRC-64 of the string at width 1 and CRC-32C of it at width 0. -/
def Obligations.CheckUnitComputesCrc : Prop :=
  ∀ (s : State) (m : Fin 9) (k : Fin 8) (l : List Byte), s.domUp .host = true →
    ∃ u, (l.foldl (fun r b => match r with
        | some x => (match exec (.chkD8 m k b) x with | .next y => some y | _ => none)
        | none => none) (match exec (.chkInit m k) s with | .next y => some y | _ => none)) = some u ∧
      u.get (F.CHK_RES k) = (if s.flag (F.CHK_CTL_WIDTH k) then crc64 l else crc32c l) ∧
      u.get (F.CHK_COUNT k) = l.length % 2 ^ 32 ∧ OnlyFields [F.CHK_VAL k, F.CHK_RES k, F.CHK_COUNT k] s u

/-- WIN_GAL (R519, R520, R712): a read that no check refuses answers the bytes of HBM; a refused one answers none, is
counted and raised; every write is discarded, counted and raised. MSI-X (R522): a write of 1 clears a cause bit and no
other; a vector unmasked with its pending bit set sends its message. Each of these commands completes, with exec
answering a next state, under conditions on the state and the operands alone: winGalRead, winGalWrite, irqStatusClear,
msixUnmask. -/
def Obligations.GalleyWindowAndMessages : Prop :=
  (∀ (s : State) (t off len : Nat), s.domUp .host = true → s.memUp = true → s.galDenied (s.galAddr off) len = false →
    s.readsClean 5 (s.galAddr off) len = true →
    ∃ u, exec (.winGalRead t off len) s = .next u ∧ u.out = s.out ++ [.galRd (some (s.rd (s.galAddr off) len))] ∧
      u = { s with clk := u.clk, out := u.out }) ∧
  (∀ (s : State) (t off len : Nat), s.domUp .host = true → s.galDenied (s.galAddr off) len = true →
    ∃ u, exec (.winGalRead t off len) s = .next u ∧ u.out = s.out ++ [.galRd none] ∧ u.mem = s.mem ∧
      u.get F.PRT_GAL_REFUSE = min (s.get F.PRT_GAL_REFUSE + 1) (2 ^ 32 - 1) ∧
      (s.domUp .ctrl = true → (s.wsrc 0x15).queue.length < 16 → (u.wsrc 0x15).queue = (s.wsrc 0x15).queue ++ [⟨0, 0⟩])) ∧
  (∀ (s : State) (t off len : Nat), s.domUp .host = true → s.memUp = true → s.galDenied (s.galAddr off) len = false →
    s.readsClean 5 (s.galAddr off) len = false →
    ∃ u, exec (.winGalRead t off len) s = .next u ∧ u.out = s.out ++ [.galRd none] ∧ KeepsHbm s u ∧
      u.get F.PRT_GAL_REFUSE = min (s.get F.PRT_GAL_REFUSE + 1) (2 ^ 32 - 1) ∧
      (s.domUp .ctrl = true → (s.wsrc 0x15).queue.length < 16 → (u.wsrc 0x15).queue = (s.wsrc 0x15).queue ++ [⟨0, 0⟩])) ∧
  (∀ (s : State) (a n : Nat), s.get F.PRT_GAL_WIN_EN = 0 ∨ (a < s.copyTop ∧ s.scope 2 = false) ∨ hbmTop < a + n →
    s.galDenied a n = true) ∧
  (∀ (s : State) (t off len : Nat), s.domUp .host = true →
    ∃ u, exec (.winGalWrite t off len) s = .next u ∧ u.mem = s.mem ∧ u.out = s.out ∧
      u.get F.PRT_GAL_REFUSE = min (s.get F.PRT_GAL_REFUSE + 1) (2 ^ 32 - 1) ∧
      (s.domUp .ctrl = true → (s.wsrc 0x15).queue.length < 16 → (u.wsrc 0x15).queue = (s.wsrc 0x15).queue ++ [⟨0, 0⟩])) ∧
  (∀ (s : State) (m : Fin 9) (hi : Bool) (v : BitVec 32), s.domUp .host = true →
    ∃ u, exec (.irqStatusClear m hi v) s = .next u ∧ OnlyFields [F.PRT_IRQ_STAT] s u ∧
      ∀ k, k < 40 → bitOf (u.get F.PRT_IRQ_STAT) k =
        (bitOf (s.get F.PRT_IRQ_STAT) k && !(k / 32 == b2n hi && bitOf v.toNat (k % 32)))) ∧
  (∀ (s : State) (m : Fin 9) (k : Nat), s.domUp .host = true → k < 64 → s.msix.enable = true → s.msix.fmask = false →
    bitOf s.msix.pba k = true →
    ∃ u, exec (.msixUnmask m (16 * k + 12) 0) s = .next u ∧ bitOf u.msix.pba k = false ∧ Tx.msix k ∈ u.out ∧
      u = { s with msix := u.msix, out := u.out }) ∧
  (∀ (s : State) (m : Fin 9) (k : Nat) (v : BitVec 32), s.domUp .host = true → k < 64 → v.toNat % 2 = 1 →
    s.msix.enable = false →
    ∃ u, exec (.msixUnmask m (16 * k + 12) v) s = .next u ∧ u.msix.word (4 * k + 3) = 1 ∧ u.out = s.out ∧
      u.msix.pba = s.msix.pba ∧ u = { s with msix := u.msix })

/-- MGMT (R547, R548): with the link up a frame passes to J6, a PAUSE frame is discarded, a frame over 1,522 bytes is
dropped and counted; the link falls and rises in MGT_STAT, and stays down under SGMII at another rate than 1,000
Mbit/s. The host link (R517, R548, R686): its training, at a width and rate it has, shows in PRT_HL_STAT and ends
PERST_N's hold; a Function Level Reset and PERST_N put PD_HOST's registers, Porter and MSI-X back to reset and leave
every other block's registers as they are, and PERST_N then holds PD_HOST's blocks. Each of these commands completes,
with exec answering a next state, under conditions on the state and the operands alone: mgmtFrameRx, mgmtLinkDown,
mgmtLinkUp, hostLinkUp, functionLevelReset, perstNAssert. -/
def Obligations.LinksAndHostResets : Prop :=
  (∀ (s : State) (t : Nat) (f : List Byte), s.domUp .mgmt = true → s.get F.MGT_CTL_EN = 1 → s.get F.MGT_STAT_LINK = 1 →
    ∃ u, exec (.mgmtFrameRx t f) s = .next u ∧ u.mem = s.mem ∧
      u.prt.frames = (if isPause f ∨ 1522 < f.length then s.prt.frames else s.prt.frames ++ [f]) ∧
      u.get F.MGT_RX_DROP = (if ¬ isPause f ∧ 1522 < f.length then min (s.get F.MGT_RX_DROP + 1) (2 ^ 32 - 1)
        else s.get F.MGT_RX_DROP)) ∧
  (∀ (s : State) (r : LinkReport), s.domUp .mgmt = true →
    ∃ u, exec (.mgmtLinkDown r) s = .next u ∧ u.get F.MGT_STAT_LINK = 0 ∧ u.get F.MGT_STAT_AN_DONE = 0 ∧
      u.get F.MGT_STAT_REMOTE_FAULT = b2n r.remoteFault ∧ u.mem = s.mem) ∧
  (∀ (s : State) (r : LinkReport), s.domUp .mgmt = true → s.get F.MGT_CTL_EN = 1 → s.flag F.MGT_CTL_MODE = true →
    r.mbps ≠ 1000 → ∃ u, exec (.mgmtLinkUp r) s = .next u ∧ u.get F.MGT_STAT_LINK = 0 ∧ u.mem = s.mem) ∧
  (∀ (s : State) (r : LinkReport), s.domUp .mgmt = true → s.get F.MGT_CTL_EN = 1 →
    s.get F.MGT_CTL_MODE = 0 ∨ r.mbps = 1000 →
    ∃ u, exec (.mgmtLinkUp r) s = .next u ∧ u.get F.MGT_STAT_LINK = 1 ∧
      u.get F.MGT_STAT_AN_DONE = s.get F.MGT_CTL_AN_EN % 2 ∧ u.get F.MGT_STAT_REMOTE_FAULT = b2n r.remoteFault ∧
      KeepsFields [F.MGT_STAT_LINK, F.MGT_STAT_AN_DONE, F.MGT_STAT_REMOTE_FAULT] s u ∧ u.mem = s.mem) ∧
  (∀ (s : State) (t w sp : Nat) (bme : Bool), s.domLive .host = true → linkOk w sp = true → s.prt.first = none →
    ∃ u, exec (.hostLinkUp t w sp bme) s = .next u ∧ u.get F.PRT_HL_STAT_DL_UP = 1 ∧
      u.get F.PRT_HL_STAT_WIDTH = w ∧ u.get F.PRT_HL_STAT_SPEED = sp ∧ u.pins.perstN = true ∧ u.get F.PRT_HL_STAT_BME = b2n bme ∧
      u.prt.first = some (w, sp) ∧ u.mem = s.mem ∧
      KeepsFields [F.PRT_HL_STAT_DL_UP, F.PRT_HL_STAT_WIDTH, F.PRT_HL_STAT_SPEED, F.PRT_HL_STAT_BME] s u) ∧
  (∀ (s : State) (t : Nat), s.domUp .host = true →
    ∃ u, exec (.functionLevelReset t) s = .next u ∧ (∀ f : Fld, domOf f.off = .host → u.get f = f.rst) ∧
      (∀ f : Fld, domOf f.off ≠ .host → u.get f = s.get f) ∧ u.msix = MsixSt.fresh ∧
      u.prt = { Porter.fresh with frames := s.prt.frames } ∧ u.asy = s.asy ∧ u.mem = s.mem) ∧
  (∀ (s : State) (t : Nat), s.domLive .host = false →
    ∃ u, exec (.perstNAssert t) s = .next u ∧ u.pins.perstN = false ∧ u.regs = s.regs ∧ u.mem = s.mem) ∧
  (∀ (s : State) (t : Nat), s.domLive .host = true →
    ∃ u, exec (.perstNAssert t) s = .next u ∧ u.pins.perstN = false ∧ u.domUp .host = false ∧ (∀ f : Fld, domOf f.off = .host → u.get f = f.rst) ∧
      (∀ f : Fld, domOf f.off ≠ .host → u.get f = s.get f) ∧ u.msix = MsixSt.fresh ∧ u.asy = s.asy ∧ u.mem = s.mem)

/-- RESET_N, VIN and clocks (R464, R652, R665, R670, R678, R680, R684): RESET_N holds every domain but PD_AON in reset
and keeps the Strongbox, a fall of VIN takes them off and writes a VIN-failure entry, and takes the Strongbox where
VBAK is gone too; VIN's return is noted, and the losses are raised; without its clock the ring port closes its
bypasses. Each of these commands completes, with exec answering a next state, under conditions on the state and the
operands alone: resetNAssert, vinWarn, vinReturn, vbakLow, refclkLoss, pllLockLoss. -/
def Obligations.SupplyAndResetPins : Prop :=
  (∀ (s : State) (t : Nat), s.pwr.backup = false →
    ∃ u, exec (.resetNAssert t) s = .next u ∧ u.pins.resetN = false ∧ u.get F.PWR_RST_CAUSE = 1 ∧
      (∀ d, d ≠ .aon → u.domUp d = false) ∧ u.sec.slots = s.sec.slots ∧ u.get F.SEC_LIFE = s.get F.SEC_LIFE ∧
      u.get F.TOP_CFG_EPOCH = s.get F.TOP_CFG_EPOCH) ∧
  (∀ (s : State) (t k : Nat) (r : List Nat) (d : VinDepth), s.pwr.backup = false → d ≠ .early →
    goodSlots s.lgr.badSlots (s.lgr.lastSlot.getD 1023) = k :: r →
    ∃ u e, exec (.vinWarn t ⟨0, d⟩) s = .next u ∧ u.pins.vinLow = true ∧ u.pins.vinOk = false ∧ u.pwr.backup = true ∧
      (if s.pins.vbakGone && (d == .below || !s.pins.vinFeeds) then ∀ k, k < 24 → u.sec.slots.lookup k = none
        else u.get F.PWR_RST_CAUSE = 3 ∧ u.sec.slots = s.sec.slots) ∧
      (∀ d, d ≠ .aon → u.domUp d = false) ∧ u.lgr.journal.lookup k = some e ∧ e.reason = 2 ∧ e.whole = true ∧
      u.lgr.jseq = s.lgr.jseq + 1) ∧
  (∀ (s : State) (t k f : Nat) (r : List Nat), s.pwr.backup = false →
    goodSlots s.lgr.badSlots (s.lgr.lastSlot.getD 1023) = k :: r →
    ∃ u e, exec (.vinWarn t ⟨f, .early⟩) s = .next u ∧ u.lgr.journal.lookup k = some e ∧ jValid k (e.bytes k) = false ∧
      u.lgr.badSlots = s.lgr.badSlots ++ [k] ∧ u.lgr.jseq = s.lgr.jseq) ∧
  (∀ (s : State) (t : Nat),
    ∃ u, exec (.vinReturn t) s = .next u ∧ u.pins.vinLow = false ∧ u.pins.vinOk = true ∧
      u = { s with clk := u.clk, pins := u.pins }) ∧
  (∀ (s : State) (t : Nat), s.pins.vinFeeds = false →
    ∃ u, exec (.vbakLow t true) s = .next u ∧ u.pins.vbakOk = false ∧ (∀ k, k < 24 → u.sec.slots.lookup k = none) ∧
      u.get F.SEC_LIFE = s.get F.SEC_LIFE % 2 ^ F.SEC_LIFE.width ∧ u.mem = s.mem) ∧
  (∀ (s : State) (t : Nat), s.aonFed = true → s.domUp .ctrl = true → (s.wsrc 5).queue.length < 16 →
    ∃ u, exec (.vbakLow t false) s = .next u ∧ u.pins.vbakOk = false ∧
      (u.wsrc 5).queue = (s.wsrc 5).queue ++ [⟨0, 0⟩] ∧ u.regs = s.regs ∧ u.mem = s.mem) ∧
  (∀ (s : State) (t : Nat), s.domUp .ctrl = true → (s.wsrc 3).queue.length < 16 →
    ∃ u, exec (.refclkLoss t) s = .next u ∧ u.pins.refclk = false ∧
      (u.wsrc 3).queue = (s.wsrc 3).queue ++ [⟨0, 0⟩] ∧ u.get F.KOR_STAT_IN_RING = 0 ∧
      KeepsFields [F.KOR_STAT_IN_RING] s u ∧ u.mem = s.mem) ∧
  (∀ (s : State) (t : Nat) (c : Fin 9), s.domUp .ctrl = true → (s.wsrc 2).queue.length < 16 →
    ∃ u, exec (.pllLockLoss t c) s = .next u ∧ (u.wsrc 2).queue = (s.wsrc 2).queue ++ [⟨c.val, 0⟩] ∧
      (if c.val = 5 then u.get F.KOR_STAT_IN_RING = 0 ∧ KeepsFields [F.KOR_STAT_IN_RING] s u else u.regs = s.regs) ∧
      u.mem = s.mem)

/-- Start-up (R600, R642 to R644, R683): with the part down and its supplies there, the first slot accepted takes
force and RUN's domains are up; with none, the no-Forme condition has PD_HOST and PD_HBM up; a CHIP_RESET leaves
FAULT_N driven. Each of these commands completes, with exec answering a next state, under conditions on the state and
the operands alone: startUp, chipReset. -/
def Obligations.StartUpTakesSlot : Prop :=
  (∀ (s : State) (t : Nat) (badA badB : Bool), s.domUp .ctrl = false → s.pins.vinOk = true → s.pins.refclk = true →
    s.pins.refclkAt ≤ max s.clk.now t →
    ∃ u, exec (.startUp t badA badB) s = .next u ∧ u.domUp .ctrl = true ∧ u.get F.PWR_STATE_STAT_STATE = 0 ∧
      u.get (F.JRN_STAT_STATE 0) = (match ((s.at t).bootCtrl.pickSlot (fun k => if k = 0 then badA else badB)
          (s.at t).bootCtrl.slotOrder).1 with
        | some k => if (fwEntry (s.flashImg k) 0).2.1 = 0 then 0 else 1
        | none => 1) ∧
      (match ((s.at t).bootCtrl.pickSlot (fun k => if k = 0 then badA else badB) (s.at t).bootCtrl.slotOrder).1 with
        | some k => u.forme = some (s.flashImg k, imgLen (s.flashImg k)) ∧ u.get F.PWR_STATE_STAT_NO_FORME = 0 ∧
            u.get F.SEC_FORME_STAT_FLASH_SLOT = k ∧ ∀ d, d ∈ runDoms → u.domLive d = true
        | none => u.forme = none ∧ u.get F.PWR_STATE_STAT_NO_FORME = 1 ∧ u.domLive .host = true ∧ u.domUp .hbm = true ∧
            u.get F.SEC_FORME_VER = 0 ∧ u.get F.PWR_DOM_REQ = 0 ∧
            ∀ d, d ∉ [Dom.aon, .ctrl, .host, .hbm] → u.domUp d = false)) ∧
  (∀ (s : State) (t d : Nat) (badA badB : Bool), s.watch.chipReset = some d → s.domUp .ctrl = true → d ≤ max s.clk.now t →
    s.pins.vinOk = true → s.pins.refclk = true → s.pins.refclkAt ≤ max s.clk.now t → s.pins.resetN = true →
    ∃ u, exec (.chipReset t badA badB) s = .next u ∧ u.domUp .ctrl = true ∧ u.get F.PWR_RST_CAUSE = 2 ∧
      u.get F.WCH_FAULTN_DRIVEN = 1 ∧ u.get F.WCH_FAULTN_PIN = 0) ∧
  (∀ (s : State) (t d : Nat) (badA badB : Bool), s.watch.chipReset = some d → s.domUp .ctrl = true → d ≤ max s.clk.now t →
    s.pins.vinOk = false ∨ s.pins.refclk = false ∨ s.pins.resetN = false ∨ max s.clk.now t < s.pins.refclkAt →
    ∃ u, exec (.chipReset t badA badB) s = .next u ∧ u.get F.PWR_RST_CAUSE = 2 ∧ ∀ d, d ≠ .aon → u.domUp d = false)

/-- Power states (R265, R664, R665): a request that the table refuses sets REFUSED, IDLE and STANDBY take their
domains off, a request to come up asks for them, and a request during a transition waits. Each of these commands
completes, with exec answering a next state, under conditions on the state and the operands alone: pwrStateRequest,
pwrDomainRequest. -/
def Obligations.PowerStateRequests : Prop :=
  (∀ (s : State) (m : Fin 9) (r : StateReq), s.get F.PWR_STATE_STAT_TRANS = 0 → s.stateAllowed (min r.v 2) = false →
    ∃ u, exec (.pwrStateRequest m r) s = .next u ∧ u.get F.PWR_STATE_STAT_REFUSED = 1 ∧
      u.get F.PWR_STATE_STAT_STATE = s.get F.PWR_STATE_STAT_STATE ∧ u.pwr = s.pwr ∧ u.mem = s.mem) ∧
  (∀ (s : State) (m : Fin 9) (f : Nat), s.get F.PWR_STATE_STAT_TRANS = 0 → s.get F.PWR_STATE_STAT_STATE = 0 → s.quiet = true →
    ∃ u, exec (.pwrStateRequest m ⟨1, f⟩) s = .next u ∧ u.get F.PWR_STATE_STAT_STATE = 1 ∧
      (∀ d, d ∈ [Dom.comp, .plat, .bdla, .bdlb] → u.domUp d = false) ∧ KeepsHbm s u) ∧
  (∀ (s : State) (m : Fin 9) (r : StateReq), s.get F.PWR_STATE_STAT_TRANS = 0 → 2 ≤ r.v → s.quiet = true →
    s.get F.PWR_STATE_STAT_STATE = 0 ∨ s.get F.PWR_STATE_STAT_STATE = 1 → s.get F.SEC_FORME_STAT_PERSIST_BUSY = 0 →
    ∃ u, exec (.pwrStateRequest m r) s = .next u ∧ u.get F.PWR_STATE_STAT_STATE = 2 ∧
      ∀ d, d ≠ .aon → d ≠ .ctrl → u.domUp d = false) ∧
  (∀ (s : State) (m : Fin 9) (f : Nat), s.get F.PWR_STATE_STAT_TRANS = 0 →
    s.get F.PWR_STATE_STAT_STATE = 1 ∨ s.get F.PWR_STATE_STAT_STATE = 2 →
    ∃ u, exec (.pwrStateRequest m ⟨0, f⟩) s = .next u ∧ u.get F.PWR_STATE_STAT_TRANS = 1 ∧ u.pwr.target = some 0 ∧
      u.get F.PWR_STATE_STAT_STATE = s.get F.PWR_STATE_STAT_STATE ∧ u.mem = s.mem ∧
      ∀ d, d ∈ runDoms → bitOf s.domsOn d.idx = false →
        (u.pwr.reqs.lookup d.idx).isSome ∨ (s.pwr.burst.lookup d.idx).isSome ∨ (s.pwr.again.lookup d.idx).isSome) ∧
  (∀ (s : State) (m : Fin 9) (r : StateReq), s.get F.PWR_STATE_STAT_TRANS = 1 →
    ∃ u, exec (.pwrStateRequest m r) s = .next u ∧ u.pwr.waiting = some (min r.v 2, r.fails) ∧
      u = { s with regs := u.regs, pwr := u.pwr } ∧ KeepsFields [F.PWR_STATE_REQ] s u) ∧
  (∀ (s : State) (m : Fin 9) (v : Nat), s.get F.PWR_STATE_STAT_STATE ≠ 2 →
    ∃ u, exec (.pwrDomainRequest m v) s = .next u ∧ u.get F.PWR_DOM_REQ = v % 4 ∧
      (bitOf v 0 = false → u.domUp .mgmt = false) ∧ (bitOf v 1 = false → u.domUp .vision = false) ∧
      (bitOf v 0 = true → bitOf s.domsOn 3 = false →
        (u.pwr.reqs.lookup 3).isSome ∨ (s.pwr.burst.lookup 3).isSome ∨ (s.pwr.again.lookup 3).isSome))

/-- The power sequencer (R599, R666 to R669): a burst takes the requests and its first window stays within the budget,
a domain whose last stage a window admitted is on and leaves reset 10 µs later, and a domain that loses power-good or
is reset goes off and is asked for again after 10 µs. Each of these commands completes, with exec answering a next
state, under conditions on the state and the operands alone: burstStart, sequencerWindow, domainLeaveReset,
powerGoodLoss, blockReset. -/
def Obligations.PowerSequencer : Prop :=
  (∀ (s : State) (t : Nat), s.pwr.admitted = [] → s.pwr.again = [] → s.pwr.reqs ≠ [] →
    ∃ u, exec (.burstStart t) s = .next u ∧ u.pwr.burst = s.pwr.reqs ∧ u.pwr.reqs = [] ∧
      u.pwr.windowEnd = max s.clk.now t + us 100 ∧ u.pwr.budget = max 500 (s.get F.PWR_BUDGET) ∧
      (u.pwr.admitted.map PStage.mA).sum ≤ u.pwr.budget ∧
      (∀ d, d ∈ domSteps → (s.pwr.reqs.lookup d.1.idx).isSome → u.pwr.admitted ≠ []) ∧ u.mem = s.mem) ∧
  (∀ (s : State) (t i : Nat) (x : PStage), i < 12 → s.pwr.windowEnd ≤ max s.clk.now t → x ∈ s.pwr.admitted →
    x.last = true → x.dom = i → i ∉ s.pwr.offAfter →
    ∃ u p, exec (.sequencerWindow t) s = .next u ∧ bitOf u.domsOn i = true ∧ u.pwr.leaving.lookup i = some p ∧
      p.1 = s.pwr.windowEnd + us 10 ∧ u.mem = s.mem) ∧
  (∀ (s : State) (t due asked : Nat) (d : Fin 12), s.pwr.leaving.lookup d.val = some (due, asked) →
    due ≤ max s.clk.now t → s.pins.resetN = true → bitOf s.domsOn d.val = true → s.pwr.target = none →
    ∃ u, exec (.domainLeaveReset t d) s = .next u ∧ u.domLive (domAt d.val) = true ∧ u.pwr.leaving.lookup d.val = none) ∧
  (∀ (s : State) (t : Nat) (d : Fin 12), d.val ≠ 0 → bitOf s.domsOn d.val = true →
    ∃ u, exec (.powerGoodLoss t d) s = .next u ∧ bitOf u.domsOn d.val = false ∧
      u.pwr.again.lookup d.val = some (max s.clk.now t + us 10)) ∧
  (∀ (s : State) (t : Nat) (b : BlkRst), s.domUp .ctrl = true → s.watch.blockResets = [b] →
    b.latest ≤ max s.clk.now t →
    ∃ u, exec (.blockReset t) s = .next u ∧ u.watch.blockResets = [] ∧ (∀ d, d ∈ b.doms → d ≠ .aon → u.domUp d = false) ∧
      (.aon ∉ b.doms → ∀ d, d ∈ b.doms → bitOf s.domsOn d.idx = true →
        u.pwr.again.lookup d.idx = some (max s.clk.now t + us 10)))

/-- Epochs (R12, R429 to R433): COMMIT asks for a commit, which takes every pending ST value into force, counts the
epoch and writes its image into the lowest free slot once nothing is armed or running. Gain staging (R576 to R578):
STAGE copies the table in force into B_s and the target into T_s, a STALE beam's entry from the table in force, and
starts at step 1 of K; UNSTAGE withdraws it (that STEP and K then stand is the model's choice, log entry 48), and a
write of GAU_TGT_BASE_HI copies the table in force to the target. Each of these commands completes, with exec
answering a next state, under conditions on the state and the operands alone: commit, epochCommit, stage, unstage,
gainTargetCopy. -/
def Obligations.EpochsAndGains : Prop :=
  (∀ (s : State) (m : Fin 9),
    ∃ u, exec (.commit m) s = .next u ∧ u.get F.TOP_EPOCH_STAT_PENDING = 1 ∧
      u.get F.TOP_EPOCH_STAT_BLOCKED = b2n s.freeImg.isNone ∧
      OnlyFields [F.TOP_EPOCH_STAT_PENDING, F.TOP_EPOCH_STAT_BLOCKED] s u) ∧
  (∀ (s : State) (t i : Nat), s.get F.TOP_EPOCH_STAT_PENDING = 1 → s.armedOrRunning = false → s.armWaiting = false →
    s.memUp = true → s.freeImg = some i → s.get F.TOP_EPOCH_STAT_GAIN_STAGED = 0 →
    ∃ u, exec (.epochCommit t) s = .next u ∧ u.get F.TOP_CFG_EPOCH = (s.get F.TOP_CFG_EPOCH + 1) % 2 ^ 64 ∧
      u.get F.TOP_GAIN_EPOCH = s.get F.TOP_GAIN_EPOCH ∧ u.get F.TOP_EPOCH_STAT_PENDING = 0 ∧
      u.get F.TOP_EPOCH_STAT_SLOT = i ∧ (∀ f, f ∈ stFlds → u.frc f = s.get f % 2 ^ f.width) ∧
      (∀ a, a < s.imgAddr i ∨ s.imgAddr i + 2 ^ 20 ≤ a → cellGet u.mem.cells a = cellGet s.mem.cells a) ∧
      (s.imgTop ≤ hbmTop → u.rd (s.imgAddr i) 32 = leBytes 4 0x48435045 ++ leBytes 2 1 ++ zeros 2 ++
        leBytes 8 (u.get F.TOP_CFG_EPOCH) ++ leBytes 8 (s.get F.TOP_GAIN_EPOCH) ++ leBytes 8 (s.get F.TOP_FORME_EPOCH))) ∧
  (∀ (s : State) (m : Fin 9), s.domUp .motion = true → s.areaValid = true → s.memUp = true → s.mem.poison = [] →
    s.mem.hurt = [] →
    s.tableAddr + 524288 ≤ hbmTop →
    ∃ u, exec (.stage m) s = .next u ∧ u.get F.TOP_EPOCH_STAT_GAIN_STAGED = 1 ∧ u.get F.GAU_GAIN_STAT_STAGED = 1 ∧
      u.get F.GAU_GAIN_STAT_STEP = 1 ∧ u.get F.GAU_GAIN_STAT_K = clampN (s.get F.GAU_GAIN_CTL) 1 64 ∧
      u.rd (s.get F.GAU_TGT_BASE + 1048576) 524288 = s.rd s.tableAddr 524288 ∧
      u.rd (s.get F.GAU_TGT_BASE + 524288) 524288 = (List.range 262144).flatMap (fun i => leBytes 2 (gainAt
        (if s.gau.stale.contains i then s.rd s.tableAddr 524288 else s.rd (s.get F.GAU_TGT_BASE) 524288) i)) ∧
      ∀ a, a < s.get F.GAU_TGT_BASE + 524288 ∨ s.get F.GAU_TGT_BASE + 1572864 ≤ a →
        cellGet u.mem.cells a = cellGet s.mem.cells a) ∧
  (∀ (s : State) (m : Fin 9), s.domUp .motion = true →
    ∃ u, exec (.unstage m) s = .next u ∧ u.get F.TOP_EPOCH_STAT_GAIN_STAGED = 0 ∧ u.get F.GAU_GAIN_STAT_STAGED = 0 ∧
      u.get F.GAU_GAIN_STAT_STEP = s.get F.GAU_GAIN_STAT_STEP % 2 ^ F.GAU_GAIN_STAT_STEP.width ∧
      u.get F.GAU_GAIN_STAT_K = s.get F.GAU_GAIN_STAT_K % 2 ^ F.GAU_GAIN_STAT_K.width ∧
      OnlyFields [F.TOP_EPOCH_STAT_GAIN_STAGED, F.GAU_GAIN_STAT_STAGED, F.GAU_GAIN_STAT_STEP, F.GAU_GAIN_STAT_K] s u) ∧
  (∀ (s : State) (m : Fin 9) (v : BitVec 32), s.domUp .motion = true → s.memUp = true → s.mem.poison = [] → s.mem.hurt = [] →
    s.tableAddr + 524288 ≤ hbmTop → s.imgTop ≤ s.get F.GAU_TGT_BASE % 2 ^ 32 + v.toNat % 8 * 2 ^ 32 →
    s.get F.GAU_TGT_BASE % 2 ^ 32 + v.toNat % 8 * 2 ^ 32 + 1572864 ≤ hbmTop →
    ∃ u, exec (.gainTargetCopy m v) s = .next u ∧
      u.get F.GAU_TGT_BASE = s.get F.GAU_TGT_BASE % 2 ^ 32 + v.toNat % 8 * 2 ^ 32 ∧
      u.rd (u.get F.GAU_TGT_BASE) 524288 = s.rd s.tableAddr 524288 ∧ OnlyFields [F.GAU_TGT_BASE] s { u with mem := s.mem })

/-- Formes (R637, R638, R640): a LOAD reports its result; an accepted Forme takes force, ends the no-Forme condition
and counts one Forme epoch, one refused leaves the Forme in force; PERSIST keeps it for flash, and a good copy fills
the other slot. Each of these commands completes, with exec answering a next state, under conditions on the state and
the operands alone: formeLoad, persist, persistDone. -/
def Obligations.FormeLoads : Prop :=
  (∀ (s : State) (m : Fin 9) (p : Bool) (c : Instr), c = .formeLoad m p ∨ (c = .persist m ∧ p = true) →
    let i := s.imageAt (s.get F.SEC_FORME_ADDR) (s.get F.SEC_FORME_LEN)
    let r := s.formeResult (s.get F.SEC_FORME_ADDR) (s.get F.SEC_FORME_LEN) i
    ∃ u, exec c s = .next u ∧ u.get F.SEC_FORME_STAT_RESULT = r.1 ∧ u.get F.SEC_FORME_STAT_VALID = 1 ∧
      if r.1 = 0 then u.forme = some (i, imgLen i) ∧ u.get F.PWR_STATE_STAT_NO_FORME = 0 ∧
        u.get F.TOP_FORME_EPOCH = (s.get F.TOP_FORME_EPOCH + 1) % 2 ^ 64 ∧
        u.get F.TOP_CFG_EPOCH = (s.get F.TOP_CFG_EPOCH + 1) % 2 ^ 64 ∧
        u.get F.SEC_FORME_STAT_PERSIST_BUSY = b2n p ∧ (p = true → u.sec.persist = some i)
      else u.forme = s.forme ∧ KeepsHbm s u ∧ u.sec = s.sec ∧ u.get F.TOP_FORME_EPOCH = s.get F.TOP_FORME_EPOCH ∧
        u.get F.PWR_STATE_STAT_NO_FORME = s.get F.PWR_STATE_STAT_NO_FORME) ∧
  (∀ (s : State) (t : Nat) (i : Image), s.sec.persist = some i → s.get F.SEC_FORME_STAT_FLASH_SLOT ≤ 1 →
    ∃ u, exec (.persistDone t true) s = .next u ∧ u.sec.persist = none ∧ u.get F.SEC_FORME_STAT_PERSIST_BUSY = 0 ∧
      u.get F.SEC_FORME_STAT_FLASH_SLOT = 1 - s.get F.SEC_FORME_STAT_FLASH_SLOT ∧
      u.flashImg (u.get F.SEC_FORME_STAT_FLASH_SLOT) = i ∧
      u.flashImg (s.get F.SEC_FORME_STAT_FLASH_SLOT) = s.flashImg (s.get F.SEC_FORME_STAT_FLASH_SLOT) ∧ u.mem = s.mem)

/-- OPEN and MEND (R420, R422, R423, R448 to R450): accepted, they append an OPENED stripe with the parameters given
to the open queue; refused, they report why and leave the queue as it is. A MEND waits while the controller accepts no
request (R263; the model's reading, log entry 38). Each of these commands completes, with exec answering a next state,
under conditions on the state and the operands alone: open_, mend. -/
def Obligations.StripesOpen : Prop :=
  (∀ (s : State) (m : Fin 9), s.domUp .ctrl = true → s.openResult = 0 →
    ∃ u x, exec (.open_ m) s = .next u ∧ u.get F.ASY_CMD_STAT_OP = 1 ∧ u.get F.ASY_CMD_STAT_RESULT = 0 ∧
      u.get F.ASY_CMD_STAT_VALID = 1 ∧ u.asy.queue.map Stripe.id = s.asy.queue.map Stripe.id ++ [s.get F.ASY_OPEN_ID] ∧
      u.asy.queue.getLast? = some x ∧ x.st = .opened ∧ x.dir = s.get F.ASY_OPEN_CTL_DIR ∧ x.body = s.get F.ASY_OPEN_BODY ∧
      x.xs = s.getS F.ASY_OPEN_XS ∧ x.ys = s.getS F.ASY_OPEN_YS ∧ x.cfgEpoch = s.get F.TOP_CFG_EPOCH ∧
      x.gainEpoch = s.get F.TOP_GAIN_EPOCH ∧ x.slot = s.get F.TOP_EPOCH_STAT_SLOT ∧ x.mend = none ∧ u.mem = s.mem) ∧
  (∀ (s : State) (m : Fin 9), s.domUp .ctrl = true → s.openResult ≠ 0 →
    ∃ u, exec (.open_ m) s = .next u ∧ u.get F.ASY_CMD_STAT_OP = 1 ∧ u.get F.ASY_CMD_STAT_RESULT = s.openResult ∧
      u.asy = s.asy ∧ u.mem = s.mem) ∧
  (∀ (s : State) (m : Fin 9), s.domUp .ctrl = true → s.forme.isSome = true → s.asy.queue.length < 4 →
    bits (s.get F.ASY_OPEN_ID) 16 8 ≠ 0 → bits (s.get F.ASY_OPEN_ID) 56 8 = 0 → s.inQueue (s.get F.ASY_OPEN_ID) = false →
    s.memUp = true →
    ∃ u, exec (.mend m) s = .next u ∧ u.get F.ASY_CMD_STAT_OP = 5 ∧ u.get F.ASY_CMD_STAT_VALID = 1 ∧ KeepsHbm s u ∧
      ((s.parent (s.get F.ASY_MEND_CTL_PARENT_SLOT)).1 = none → u.get F.ASY_CMD_STAT_RESULT = 14 ∧ u.asy = s.asy) ∧
      ∀ h es, (s.parent (s.get F.ASY_MEND_CTL_PARENT_SLOT)).1 = some h → (s.parentDarns h).1 = some es →
        (s.mendInfo es (bitOf (leAt h 6 2) 2) = none → u.get F.ASY_CMD_STAT_RESULT = 15 ∧ u.asy = s.asy) ∧
        (∀ i st, s.mendInfo es (bitOf (leAt h 6 2) 2) = some i → s.openLayer = some st →
          s.onGrid st (leSAt h 24 8) (leSAt h 32 8) = true → s.imgOf (leAt h 48 8) (leAt h 56 8) = none →
          u.get F.ASY_CMD_STAT_RESULT = 13 ∧ u.asy = s.asy) ∧
        ∀ i st k, s.mendInfo es (bitOf (leAt h 6 2) 2) = some i → s.openLayer = some st →
          s.onGrid st (leSAt h 24 8) (leSAt h 32 8) = true → s.imgOf (leAt h 48 8) (leAt h 56 8) = some k →
          s.darnBad = false → u.get F.ASY_CMD_STAT_RESULT = 0 ∧
            u.asy.queue.map Stripe.id = s.asy.queue.map Stripe.id ++ [s.get F.ASY_OPEN_ID] ∧ ∃ x,
              u.asy.queue.getLast? = some x ∧ x.st = .opened ∧ x.mend = some i ∧ x.slot = k ∧ x.xs = leSAt h 24 8 ∧
              x.ys = leSAt h 32 8) ∧
  (∀ (s : State) (m : Fin 9), s.domUp .ctrl = true → s.forme.isSome = true → s.asy.queue.length < 4 →
    bits (s.get F.ASY_OPEN_ID) 16 8 ≠ 0 → bits (s.get F.ASY_OPEN_ID) 56 8 = 0 → s.inQueue (s.get F.ASY_OPEN_ID) = false →
    s.memUp = false → exec (.mend m) s = .next { s with asy := { s.asy with mendWait := true } }) ∧
  (∀ (s : State) (m : Fin 9), s.domUp .ctrl = true →
    s.forme = none ∨ 4 ≤ s.asy.queue.length ∨ bits (s.get F.ASY_OPEN_ID) 16 8 = 0 →
    ∃ u, exec (.mend m) s = .next u ∧ u.get F.ASY_CMD_STAT_OP = 5 ∧ u.asy = s.asy ∧ u.mem = s.mem ∧
      u.get F.ASY_CMD_STAT_RESULT = if s.forme = none then 1 else if 4 ≤ s.asy.queue.length then 2 else 5)

/-- ARM (R407, R421 to R427): the current stripe's ARM waits, with the Governor in TRACK, until the conditions of its
completion hold; then the stripe is ARMED and every lane LIVE, and after ASY_ARM_TMO ms it fails as TIMEOUT. Each of
these commands completes, with exec answering a next state, under conditions on the state and the operands alone: arm,
armComplete, armTimeout. -/
def Obligations.Arming : Prop :=
  (∀ (s : State) (m : Fin 9) (x : Stripe), s.domUp .ctrl = true → s.domUp .motion = true →
    s.get F.TOP_EPOCH_STAT_PENDING = 0 → s.forme.isSome = true → s.armWaiting = false → s.cur = some x →
    x.st = .opened → x.resume = none →
    ∃ u, exec (.arm m) s = .next u ∧ u.get F.ASY_CMD_STAT_OP = 2 ∧ KeepsHbm s u ∧ u.cur = some x ∧
      (s.memUp = true → s.imgIntact x.slot x.cfgEpoch = false → u.get F.ASY_CMD_STAT_RESULT = 13 ∧ u.asy = s.asy) ∧
      (s.imgIntact x.slot x.cfgEpoch = true → x.formeHash ≠ s.formeHash → u.get F.ASY_CMD_STAT_RESULT = 12 ∧
        u.asy = s.asy) ∧
      (s.imgIntact x.slot x.cfgEpoch = true → x.formeHash = s.formeHash → s.hmOk = true →
        s.passed x (s.launchPos x (x.attemptShot s.cyc)) = true → u.get F.ASY_CMD_STAT_RESULT = 9 ∧ u.asy = s.asy) ∧
      (s.imgIntact x.slot x.cfgEpoch = true → x.formeHash = s.formeHash → s.hmOk = true →
        s.passed x (s.launchPos x (x.attemptShot s.cyc)) = false → u.get F.ASY_CMD_STAT_WAITING = 1 ∧
          u.asy.arm = some s.clk.now ∧ u.get F.GOV_STAT_MODE = 2 ∧ ∃ a, u.esc.att = some a ∧ a.na = x.attemptShot s.cyc)) ∧
  (∀ (s : State) (m : Fin 9), s.domUp .ctrl = true → s.get F.TOP_EPOCH_STAT_PENDING = 0 →
    s.forme = none ∨ s.armWaiting = true ∨ s.cur = none →
    ∃ u, exec (.arm m) s = .next u ∧ u.get F.ASY_CMD_STAT_OP = 2 ∧ u.get F.ASY_CMD_STAT_RESULT = 1 ∧ u.asy = s.asy ∧
      u.mem = s.mem) ∧
  (∀ (s : State) (t : Nat) (x : Stripe) (a : Attempt), s.armWaiting = true → s.cur = some x → s.esc.att = some a →
    x.resume = none → (s.at t).passed x ((s.at t).launchPos x a.na) = false →
    ∃ u y, exec (.armComplete t) s = .next u ∧ u.cur = some y ∧ y.id = x.id ∧ KeepsHbm s u ∧
      (s.memUp = true → s.imgIntact x.slot x.cfgEpoch = false → u.get F.ASY_CMD_STAT_RESULT = 13 ∧ u.asy.arm = none) ∧
      (s.memUp = false ∨ s.imgIntact x.slot x.cfgEpoch = true → (s.at t).armReady x a = false →
        y = x ∧ u.asy.arm = s.asy.arm) ∧
      ((s.at t).armReady x a = true → y.st = .armed ∧ u.asy.arm = none ∧ u.asy.awaitLaunch = (x.launch != 0) ∧
        (∀ l, l < 32 → u.get (F.BDL_STAT_STATE l) = 4) ∧ u.get F.ASY_CMD_STAT_OP = 2 ∧
        u.get F.ASY_CMD_STAT_RESULT = 0 ∧ u.get F.ASY_CMD_STAT_WAITING = 0)) ∧
  (∀ (s : State) (t : Nat) (x : Stripe), s.armWaiting = true → s.cur = some x → x.launch ≠ 1 ∨ s.heldNames = false →
    s.asy.armAt + ms (s.get F.ASY_ARM_TMO) ≤ max s.clk.now t →
    ∃ u, exec (.armTimeout t) s = .next u ∧ u.get F.ASY_CMD_STAT_OP = 2 ∧ u.get F.ASY_CMD_STAT_RESULT = 7 ∧
      u.asy.arm = none ∧ u.esc.att = none ∧
      u.cur = some { x with st := if x.resume.isSome then .stopped else .opened } ∧ u.mem = s.mem)

/-- STOP and ABANDON (R422, R424, R427, R438): STOP bars a running stripe's shots from the next one to fall due, or
cancels an arming, of a stripe that is ARMED or whose ARM still waits, which then reports result 17; ABANDON takes a
stripe that is not armed or running out of the open queue, with an ARM of it that waits. The Hallmark (R451, R453 to
R457): an ended stripe whose lane-shots are settled and whose last shot's slices are over (log entry 109) leaves the
queue; its record's first 192 bytes go to the slot of its sequence number in the Hallmark ring, which advances. Each
of these commands completes, with exec answering a next state, under conditions on the state and the operands alone:
stop, abandon, hallmarkWrite. -/
def Obligations.StripesStopAndEnd : Prop :=
  (∀ (s : State) (m : Fin 9) (x : Stripe) (a : Attempt), s.domUp .ctrl = true → s.cur = some x → x.st = .running →
    s.esc.att = some a → s.asy.stop = none → s.nextClock ≤ a.last →
    ∃ u b, exec (.stop m) s = .next u ∧ u.asy.stop = some ⟨1, s.nextClock, false, false⟩ ∧ u.esc.att = some b ∧
      b.bar = some (match a.bar with | none => s.nextClock | some k => min k s.nextClock) ∧
      u.get F.ASY_CMD_STAT_OP = 3 ∧ u.get F.ASY_CMD_STAT_RESULT = 0 ∧ u.cur = some x ∧ u.mem = s.mem) ∧
  (∀ (s : State) (m : Fin 9) (x : Stripe), s.domUp .ctrl = true → s.cur = some x →
    x.st = .armed ∨ (x.st ≠ .running ∧ s.armWaiting = true) →
    ∃ u, exec (.stop m) s = .next u ∧ u.get F.ASY_STOP_CAUSE = 1 ∧ u.get F.ASY_STOP_VALID = 1 ∧ u.esc.att = none ∧
      u.get F.ASY_CMD_STAT_OP = 2 ∧ u.get F.ASY_CMD_STAT_RESULT = 17 ∧ u.get F.ASY_CMD_STAT_WAITING = 0 ∧
      u.asy.arm = none ∧ u.cur = some { x with st := if x.resume.isSome then .stopped else .opened } ∧ u.mem = s.mem) ∧
  (∀ (s : State) (m : Fin 9), s.domUp .ctrl = true → s.armedOrRunning = false → s.armWaiting = false →
    ∃ u, exec (.stop m) s = .next u ∧ u.get F.ASY_CMD_STAT_OP = 3 ∧ u.get F.ASY_CMD_STAT_RESULT = 1 ∧ u.asy = s.asy ∧
      u.mem = s.mem) ∧
  (∀ (s : State) (m : Fin 9) (x : Stripe), s.domUp .ctrl = true → s.cur = some x → x.st = .opened ∨ x.st = .stopped →
    ∃ u, exec (.abandon m false) s = .next u ∧ u.get F.ASY_CMD_STAT_OP = 4 ∧ u.get F.ASY_CMD_STAT_RESULT = 0 ∧
      u.asy.queue.map Stripe.id = (s.asy.queue.map Stripe.id).filter (· != x.id) ∧ u.asy.arm = none ∧ u.mem.tiles = [] ∧
      u.mem.published = [] ∧ KeepsHbm s u) ∧
  (∀ (s : State) (m : Fin 9) (x : Stripe), s.domUp .ctrl = true → 2 ≤ s.asy.queue.length →
    s.asy.queue.getLast? = some x → x.st = .opened →
    ∃ u, exec (.abandon m true) s = .next u ∧ u.get F.ASY_CMD_STAT_OP = 4 ∧ u.get F.ASY_CMD_STAT_RESULT = 0 ∧
      u.asy.queue.map Stripe.id = (s.asy.queue.map Stripe.id).filter (· != x.id) ∧ KeepsHbm s u) ∧
  (∀ (s : State) (t : Nat) (x : Stripe), s.cur = some x → x.st = .ended → s.bdl.out = [] → s.domUp .plat = true →
      s.memUp = true → (∀ a, s.esc.att = some a → (s.at t).attemptOver a = true) → x.comp.ldigDone = true → s.hmOk = true → 1 ≤ s.get F.ASY_HM_SLOTS → s.mem.poison = [] →
      s.mem.hurt = [] →
      let a := s.get F.ASY_HM_BASE + 320 * (s.get F.ASY_HM_SEQ % s.get F.ASY_HM_SLOTS)
      ∃ u, exec (.hallmarkWrite t) s = .next u ∧ u.rd a 192 = s.hmHead x ∧ u.esc.att = none ∧
        u.get F.ASY_HM_SEQ = (s.get F.ASY_HM_SEQ + 1) % 2 ^ F.ASY_HM_SEQ.width ∧
        u.asy.queue.map Stripe.id = (s.asy.queue.map Stripe.id).filter (· != x.id) ∧
        ∀ b, b < a ∨ a + 320 ≤ b → cellGet u.mem.cells b = cellGet s.mem.cells b)

/-- The ring port (R464, R466, R480, R509): JOIN opens the bypasses where a role and a device number are there, an
input that leaves SERVICE, for a lost clock or a figure below FOM_MIN for 1 ms, is down and a LINK frame says so,
START ends with the input up where its figure is at FOM_MIN or above; a frame that finds the line taken waits in the
queue of its class, and a full queue drops it (R470, R475). Each of these commands completes, with exec answering a
next state, under conditions on the state and the operands alone: join, ringInputDown, ringInputUp, ringRecover, mail.
-/
def Obligations.RingPort : Prop :=
  (∀ (s : State) (m : Fin 9) (v : Bool), s.domUp .ring = true →
    s.role ≠ 2 ∨ v = false ∨ (s.flag F.KOR_CTL_JOIN = true ∧ s.flag F.KOR_STAT_IN_RING = true) →
    ∃ u, exec (.join m v) s = .next u ∧ u.get F.KOR_CTL_JOIN = b2n v ∧
      u.get F.KOR_STAT_IN_RING = b2n (s.role != 0 && v && s.flag F.KOR_DEV_VALID && s.ringSends) ∧
      OnlyFields [F.KOR_CTL_JOIN, F.KOR_STAT_IN_RING] s u) ∧
  (∀ (s : State) (t : Nat) (l : RingLoss), s.inRing = true → s.role = 1 →
    s.get (F.KOR_LINK_STAT_STATE l.port) = 2 → s.get (F.KOR_LINK_STAT_UP l.port) = 1 →
    (∀ f, l.fom = some f → f < s.get (F.KOR_LINK_CTL_FOM_MIN l.port) ∧
      (s.ringIn l.port).rx.since + ms 1 ≤ max s.clk.now t) → RingIdle s t →
    ∃ u, exec (.ringInputDown t l) s = .next u ∧ u.get (F.KOR_LINK_STAT_UP l.port) = 0 ∧
      u.get (F.KOR_LINK_STAT_STATE l.port) = 1 ∧ (u.ringIn l.port).rx.since = max s.clk.now t ∧ u.mem = s.mem ∧
      u.get (F.KOR_LINK_STAT_FOM l.port) =
        (match l.fom with
        | none => s.get (F.KOR_LINK_STAT_FOM l.port)
        | some f => min f 255) ∧
      u.out = s.out ++ [.ring 0 (s.get F.KOR_DEV_DEVICE) 0 s.kor.seq true 0 (.link u.lflags),
        .ring 1 (s.get F.KOR_DEV_DEVICE) 0 s.kor.seq true 0 (.link u.lflags)]) ∧
  (∀ (s : State) (t f : Nat) (p : Fin 2),
    s.get (F.KOR_LINK_CTL_FOM_MIN p) ≤ f ∨ max s.clk.now t < (s.ringIn p).rx.since + ms 1 →
    ∃ u, exec (.ringInputDown t ⟨p, some f⟩) s = .next u ∧ u = { s with clk := u.clk }) ∧
  (∀ (s : State) (t : Nat) (p : Fin 2) (foms : List Nat) (fom : Nat), s.domUp .ring = true → s.role ≠ 0 →
    foms.length = 16 → s.get (F.KOR_LINK_STAT_STATE p) = 1 → (s.ringIn p).rx.since + ringStartTime ≤ max s.clk.now t →
    ∃ u, exec (.ringInputUp t p (foms ++ [fom])) s = .next u ∧ u.get (F.KOR_LINK_STAT_FOM p) = min fom 255 ∧
      (u.ringIn p).badRun = 0 ∧ (u.ringIn p).rx.since = max s.clk.now t ∧ u.mem = s.mem ∧
      if s.get (F.KOR_LINK_CTL_FOM_MIN p) ≤ fom then
        u.get (F.KOR_LINK_STAT_UP p) = 1 ∧ u.get (F.KOR_LINK_STAT_STATE p) = 2 ∧ (u.ringIn p).rx.ctle = bestCtle foms
      else u.get (F.KOR_LINK_STAT_UP p) = s.get (F.KOR_LINK_STAT_UP p) ∧ u.get (F.KOR_LINK_STAT_STATE p) = 1) ∧
  (∀ (s : State) (m : Fin 9) (p : Fin 2), s.domUp .ring = true → s.get (F.KOR_LINK_STAT_STATE p) = 2 →
    ∃ u, exec (.ringRecover m p) s = .next u ∧ u.get (F.KOR_LINK_STAT_STATE p) = 1 ∧
      u.get (F.KOR_LINK_STAT_UP p) = 0 ∧ u.mem = s.mem) ∧
  (∀ (s : State) (t : Nat) (h : RingHdr) (port mlen : Nat) (data : List Byte), s.inRing = true → h.good = true →
    h.whole = true → (s.ringIn h.ring.val).badRun = 0 → h.src.val ≠ s.get F.KOR_DEV_DEVICE →
    (DupWin.mark (s.kor.dups.lookup h.src.val) h.seq.val).isSome = true → h.bcast = false →
    h.dst.val ≠ s.get F.KOR_DEV_DEVICE → h.hops.val ≠ 63 → port < 8 → mlen ≤ data.length →
    5 * max s.clk.now t < (s.ringOut h.ring.val).free →
    ∃ u, exec (.mail t h ⟨port, mlen⟩ data) s = .next u ∧ u.out = s.out ∧ u.mem = s.mem ∧
      if Config.ringRoom 5 ≤ ((s.ringOut h.ring.val).queue.filter (fun x => x.cls == 5)).length then
        u.get F.KOR_DROP = min (s.get F.KOR_DROP + 1) (2 ^ F.KOR_DROP.width - 1) ∧
        (u.ringOut h.ring.val).queue = (s.ringOut h.ring.val).queue
      else u.regs = s.regs ∧ (u.ringOut h.ring.val).queue = (s.ringOut h.ring.val).queue ++
        [⟨5, 16 + data.length, ringSeed h.ring.val h.src.val h.seq.val 5,
          .ring h.ring.val h.src.val h.dst.val h.seq.val false (h.hops.val + 1) (.mail port mlen data)⟩])

/-- Discovery (R477 to R480): the master sends one TOPO frame on each ring, a member appends its entry, the master
takes its own frames off the ring, one of an older discovery without use, and builds and broadcasts the order once
both have returned, and every part adopts it and is admitted where its own entry is no duplicate. Each of these
commands completes, with exec answering a next state, under conditions on the state and the operands alone: discover,
discovery, topo, topoWaitEnd, topoResult, link. -/
def Obligations.RingDiscovery : Prop :=
  (∀ (s : State) (m : Fin 9) (t : Nat) (c : Instr), s.inRing = true → s.role = 2 →
    (c = .discover m ∧ t ≤ s.clk.now) ∨ (c = .discovery t ∧ s.kor.discDue.isSome = true) → RingIdle s t →
    ∃ u, exec c s = .next u ∧ u.kor.tseq = (s.kor.tseq + 1) % 2 ^ 16 ∧
      u.kor.disc = some ⟨max s.clk.now t, none, none⟩ ∧ u.kor.discDue = none ∧ u.regs = s.regs ∧ u.mem = s.mem ∧
      u.out = s.out ++ [.ring 0 (s.get F.KOR_DEV_DEVICE) 0 s.kor.seq true 0
          (.topo ⟨false, false, false, 0, u.kor.tseq, [s.topoEntry]⟩),
        .ring 1 (s.get F.KOR_DEV_DEVICE) 0 ((s.kor.seq + 1) % 2 ^ 16) true 0
          (.topo ⟨false, false, false, 0, u.kor.tseq, [s.topoEntry]⟩)]) ∧
  (∀ (s : State) (t : Nat) (h : RingHdr) (g : TopoMsg) (d : Disc), s.inRing = true → h.good = true → h.whole = true →
    s.ownTopo h g = true → g.tseq = s.kor.tseq → s.kor.disc = some d →
    ∃ u, exec (.topo t h g) s = .next u ∧ (u.ringIn h.ring.val).badRun = 0 ∧
      u.kor.disc = some (if h.ring.val = 0 then { d with ringA := some g } else { d with ringB := some g }) ∧
      ((s.ringIn h.ring.val).badRun = 0 → u = { s with clk := u.clk, kor := u.kor })) ∧
  (∀ (s : State) (t : Nat) (h : RingHdr) (g : TopoMsg), s.inRing = true → h.good = true → h.whole = true →
    s.ownTopo h g = true → g.tseq ≠ s.kor.tseq → (s.ringIn h.ring.val).badRun = 0 →
    ∃ u, exec (.topo t h g) s = .next u ∧ u = { s with clk := u.clk }) ∧
  (∀ (s : State) (t : Nat) (h : RingHdr) (g : TopoMsg), RingTakes s h → s.role = 1 → h.bcast = true →
    (s.ringIn h.ring.val).badRun = 0 → RingIdle s t →
    ∃ u, exec (.topo t h g) s = .next u ∧ u.regs = s.regs ∧ u.mem = s.mem ∧
      u.out = s.out ++ [.ring h.ring.val h.src.val h.dst.val h.seq.val true (h.hops.val + 1) (.topo
        (if 64 ≤ g.entries.length then { g with full := true } else { g with entries := g.entries ++ [s.topoEntry] }))]) ∧
  (∀ (s : State) (t : Nat) (d : Disc) (a b : TopoMsg), s.inRing = true → s.kor.disc = some d → d.ringA = some a →
    d.ringB = some b →
    ∃ u, exec (.topoWaitEnd t) s = .next u ∧ u.kor.disc = none ∧ u.kor.order = markDups a.entries ∧
      u.get F.KOR_TOPO_STAT_BROKEN = 0 ∧ u.get F.KOR_TOPO_STAT_TSEQ = s.kor.tseq % 2 ^ 16 ∧
      u.get F.KOR_TOPO_STAT_COUNT = a.entries.length % 2 ^ 7 ∧ u.mem = s.mem ∧
      (RingIdle s t → ∃ l, u.out = s.out ++ [.ring 0 (s.get F.KOR_DEV_DEVICE) 0 s.kor.seq true 0 (.topoResult
            ⟨a.full || b.full, false, s.kor.mastersSeen, 0, s.kor.tseq, markDups a.entries⟩),
          .ring 1 (s.get F.KOR_DEV_DEVICE) 0 s.kor.seq true 0 (.topoResult
            ⟨a.full || b.full, false, s.kor.mastersSeen, 0, s.kor.tseq, markDups a.entries⟩)] ++ l)) ∧
  (∀ (s : State) (t : Nat) (h : RingHdr) (g : TopoMsg) (e : TopoEntry), RingTakes s h →
    g.entries.find? (fun x => x.device == s.get F.KOR_DEV_DEVICE && x.serial == s.get F.TOP_SERIAL) = some e →
    ∃ u, exec (.topoResult t h g) s = .next u ∧ u.kor.order = g.entries ∧ u.kor.dups = [] ∧
      u.get F.KOR_STAT_ADMITTED = b2n (!e.dup && !g.masters) ∧ u.get F.KOR_STAT_DUP = b2n e.dup ∧
      u.get F.KOR_TOPO_STAT_TSEQ = g.tseq % 2 ^ 16 ∧ u.mem = s.mem ∧
      (e.dup = false → g.masters = false → s.domUp .bdla = true → u.get F.BDL_DEVICE = s.get F.KOR_DEV_DEVICE % 2 ^ 6 ∧
        (s.get F.BDL_DEVICE ≠ s.get F.KOR_DEV_DEVICE → u.hed.want = true))) ∧
  (∀ (s : State) (t : Nat) (h : RingHdr) (f : Nat), RingTakes s h → f < 8 →
    (s.ringIn h.ring.val).badRun = 0 → RingIdle s t →
    ∃ u, exec (.link t h f) s = .next u ∧ u.regs = s.regs ∧ u.mem = s.mem ∧
      u.kor.discDue = if s.role = 2 then some (max s.clk.now t) else s.kor.discDue)

/-- TIME frames (R483, R484, R487, R488): the master's SYNC carries its machine time, a member notes one on its ring
and at its first one after a reset steps its machine time by the offset that it shows, and without one falls over to
the other ring or into HOLDOVER; a PDELAY request is answered with the turnaround, and an answer gives one
measurement. Each of these commands completes, with exec answering a next state, under conditions on the state and the
operands alone: syncPeriod, sync, syncTimeout, pdelayMeasure, pdelayReq, pdelayResp. -/
def Obligations.RingTimeFrames : Prop :=
  (∀ (s : State) (t : Nat), s.inRing = true → s.role = 2 → s.get F.TIM_STAT_VALID = 1 →
    (∀ w, s.kor.lastOwn = some w → w + us (max 1 (s.get F.TIM_CTL_PERIOD)) ≤ max s.clk.now t) → RingIdle s t →
    ∃ u, exec (.syncPeriod t) s = .next u ∧ u.kor.lastOwn = some (max s.clk.now t) ∧ u.mem = s.mem ∧
      (let x := (s.at t).ticks.mtFr (max s.clk.now t) g25
      u.out = s.out ++ [.ring 0 (s.get F.KOR_DEV_DEVICE) 0 s.kor.seq true 0 (.sync (x / 2 ^ 16) (x % 2 ^ 16) 0),
        .ring 1 (s.get F.KOR_DEV_DEVICE) 0 s.kor.seq true 0 (.sync (x / 2 ^ 16) (x % 2 ^ 16) 0)])) ∧
  (∀ (s : State) (t ns fr dep : Nat) (corr : Int) (h : RingHdr), RingTakes s h → s.role = 1 →
    s.kor.order.head?.map TopoEntry.device = some h.src.val →
    ∃ u, exec (.sync t h ns fr corr dep) s = .next u ∧ u.kor.lastSync.get h.ring.val 0 = max s.clk.now t ∧
      u.get F.TIM_STAT_HOLDOVER = 0 ∧ u.mem = s.mem ∧
      (s.get F.TIM_CTL_AUTO = 1 → s.get F.TIM_STAT_RING = h.ring.val → s.kor.stepped = false →
        u.kor.stepped = true ∧ u.get F.TIM_STAT_VALID = 1 ∧ u.get F.TIM_STAT_LOCKED = 0 ∧
        (let r := (s.at t).ticks
         let o : Int := (r.mtFr (max s.clk.now t) g25 : Int) -
           ((ns * 65536 + fr : Nat) + corr + s.getS (F.KOR_PDELAY h.ring.val))
        (u.mtAt (max s.clk.now t) : Int) = ((r.mtAt (max s.clk.now t) : Int) - o * 2 ^ 16) % 2 ^ 96))) ∧
  (∀ (s : State) (t r : Nat), s.domUp .ring = true → s.role = 1 → s.get F.TIM_STAT_RING = r → r ≤ 1 →
    s.kor.lastSync.get r 0 + us (3 * max 1 (s.get F.TIM_CTL_PERIOD)) ≤ max s.clk.now t →
    ∃ u, exec (.syncTimeout t) s = .next u ∧ u.mem = s.mem ∧
      if max s.clk.now t < s.kor.lastSync.get (1 - r) 0 + us (3 * max 1 (s.get F.TIM_CTL_PERIOD)) then
        u.get F.TIM_STAT_RING = 1 - r ∧ u.get F.TIM_STAT_HOLDOVER = s.get F.TIM_STAT_HOLDOVER
      else u.get F.TIM_STAT_RING = r ∧
        (s.get F.TIM_STAT_HOLDOVER = 0 → u.get F.TIM_STAT_HOLDOVER = 1 ∧ u.get F.TIM_STAT_LOCKED = 0)) ∧
  (∀ (s : State) (t : Nat) (p : Fin 2), s.inRing = true →
    (∀ w, (s.ringIn p).asked = some w → w + ms 1 ≤ max s.clk.now t) → RingIdle s t →
    ∃ u, exec (.pdelayMeasure t p) s = .next u ∧ (u.ringIn p).asked = some (max s.clk.now t) ∧
      (u.ringIn p).req = some (s.kor.seq, (s.at t).mtFr (max s.clk.now t) g25) ∧
      u.out = s.out ++ [.ring (1 - p.val) (s.get F.KOR_DEV_DEVICE) 0 s.kor.seq false 0 .pdReq] ∧ u.regs = s.regs ∧
      u.mem = s.mem) ∧
  (∀ (s : State) (t dep : Nat) (h : RingHdr), s.inRing = true → h.good = true → h.whole = true →
    (s.ringIn h.ring.val).badRun = 0 → RingIdle s t →
    ∃ u, exec (.pdelayReq t h dep) s = .next u ∧ u.regs = s.regs ∧ u.mem = s.mem ∧
      u.out = s.out ++ [.ring (1 - h.ring.val) (s.get F.KOR_DEV_DEVICE) 0 s.kor.seq false 0
        (.pdResp h.seq.val ((s.mtFr (max dep (max s.clk.now t)) g25 : Int) - (s.mtFr (max s.clk.now t) g25 : Int)))]) ∧
  (∀ (s : State) (t q t1 : Nat) (turn : Int) (h : RingHdr), s.inRing = true → h.good = true → h.whole = true →
    (s.ringIn h.ring.val).req = some (q, t1) →
    ∃ u, exec (.pdelayResp t h q turn) s = .next u ∧ (u.ringIn h.ring.val).req = none ∧
      (u.ringIn h.ring.val).meas = ((((s.mtFr (max s.clk.now t) g25 : Int) - (t1 : Int) - turn)
        + (2 : Int) * s.getS (F.KOR_ASYM h.ring.val)) :: (s.ringIn h.ring.val).meas).take 16 ∧
      u.get (F.KOR_PDELAY h.ring.val) = tc 32 (rhu ((u.ringIn h.ring.val).meas.foldl (· + ·) 0)
        (2 * (u.ringIn h.ring.val).meas.length)) ∧ u.mem = s.mem)

/-- Machine time (R481, R482, R490, R491): n ticks of CK_RING add n times the increment modulo 2^96, TIM_SET is loaded
at once or at SYNC_IN, TIM_ADJ is added at once, an edge of SYNC_IN is stamped, and a mark pulses SYNC_OUT. IEEE 1588
(R492, R493, R512): while enabled, an event message of the domain, transport and delay mechanism in TIM_PTP_CTL is
stamped into the receive FIFO when received, with the PTP time less the receive latency; a transmitted Delay_Req or
Pdelay_Req goes into the transmit FIFO with the PTP time and the transmit latency, a one-step Sync leaves with that
time as its origin timestamp, and over UDP with checksum 0; any other message passes as it is; after the last entry
the ID registers read 0. Each of these commands completes, with exec answering a next state, under conditions on the
state and the operands alone: timeTick, timeSetNow, timAdj, atSyncIn, syncInEdge, syncOutMark, ptpEventRx, ptpEventTx,
ptpStampPop. -/
def Obligations.MachineTime : Prop :=
  (∀ (s : State) (t : Nat), s.domUp .ring = true → s.clk.mtime < 2 ^ 96 →
    ∃ u, exec (.timeTick t) s = .next u ∧ u.mem = s.mem ∧
      (let n := (max s.clk.now t - s.clk.tickAt) / 2048
       let inc := if s.role = 1 ∧ s.get F.TIM_CTL_AUTO ≠ 0 then s.get F.TIM_INC_EFF else s.get F.TIM_INC
       u.clk.mtime = (s.clk.mtime + n * inc) % 2 ^ 96 ∧ u.clk.tickAt = s.clk.tickAt + n * 2048) ∧
      KeepsFields [F.TIM_INC_EFF] s u) ∧
  (∀ (s : State) (m : Fin 9), s.domUp .ring = true →
    ∃ u, exec (.timeSetNow m) s = .next u ∧ u.get F.TIM_STAT_VALID = 1 ∧ u.mem = s.mem ∧
      u.mtAt u.clk.now = (s.get F.TIM_SET * 2 ^ 32 + s.get F.TIM_SET_FR * 2 ^ 16) % 2 ^ 96) ∧
  (∀ (s : State) (m : Fin 9) (v : BitVec 32), s.domUp .ring = true →
    ∃ u, exec (.timAdj m v) s = .next u ∧ u.mem = s.mem ∧
      (u.mtAt u.clk.now : Int) = ((s.ticks.mtAt s.clk.now : Int) + v.toInt * 2 ^ 16) % 2 ^ 96) ∧
  (∀ (s : State) (m : Fin 9), s.domUp .ring = true →
    ∃ u, exec (.atSyncIn m) s = .next u ∧ u.kor.setArmed = true ∧ u = { s with kor := u.kor }) ∧
  (∀ (s : State) (t : Nat), s.domUp .ring = true → (∀ e, s.kor.lastEdge = some e → e + us 1 ≤ max s.clk.now t) →
    ∃ u, exec (.syncInEdge t) s = .next u ∧ u.kor.lastEdge = some (max s.clk.now t) ∧ u.kor.setArmed = false ∧
      u.mem = s.mem ∧ (s.kor.setArmed = true → u.get F.TIM_STAT_VALID = 1 ∧
        u.mtAt u.clk.now = (s.get F.TIM_SET * 2 ^ 32 + s.get F.TIM_SET_FR * 2 ^ 16) % 2 ^ 96) ∧
      (s.get F.KOR_SYNC_CTL_IN_EN = 1 →
        u.get F.TIM_SYNCIN = s.mtFr (max s.clk.now t) g50 / 2 ^ 16 % 2 ^ 64 ∧
        u.get F.TIM_SYNCIN_FR = s.mtFr (max s.clk.now t) g50 % 2 ^ 16 ∧
        u.get F.TIM_SYNCIN_CNT = min (s.get F.TIM_SYNCIN_CNT + 1) (2 ^ 32 - 1))) ∧
  (∀ (s : State) (t : Nat), s.domUp .ring = true → s.get F.KOR_SYNC_CTL_OUT = 2 →
    s.mtNs (max s.clk.now t) g50 % (1000 * max 1 (s.get F.TIM_MARK_PERIOD)) = 0 →
    ∃ u, exec (.syncOutMark t) s = .next u ∧ u.out = s.out ++ [.syncOut (max s.clk.now t)] ∧
      u = { s with clk := u.clk, out := u.out }) ∧
  (∀ (s : State) (t q : Nat) (f : PtpFrame), s.ptpMine f = true → s.kor.ptpRx.length < 16 →
    ∃ u, exec (.ptpEventRx t f q) s = .next u ∧
      (let p := ptpLess (s.ptpTime (max s.clk.now t)) (s.get F.TIM_PTP_LAT_RX)
      u.kor.ptpRx = s.kor.ptpRx ++ [⟨f.typ, q % 2 ^ 16, p.1, p.2.1, p.2.2⟩] ∧ p.2.1 < 10 ^ 9 ∧ p.2.2 < 2 ^ 16) ∧
      u.get F.TIM_PTP_RX_ID_VALID = 1 ∧ u.mem = s.mem) ∧
  (∀ (s : State) (t q : Nat) (f : PtpFrame) (two : Bool) (corr : Int), s.ptpMine f = true →
    f.typ = 1 ∨ f.typ = 2 → s.kor.ptpTx.length < 16 →
    ∃ u p, exec (.ptpEventTx t f q two corr) s = .next u ∧ u.kor.ptpTx = s.kor.ptpTx ++ [p] ∧ p.typ = f.typ ∧
      p.seqId = q % 2 ^ 16 ∧ p.ns < 10 ^ 9 ∧ p.fr < 2 ^ 16 ∧
      (let c := s.ptpTime (max s.clk.now t)
      (p.sec * 10 ^ 9 + p.ns) * 2 ^ 16 + p.fr = (c.1 * 10 ^ 9 + c.2.1) * 2 ^ 16 + c.2.2 + s.get F.TIM_PTP_LAT_TX * 2 ^ 8) ∧
      u.get F.TIM_PTP_TX_ID_VALID = 1 ∧ u.mem = s.mem) ∧
  (∀ (s : State) (t q : Nat) (f : PtpFrame) (corr : Int), s.ptpMine f = true → f.typ = 0 →
    ∃ u a b, exec (.ptpEventTx t f q false corr) s = .next u ∧
      u.out = s.out ++ [.ptp { f with udp := f.udp.map (fun _ => 0) } (q % 2 ^ 16) a b corr] ∧
      (let c := s.ptpTime (max s.clk.now t)
      a * 10 ^ 9 + b = ((c.1 * 10 ^ 9 + c.2.1) * 2 ^ 16 + c.2.2 + s.get F.TIM_PTP_LAT_TX * 2 ^ 8) / 2 ^ 16) ∧
      b < 10 ^ 9 ∧ u = { s with clk := u.clk, out := u.out }) ∧
  (∀ (s : State) (t q : Nat) (f : PtpFrame) (two : Bool) (corr : Int), s.ptpMine f = false →
    (∃ u, exec (.ptpEventRx t f q) s = .next u ∧ u = { s with clk := u.clk }) ∧
    ∃ u, exec (.ptpEventTx t f q two corr) s = .next u ∧ u = { s with clk := u.clk, out := u.out } ∧
      u.out = s.out ++ [.ptp f (q % 2 ^ 16) 0 0 corr]) ∧
  (∀ (s : State) (m : Fin 9) (p : PtpStamp), s.domUp .ring = true →
    (s.kor.ptpRx = [p] → ∃ u, exec (.ptpStampPop m false) s = .next u ∧ u.kor.ptpRx = [] ∧
      u.get F.TIM_PTP_RX_ID_VALID = 0 ∧ u.get F.TIM_PTP_RX_ID_TYPE = 0 ∧ u.get F.TIM_PTP_RX_ID_SEQ_ID = 0) ∧
    (s.kor.ptpTx = [p] → ∃ u, exec (.ptpStampPop m true) s = .next u ∧ u.kor.ptpTx = [] ∧
      u.get F.TIM_PTP_TX_ID_VALID = 0 ∧ u.get F.TIM_PTP_TX_ID_TYPE = 0 ∧ u.get F.TIM_PTP_TX_ID_SEQ_ID = 0))

/-- Ring launches (R495 to R499): GO tells why it is refused or broadcasts the LAUNCH, a LAUNCH that names the current
stripe is held until its deadline, and its result is then reported; a REPORT notes its sender. Each of these commands
completes, with exec answering a next state, under conditions on the state and the operands alone: launchGo, launch,
launchDeadline, report, mail, faultEvent. -/
def Obligations.RingLaunches : Prop :=
  (∀ (s : State) (m : Fin 9) (time : Bool), s.domUp .ring = true →
    ∃ u, exec (.launchGo m time) s = .next u ∧ u.get F.KOR_LAUNCH_STAT_VALID = 1 ∧ u.mem = s.mem ∧
      u.get F.KOR_LAUNCH_STAT_INIT =
        (if s.admitted = false then 4 else if s.locked = false then 3
         else if s.get F.KOR_LAUNCH_DL * 2 ^ 32 < s.mtAt (s.clk.now / g25 * g25) + 1000 * s.get F.KOR_LAUNCH_MIN * 2 ^ 32 ∨
           (time = true ∧ s.get F.KOR_LAUNCH_POS < s.get F.KOR_LAUNCH_DL + 10000) then 2 else 1) ∧
      (u.get F.KOR_LAUNCH_STAT_INIT = 1 → s.inRing = true → RingIdle s s.clk.now → ∀ r, r < 2 →
        Tx.ring r (s.get F.KOR_DEV_DEVICE) 0 s.kor.seq true 0 (.launch (s.launchMsg time)) ∈ u.out)) ∧
  (∀ (s : State) (t : Nat) (h : RingHdr) (g : LaunchMsg) (x : Stripe), RingTakes s h → bitOf g.group s.device = true →
    s.named g = some x → s.heldNames = false → s.mtReached (max s.clk.now t) g.deadline = false →
    (s.ringIn h.ring.val).badRun = 0 →
    ∃ u, exec (.launch t h g) s = .next u ∧ u.kor.held = some ⟨h.src.val, h.seq.val, g⟩ ∧
      u.get F.KOR_LAUNCH_STAT_HELD = 1 ∧ u.asy = s.asy ∧ u.mem = s.mem ∧ KeepsFields [F.KOR_LAUNCH_STAT_HELD] s u) ∧
  (∀ (s : State) (t : Nat) (h : HeldLaunch), s.kor.held = some h → s.domUp .ring = true →
    s.mtReached (max s.clk.now t) h.msg.deadline = true →
    ∃ u, exec (.launchDeadline t) s = .next u ∧ u.kor.held = none ∧ u.get F.KOR_LAUNCH_STAT_HELD = 0 ∧
      u.get F.KOR_LAUNCH_STAT_RESULT = (s.at t).launchEval h.msg ∧ u.get F.KOR_LAUNCH_STAT_VALID = 1 ∧ u.mem = s.mem ∧
      ((s.at t).launchEval h.msg = 0 → u.asy.awaitLaunch = false ∧ ∀ a, u.esc.att = some a → a.launched = true) ∧
      ∀ (x : Stripe) (r : Nat), s.cur = some x → h.src ≠ s.device → s.inRing = true → RingIdle s t → s.route h.src = some r →
        Tx.ring r s.device h.src s.kor.seq false 0 (.report ⟨(s.at t).launchEval h.msg, h.lseq, h.msg.layer, h.msg.mend,
          h.msg.stripes.getD s.device 0, s.launchPos x (x.attemptShot s.cyc)⟩) ∈ u.out.drop s.out.length) ∧
  (∀ (s : State) (t : Nat) (h : RingHdr) (g : ReportMsg), RingTakes s h →
    ∃ u, exec (.report t h g) s = .next u ∧ u.mem = s.mem ∧
      u.get F.KOR_REP_ACC = (if g.result = 0 then (s.get F.KOR_REP_ACC ||| 2 ^ h.src.val) % 2 ^ 64 else s.get F.KOR_REP_ACC) ∧
      u.get F.KOR_REP_REF =
        (if g.result = 0 then s.get F.KOR_REP_REF else (s.get F.KOR_REP_REF ||| 2 ^ h.src.val) % 2 ^ 64)) ∧
  (∀ (s : State) (t : Nat) (h : RingHdr) (port mlen : Nat) (data : List Byte), RingTakes s h → port < 8 →
    mlen ≤ data.length → (s.ringIn h.ring.val).badRun = 0 → RingIdle s t →
    ∃ u, exec (.mail t h ⟨port, mlen⟩ data) s = .next u ∧ u.kor.mail = s.kor.mail ++ [(port, data.take mlen)] ∧
      u.regs = s.regs ∧ u.mem = s.mem) ∧
  (∀ (s : State) (t : Nat) (h : RingHdr) (g : FaultMsg), RingTakes s h → s.domUp .ctrl = true → s.get F.DBK_RATE_N = 0 →
    (s.wsrc 0x67).queue.length < 16 →
    ∃ u, exec (.faultEvent t h g) s = .next u ∧ (u.wsrc 0x67).queue = (s.wsrc 0x67).queue ++ [⟨0, 0⟩] ∧
      u.get F.DBK_SEQ = (s.get F.DBK_SEQ + 1) % 2 ^ 32 ∧ u.mem = s.mem)

/-- Halos on the ring (R500 to R505): a block of a new body takes a free slot and is stored there, a body already
accepted is acknowledged again with a HALO ACK, an acknowledgement moves or ends the body it names, a time-out sends
again from block NEXT until the eighth gives it up, and RESEND sends a side's last body under a new HALO_ID. Each of
these commands completes, with exec answering a next state, under conditions on the state and the operands alone:
haloData, haloAck, haloTimeout, resendYhi, resendYlo. -/
def Obligations.RingHalos : Prop :=
  (∀ (s : State) (t id block nblk i : Nat) (h : RingHdr) (data : List Byte), RingTakes s h →
    s.kor.haloDone.contains (h.src.val, id) = false →
    s.kor.slots.find? (fun r => r.src == h.src.val && r.id == id && !r.accepted) = none →
    (List.range s.haloSlots).find? (fun k => !s.kor.slots.any (fun r => r.slot == k)) = some i → block < nblk → 2 ≤ nblk →
    haloBlock * block + data.length ≤ haloSlotSize → s.memUp = true → s.mem.poison = [] →
    s.mem.hurt = [] →
    ∃ u r, exec (.haloData t h id block nblk data) s = .next u ∧ r ∈ u.kor.slots ∧ r.slot = i ∧ r.src = h.src.val ∧
      r.id = id ∧ r.nblk = nblk ∧ r.have_ = [block] ∧ r.accepted = false ∧
      u.get F.KOR_HALO_STAT_USED = u.kor.slots.length % 2 ^ 4 ∧
      u.rd (s.slotAddr i + haloBlock * block) data.length = data ∧
      ∀ a, a < s.slotAddr i + haloBlock * block ∨ s.slotAddr i + haloBlock * block + data.length ≤ a →
        cellGet u.mem.cells a = cellGet s.mem.cells a) ∧
  (∀ (s : State) (t id block nblk : Nat) (h : RingHdr) (data : List Byte), RingTakes s h →
    s.kor.haloDone.contains (h.src.val, id) = true →
    ∃ u, exec (.haloData t h id block nblk data) s = .next u ∧ u.kor.slots = s.kor.slots ∧ u.mem = s.mem ∧
      ∀ r, h.bcast = false → (s.ringIn h.ring.val).badRun = 0 → RingIdle s t → s.route h.src.val = some r →
        u.regs = s.regs ∧ u.out = s.out ++ [.ring r (s.get F.KOR_DEV_DEVICE) h.src.val s.kor.seq false 0
          (.haloAck true false id nblk)]) ∧
  (∀ (s : State) (t id next : Nat) (h : RingHdr) (b : HaloTx), RingTakes s h →
    s.kor.haloTx.find? (fun b => b.active && b.id == id && b.dst == h.src.val) = some b →
    (∃ u, exec (.haloAck t h true false id next) s = .next u ∧ (∀ x, x ∈ u.kor.haloTx → x.id = id → x.active = false) ∧
      u.mem = s.mem) ∧
    (∃ u, exec (.haloAck t h false true id next) s = .next u ∧ (∀ x, x ∈ u.kor.haloTx → x.id = id → x.active = false) ∧
      u.get (if b.hi then F.KOR_HALO_STAT_TX_FAIL_YHI else F.KOR_HALO_STAT_TX_FAIL_YLO) = 1 ∧ u.mem = s.mem) ∧
    (b.next < next → ∃ u x, exec (.haloAck t h false false id next) s = .next u ∧ x ∈ u.kor.haloTx ∧ x.id = id ∧
      x.next = next ∧ x.lastAdv = max s.clk.now t ∧ x.tmos = 0 ∧ u.mem = s.mem)) ∧
  (∀ (s : State) (t : Nat) (hi : Bool) (b : HaloTx), s.kor.haloTx.find? (fun b => b.active && b.hi == hi
      && decide (b.lastAdv + us (s.get F.KOR_HALO_TMO) ≤ max s.clk.now t)) = some b →
    ∃ u x, exec (.haloTimeout t hi) s = .next u ∧ x ∈ u.kor.haloTx ∧ x.id = b.id ∧ u.mem = s.mem ∧
      if b.tmos < 7 then x.active = true ∧ x.tmos = b.tmos + 1 ∧ x.lastAdv = max s.clk.now t ∧
        (s.inRing = true → b.next < b.nblk → RingIdle s t → ∀ r, s.route b.dst = some r →
          x.sent = max b.next (min b.nblk (b.next + 128)) ∧
          u.get F.KOR_HALO_RETX = min (s.get F.KOR_HALO_RETX + (min x.sent b.top - b.next)) (2 ^ 32 - 1) ∧
          u.out = s.out ++ [.ring r (s.get F.KOR_DEV_DEVICE) b.dst s.kor.seq false 0
            (.haloData b.id b.next b.nblk ((b.body.drop (haloBlock * b.next)).take haloBlock))])
      else x.active = false ∧ u.get (if b.hi then F.KOR_HALO_STAT_TX_FAIL_YHI else F.KOR_HALO_STAT_TX_FAIL_YLO) = 1) ∧
  (∀ (s : State) (m : Fin 9) (hi : Bool) (b : HaloTx) (c : Instr), s.domUp .ring = true →
    (s.kor.haloTx.filter (fun b => b.hi == hi)).getLast? = some b →
    c = (if hi then .resendYhi m else .resendYlo m) →
    ∃ u x, exec c s = .next u ∧ x ∈ u.kor.haloTx ∧ x.id = s.kor.haloId ∧ x.hi = hi ∧ x.dst = b.dst ∧ x.body = b.body ∧
      x.active = true ∧ x.next = 0 ∧ u.kor.haloId = (s.kor.haloId + 1) % 2 ^ 16 ∧ u.mem = s.mem ∧
      (s.inRing = true → b.body ≠ [] → RingIdle s s.clk.now → ∀ r, s.route b.dst = some r →
        u.out = s.out ++ [.ring r (s.get F.KOR_DEV_DEVICE) b.dst s.kor.seq false 0
          (.haloData x.id 0 b.nblk (b.body.take haloBlock))]))

/-- DOORBELL (R525, R528, R536 to R539): an idle, enabled channel reads the descriptor at its HEAD, a running one
notes the bell, a parked one reads on, a stopped or disabled one ignores it. Each of these commands completes, with
exec answering a next state, under conditions on the state and the operands alone: doorbell. -/
def Obligations.DoorbellStartsChannel : Prop :=
  (∀ (s : State) (m : Fin 9) (n : Fin 16), s.domUp .host = true → s.get (F.PRT_CH_STAT_STATE n) = 0 →
    s.get (F.PRT_CH_CTL_EN n) = 1 →
    ∃ u, exec (.doorbell m n) s = .next u ∧ u.get (F.PRT_CH_STAT_STATE n) = 1 ∧
      u.get (F.PRT_CH_CUR n) = s.get (F.PRT_CH_HEAD n) % 2 ^ 64 ∧ (u.chan n).ph = .rdDesc (s.get (F.PRT_CH_HEAD n)) ∧
      (u.chan n).count = 1 ∧ u.out = s.out ++ [.hostRd n (s.get (F.PRT_CH_HEAD n)) 32] ∧
      KeepsFields [F.PRT_CH_STAT_STATE n, F.PRT_CH_CUR n] s u ∧ u = { s with regs := u.regs, prt := u.prt, out := u.out }) ∧
  (∀ (s : State) (m : Fin 9) (n : Fin 16), s.domUp .host = true → s.get (F.PRT_CH_STAT_STATE n) = 1 →
    ∃ u, exec (.doorbell m n) s = .next u ∧ u.get (F.PRT_CH_STAT_DB_PEND n) = 1 ∧ (u.chan n).ph = (s.chan n).ph ∧
      (u.chan n).count = 0 ∧ KeepsFields [F.PRT_CH_STAT_DB_PEND n] s u ∧ u = { s with regs := u.regs, prt := u.prt }) ∧
  (∀ (s : State) (m : Fin 9) (n : Fin 16), s.domUp .host = true → s.get (F.PRT_CH_STAT_STATE n) = 2 →
    ∃ u, exec (.doorbell m n) s = .next u ∧ u.get (F.PRT_CH_STAT_STATE n) = 1 ∧ (u.chan n).ph = .rdLink (s.chan n).parked ∧
      u.out = s.out ++ [.hostRd n ((s.chan n).parked + 24) 8] ∧
      KeepsFields [F.PRT_CH_STAT_STATE n, F.PRT_CH_STAT_DB_PEND n] s u ∧ u.mem = s.mem) ∧
  (∀ (s : State) (m : Fin 9) (n : Fin 16), s.domUp .host = true → s.get (F.PRT_CH_STAT_STATE n) = 3 →
    ∃ u, exec (.doorbell m n) s = .next u ∧ u.get (F.PRT_CH_STAT_STATE n) = 1 ∧ (u.chan n).ph = .rdDesc (s.chan n).parked ∧
      (u.chan n).count = 0 ∧ u.out = s.out ++ [.hostRd n (s.chan n).parked 32] ∧ u.mem = s.mem) ∧
  (∀ (s : State) (m : Fin 9) (n : Fin 16), s.domUp .host = true →
    s.get (F.PRT_CH_STAT_STATE n) = 4 ∨ (s.get (F.PRT_CH_STAT_STATE n) = 0 ∧ s.get (F.PRT_CH_CTL_EN n) = 0) →
    exec (.doorbell m n) s = .next s)

/-- DESCRIPTOR_READ (R526 to R528, R536, R537, R539, R541): a descriptor whose OWN is 0 parks the channel, one that
fails a check stops it with the check's code, a good one starts its transfer; at a LINK that ends the chain the
channel parks, at one to another descriptor it reads that one, at one to itself or beyond the limit it stops with code
4. Each of these commands completes, with exec answering a next state, under conditions on the state and the operands
alone: descriptorRead. -/
def Obligations.DescriptorsRead : Prop :=
  (∀ (s : State) (t : Nat) (n : Fin 16) (d : DescBytes) (a : Nat), s.domUp .host = true → (s.chan n).ph = .rdDesc a →
    bitOf (descOf a (padTo 32 d)).ctlRaw 31 = false → s.get (F.PRT_CH_STAT_DB_PEND n) = 0 →
    ∃ u, exec (.descriptorRead t n d) s = .next u ∧ u.get (F.PRT_CH_STAT_STATE n) = 3 ∧ (u.chan n).parked = a ∧
      (u.chan n).ph = .none ∧ u = { s with clk := u.clk, regs := u.regs, prt := u.prt }) ∧
  (∀ (s : State) (t : Nat) (n : Fin 16) (d : DescBytes) (a c : Nat), s.domUp .host = true → (s.chan n).ph = .rdDesc a →
    bitOf (descOf a (padTo 32 d)).ctlRaw 31 = true → s.descErr (descOf a (padTo 32 d)) (leAt (padTo 32 d) 24 8) = c → c ≠ 0 →
    ∃ u, exec (.descriptorRead t n d) s = .next u ∧ u.get (F.PRT_CH_STAT_STATE n) = 4 ∧ u.get (F.PRT_CH_ERR_CODE n) = c ∧
      u.get (F.PRT_CH_ERR_VALID n) = 1 ∧ u.get (F.PRT_CH_ERR_DESC n) = a % 2 ^ 64 ∧ (u.chan n).ph = .none ∧ u.mem = s.mem) ∧
  (∀ (s : State) (t : Nat) (n : Fin 16) (b : DescBytes) (a : Nat) (d : Desc), s.domUp .host = true →
    (s.chan n).ph = .rdDesc a → d = descOf a (padTo 32 b) → bitOf d.ctlRaw 31 = true →
    s.descErr d (leAt (padTo 32 b) 24 8) = 0 →
    ∃ u, exec (.descriptorRead t n b) s = .next u ∧ u = { s with clk := u.clk, prt := u.prt } ∧
      (u.chan n).ph = (if d.kind = 2 then .lueth d 1 else .move d) ∧ (u.chan n).todo = bursts d.host d.bytes) ∧
  (∀ (s : State) (t : Nat) (n : Fin 16) (b : DescBytes) (a : Nat), s.domUp .host = true → (s.chan n).ph = .rdLink a →
    bits (leAt b 0 8) 0 1 = 0 → s.get (F.PRT_CH_STAT_DB_PEND n) = 0 →
    ∃ u, exec (.descriptorRead t n b) s = .next u ∧ u.get (F.PRT_CH_STAT_STATE n) = 2 ∧ (u.chan n).parked = a ∧
      (u.chan n).ph = .none ∧ u.out = s.out ∧ u.mem = s.mem) ∧
  (∀ (s : State) (t : Nat) (n : Fin 16) (b : DescBytes) (a next : Nat), s.domUp .host = true → (s.chan n).ph = .rdLink a →
    bits (leAt b 0 8) 0 1 = 1 → bits (leAt b 0 8) 1 4 = 0 → next = leAt b 0 8 / 32 * 32 →
    ∃ u, exec (.descriptorRead t n b) s = .next u ∧ u.mem = s.mem ∧
      if next = a ∨ s.get (F.PRT_CH_LIMIT n) < (s.chan n).count + 1 then
        u.get (F.PRT_CH_STAT_STATE n) = 4 ∧ u.get (F.PRT_CH_ERR_CODE n) = 4 ∧ (u.chan n).ph = .none
      else u.get (F.PRT_CH_STAT_STATE n) = 1 ∧ (u.chan n).ph = .rdDesc next ∧
        (u.chan n).count = (s.chan n).count + 1 ∧ u.out = s.out ++ [.hostRd n next 32])

/-- DESCRIPTOR_COMPLETE (R524, R529, R532 to R534): COPY_IN writes its bytes to HBM, COPY_OUT sends the bytes of HBM
burst by burst; the channel then reads the descriptor's LINK, channels 0 to 11 counting it in DONE and channels 12 to
15 writing its status back; the arbiter grants the highest level that has a burst ready, and within it in ascending
order after the channel granted last. Each of these commands completes, with exec answering a next state, under
conditions on the state and the operands alone: descriptorComplete. -/
def Obligations.DescriptorsComplete : Prop :=
  (∀ (s : State) (t : Nat) (n : Fin 16) (b : List Byte) (d : Desc), s.domUp .host = true → s.memUp = true →
    (s.chan n).ph = .move d → d.kind = 0 → n.val < 12 → s.get (F.PRT_CH_STAT_STATE n) = 1 →
    s.get (F.PRT_CH_CTL_PRIO n) < 4 → (∀ m, m < 16 → m ≠ n.val → s.chReady m = false) →
    ∃ u, exec (.descriptorComplete t n b) s = .next u ∧ u.mem = (s.wr 0 d.arg (padTo d.bytes b)).mem ∧
      u.get (F.PRT_CH_DONE n) = (s.get (F.PRT_CH_DONE n) + 1) % 2 ^ 32 ∧ u.get (F.PRT_CH_STAT_STATE n) = 1 ∧
      u.get (F.PRT_CH_STAT_DB_PEND n) = 0 ∧ (u.chan n).ph = .rdLink d.addr ∧
      u.out = s.out ++ (s.chan n).todo.map (fun p => .hostRd n (d.host + p.1) p.2) ++ [.hostRd n (d.addr + 24) 8]) ∧
  (∀ (s : State) (t : Nat) (n : Fin 16) (b : List Byte) (d : Desc), s.domUp .host = true → s.memUp = true →
    (s.chan n).ph = .move d → d.kind = 1 → 12 ≤ n.val → d.irq = false → s.get (F.PRT_CH_STAT_STATE n) = 1 →
    s.get (F.PRT_CH_CTL_PRIO n) < 4 → (∀ m, m < 16 → m ≠ n.val → s.chReady m = false) →
    (∀ p ∈ (s.chan n).todo, s.readsClean 0 (d.arg + p.1) p.2 = true) →
    ∃ u, exec (.descriptorComplete t n b) s = .next u ∧ u.mem = s.mem ∧ (u.chan n).ph = .rdLink d.addr ∧
      u.get (F.PRT_CH_DONE n) = s.get (F.PRT_CH_DONE n) ∧
      u.out = s.out ++ (s.chan n).todo.map (fun p => .hostWr (d.host + p.1) (s.rd (d.arg + p.1) p.2)) ++
        [.hostWr (d.addr + 20) (leBytes 4 (4096 + 2 ^ 31)), .hostWr (d.addr + 16) (leBytes 4 (2 ^ 24)),
          .hostRd n (d.addr + 24) 8]) ∧
  (∀ (s : State) (t : Nat) (n : Fin 16) (b : List Byte) (d : Desc) (code cause tries : Nat), s.domUp .host = true →
    (s.chan n).ph = .checked d code cause tries → 12 ≤ n.val → d.irq = false → d.kind = 2 → code < 256 → cause < 16 →
    tries < 16 →
    ∃ u, exec (.descriptorComplete t n b) s = .next u ∧ u.mem = s.mem ∧ (u.chan n).ph = .rdLink d.addr ∧
      (code ≠ 0 → u.get (F.PRT_CH_ERR_CODE n) = code ∧ u.get (F.PRT_CH_ERR_CAUSE n) = cause ∧
        u.get (F.PRT_CH_ERR_VALID n) = 1) ∧
      u.out = s.out ++ [.hostWr (d.addr + 20) (leBytes 4 (code + cause * 256 + tries * 4096 + 2 ^ 31)),
        .hostWr (d.addr + 16) (leBytes 4 (2 * 2 ^ 24)), .hostRd n (d.addr + 24) 8]) ∧
  (∀ (s : State) (n : Nat), s.chNext = some n → n < 16 ∧ s.chReady n = true ∧
    ∀ m, m < 16 → s.chReady m = true → s.get (F.PRT_CH_CTL_PRIO m) < 4 →
      s.get (F.PRT_CH_CTL_PRIO m) ≤ s.get (F.PRT_CH_CTL_PRIO n) ∧
      (s.get (F.PRT_CH_CTL_PRIO m) = s.get (F.PRT_CH_CTL_PRIO n) →
        (n + 15 * (s.prt.last.get (s.get (F.PRT_CH_CTL_PRIO n)) 15 + 1)) % 16 ≤
          (m + 15 * (s.prt.last.get (s.get (F.PRT_CH_CTL_PRIO n)) 15 + 1)) % 16)) ∧
  (∀ (host n : Nat), ((bursts host n).map Prod.snd).sum = n ∧ ∀ p ∈ bursts host n, p.2 ≤ 512 ∧ p.1 + p.2 ≤ n ∧
    (p.2 ≠ 0 → (host + p.1) / 512 = (host + p.1 + p.2 - 1) / 512))

/-- UNREACHABLE (R518, R535, R540, R541): a completion that times out or comes with an error, a link that falls and a
cleared BME stop what runs with code 5 and their detail, the whole units of 64 bytes carried reaching HBM; ABORT stops
with code 7, a COPY_OUT burst that reads poison before either with code 6, and RESET makes a stopped channel idle.
Each of these commands completes, with exec answering a next state, under conditions on the state and the operands
alone: completionTimeout, completionError, hostLinkDown, bmeClear, chAbort, chReset. -/
def Obligations.ChannelsStop : Prop :=
  (∀ (s : State) (t k : Nat) (n : Fin 16) (b : List Byte) (c : Instr) (d : Desc), s.domUp .host = true →
    (c = .completionTimeout t n b ∧ k = 1 ∧ (s.chan n).since + ms (s.get F.PRT_HL_CTO) ≤ max s.clk.now t) ∨ (c = .completionError t n false b ∧ k = 2) ∨
      (c = .completionError t n true b ∧ k = 3) → (s.chan n).ph = .move d → d.kind = 0 → s.mem.hurt = [] →
    ∃ u, exec c s = .next u ∧ u.get (F.PRT_CH_STAT_STATE n) = 4 ∧ u.get (F.PRT_CH_ERR_CODE n) = 5 ∧
      u.get (F.PRT_CH_ERR_DETAIL n) = k ∧ u.get (F.PRT_CH_ERR_VALID n) = 1 ∧ (u.chan n).ph = .none ∧
      u.get (F.PRT_CH_RESIDUE n) = (d.len64 - min d.len64 (b.length / 64)) % 2 ^ 24 ∧
      u.mem = (s.wr 0 d.arg (b.take (64 * min d.len64 (b.length / 64)))).mem) ∧
  (∀ (s : State) (t : Nat) (l : List (Nat × List Byte)), s.domUp .host = true →
    ∃ u, exec (.hostLinkDown t l) s = .next u ∧ u.get F.PRT_HL_STAT_DL_UP = 0 ∧ u.get F.PRT_HL_STAT_WIDTH = 0 ∧
      u.get F.PRT_HL_STAT_SPEED = 0 ∧ ∀ n : Fin 16, (u.chan n).ph = .none ∧
        ((s.chan n).ph = .none → u.get (F.PRT_CH_STAT_STATE n) = s.get (F.PRT_CH_STAT_STATE n)) ∧
        ((s.chan n).ph ≠ .none → u.get (F.PRT_CH_STAT_STATE n) = 4 ∧ u.get (F.PRT_CH_ERR_VALID n) = 1 ∧
          ((u.get (F.PRT_CH_ERR_CODE n) = 5 ∧ u.get (F.PRT_CH_ERR_DETAIL n) = 4) ∨
            (u.get (F.PRT_CH_ERR_CODE n) = 6 ∧ ∃ d, (s.chan n).ph = .move d ∧ d.kind = 1)))) ∧
  (∀ (s : State) (t : Nat) (l : List (Nat × List Byte)), s.domUp .host = true →
    ∃ u, exec (.bmeClear t l) s = .next u ∧ u.get F.PRT_HL_STAT_BME = 0 ∧ ∀ n : Fin 16, (u.chan n).ph = .none ∧
      ((s.chan n).ph ≠ .none → u.get (F.PRT_CH_STAT_STATE n) = 4 ∧ u.get (F.PRT_CH_ERR_VALID n) = 1 ∧
        ((u.get (F.PRT_CH_ERR_CODE n) = 5 ∧ u.get (F.PRT_CH_ERR_DETAIL n) = 5) ∨
          (u.get (F.PRT_CH_ERR_CODE n) = 6 ∧ ∃ d, (s.chan n).ph = .move d ∧ d.kind = 1)))) ∧
  (∀ (s : State) (m : Fin 9) (n : Fin 16) (b : List Byte), s.domUp .host = true →
    s.get (F.PRT_CH_STAT_STATE n) = 0 ∨ (s.get (F.PRT_CH_STAT_STATE n) = 1 ∧ (s.chan n).ph ≠ .none) ∨
      s.get (F.PRT_CH_STAT_STATE n) = 2 ∨ s.get (F.PRT_CH_STAT_STATE n) = 3 →
    ∃ u, exec (.chAbort m n b) s = .next u ∧ u.get (F.PRT_CH_STAT_STATE n) = 4 ∧
      u.get (F.PRT_CH_ERR_VALID n) = 1 ∧ (u.chan n).ph = .none ∧ (u.get (F.PRT_CH_ERR_CODE n) = 7 ∨
        (u.get (F.PRT_CH_ERR_CODE n) = 6 ∧ ∃ d, (s.chan n).ph = .move d ∧ d.kind = 1))) ∧
  (∀ (s : State) (m : Fin 9) (n : Fin 16) (b : List Byte), s.domUp .host = true → s.get (F.PRT_CH_STAT_STATE n) = 4 →
    exec (.chAbort m n b) s = .next s ∧
    ∃ u, exec (.chReset m n) s = .next u ∧ u.get (F.PRT_CH_STAT_STATE n) = 0 ∧ u.get (F.PRT_CH_STAT_DB_PEND n) = 0 ∧
      u.chan n = ⟨.none, 0, 0, [], 0⟩ ∧ KeepsFields [F.PRT_CH_STAT_STATE n, F.PRT_CH_STAT_DB_PEND n] s u ∧
      u = { s with regs := u.regs, prt := u.prt }) ∧
  (∀ (s : State) (m : Fin 9) (n : Fin 16), s.domUp .host = true → s.get (F.PRT_CH_STAT_STATE n) ≠ 4 →
    exec (.chReset m n) s = .next s)

/-- LUETH_SEGMENT_CHECK (R106 to R108, R122): a segment that an early check turns away is rejected with that cause;
one that passes them is fetched again or rejected where its tag or its CRC-64 fails, and else enters the Copy buffer
with its plaintext, or counts as repeated where the buffer holds it. Each of these commands completes, with exec
answering a next state, under conditions on the state and the operands alone: luethSegmentCheck. -/
def Obligations.LuethSegmentsChecked : Prop :=
  (∀ (s : State) (t tries c : Nat) (n : Fin 16) (b : List Byte) (d : Desc), s.domUp .host = true → s.memUp = true →
    (s.chan n).ph = .lueth d tries → s.segEarly d (padTo d.bytes b) = c → c ≠ 0 → s.get (F.PRT_CH_STAT_STATE n) = 1 →
    s.get (F.PRT_CH_CTL_PRIO n) < 4 → (∀ m, m < 16 → m ≠ n.val → s.chReady m = false) →
    ∃ u, exec (.luethSegmentCheck t n b) s = .next u ∧ (u.chan n).ph = .checked d 8 c tries ∧
      u.get F.PRT_ING_REJECT = min (s.get F.PRT_ING_REJECT + 1) (2 ^ 32 - 1) ∧ u.get F.PRT_ING_ERR_CAUSE = c ∧
      u.get F.PRT_ING_ERR_CHANNEL = n.val ∧ u.get F.PRT_ING_ERR_VALID = 1 ∧
      u.get F.PRT_ING_ERR_SEQ = leAt (padTo d.bytes b) 24 8 % 2 ^ 64 ∧ u.copy = s.copy ∧ u.mem = s.mem ∧
      u.out = s.out ++ (s.chan n).todo.map (fun p => .hostRd n (d.host + p.1) p.2)) ∧
  (∀ (s : State) (t tries : Nat) (n : Fin 16) (b l : List Byte) (d : Desc), s.domUp .host = true → s.memUp = true →
    (s.chan n).ph = .lueth d tries → l = padTo d.bytes b → s.segEarly d l = 0 → s.mem.hurt = [] →
    ∃ u, exec (.luethSegmentCheck t n b) s = .next u ∧
      match s.segPlain l with
      | none => u.mem = s.mem ∧ (u.chan n).ph = if tries ≤ s.get F.PRT_ING_CTL_RETRY then .lueth d (tries + 1) else .checked d 8 6 tries
      | some p =>
        if segCrc (leAt l 24 8) p ≠ segCrcField p then u.copy = s.copy ∧ u.mem = s.mem ∧
          (u.chan n).ph = if tries ≤ s.get F.PRT_ING_CTL_RETRY then .lueth d (tries + 1) else .checked d 8 7 tries
        else match s.segOf d.layer d.arg with
          | none => (u.chan n).ph = .checked d 0 0 tries ∧
              u.get F.PRT_ING_ACCEPT = min (s.get F.PRT_ING_ACCEPT + 1) (2 ^ 32 - 1) ∧
              ((u.segOf d.layer d.arg).map CSeg.plain) = some (p.take (p.length - 8)) ∧
              ((u.segOf d.layer d.arg).map CSeg.crc) = some (segCrcField p) ∧
              u.mem = (if s.copyFit (upTo 64 p.length) + upTo 64 p.length ≤ s.copyTop then
                s.wr 0 (s.copyFit (upTo 64 p.length)) (padTo (upTo 64 p.length) p) else s).mem
          | some g => u.copy = s.copy ∧ u.mem = s.mem ∧
              (u.chan n).ph = if g.crc = segCrcField p then .checked d 0 0 tries else .checked d 8 8 tries)

/-- Journeyman cores (R597, R600, R648, R649): a trap halts the running core and records its cause, an expired
watchdog raises its source and starts over, only the core itself kicks it, and mailboxes set a vector's cause bit or
raise an event in the core; a trap or expiry of J0 in an NMI leads to CHIP_RESET 10 µs later. Each of these commands
completes, with exec answering a next state, under conditions on the state and the operands alone: jrnTrap, jrnWdog,
jrnKick, jrnMbPost, jrnMbIn. -/
def Obligations.CoresTrapAndAnswer : Prop :=
  (∀ (s : State) (t : Nat) (j : Fin 8) (c : BitVec 8) (nmi : Bool), s.domUp .ctrl = true →
    s.get (F.JRN_STAT_STATE j) = 1 →
    ∃ u, exec (.jrnTrap t j c nmi) s = .next u ∧ u.get (F.JRN_STAT_STATE j) = 3 ∧ u.get (F.JRN_STAT_TRAP j) = c.toNat ∧
      u.mem = s.mem ∧ ((s.wsrc 6).queue.length < 16 → (u.wsrc 6).queue = (s.wsrc 6).queue ++ [⟨j, 0⟩]) ∧
      u.watch.chipReset = (if j.val = 0 ∧ nmi = true ∧ (s.cores.get 0 Core.idle).nmi = true then
        some (s.watch.chipReset.getD (max s.clk.now t + us 10)) else s.watch.chipReset)) ∧
  (∀ (s : State) (t : Nat) (j : Fin 8) (nmi : Bool), s.domUp .ctrl = true → s.get (F.JRN_WDOG j) ≠ 0 →
    (s.cores.get j Core.idle).lastKick + us (s.get (F.JRN_WDOG j)) ≤ max s.clk.now t →
    ∃ u, exec (.jrnWdog t j nmi) s = .next u ∧ (u.cores.get j Core.idle).lastKick = max s.clk.now t ∧ u.mem = s.mem ∧
      ((s.wsrc 7).queue.length < 16 → (u.wsrc 7).queue = (s.wsrc 7).queue ++ [⟨j, 0⟩]) ∧
      u.watch.chipReset = (if j.val = 0 ∧ nmi = true ∧ (s.cores.get 0 Core.idle).nmi = true then
        some (s.watch.chipReset.getD (max s.clk.now t + us 10)) else s.watch.chipReset)) ∧
  (∀ (s : State) (m : Fin 9) (j : Fin 8), s.domUp .ctrl = true →
    ∃ u, exec (.jrnKick m j) s = .next u ∧ u = { s with cores := u.cores } ∧
      if m.val = j.val + 1 then (u.cores.get j Core.idle) = { s.cores.get j Core.idle with lastKick := s.clk.now }
      else u = s) ∧
  (∀ (s : State) (m : Fin 9) (j : Fin 8), s.domUp .ctrl = true → s.domUp .host = true →
    ∃ u, exec (.jrnMbPost m j) s = .next u ∧ bitOf (u.get F.PRT_IRQ_STAT) (32 + j.val) = true ∧
      KeepsFields [F.PRT_IRQ_STAT] s u ∧ u = { s with regs := u.regs, msix := u.msix, out := u.out }) ∧
  (∀ (s : State) (m : Fin 9) (j : Fin 8) (v : BitVec 32), s.domUp .ctrl = true →
    ∃ u, exec (.jrnMbIn m j v) s = .next u ∧ u.get (F.JRN_MB_IN j 7) = v.toNat ∧
      KeepsFields [F.JRN_MB_IN j 7] s u ∧ u = { s with regs := u.regs, cores := u.cores } ∧
      (u.cores.get j Core.idle).mbEvents = (s.cores.get j Core.idle).mbEvents + (if m.val = 0 then 1 else 0))

/-- Gauger's runs (R569 to R574): START refused sets REFUSED alone, and else a run that is BUSY with its outputs
STALE; CANCEL ends it as FAIL, a SENS run putting the park value back; an enabled trim steps one code toward its
target. FRAME_RECORD_WRITE (R556, R558): the oldest closed frame of the context leaves; its record stands in its slot
with MAGIC, VERSION, the context and the frame number, under its CRC-32C, and the context's vector is signalled; a
frame with a mark, or of another context, tag or time than the run's, serves none (R570). Each of these commands
completes, with exec answering a next state, under conditions on the state and the operands alone: runStart, cancel,
trimStep, frameRecordWrite. -/
def Obligations.GaugerRunsAndRecords : Prop :=
  (∀ (s : State) (m : Fin 9), s.domUp .motion = true → s.runRefused = true →
    ∃ u, exec (.runStart m) s = .next u ∧ u.get F.GAU_RUN_STAT_REFUSED = 1 ∧ OnlyFields [F.GAU_RUN_STAT_REFUSED] s u) ∧
  (∀ (s : State) (m : Fin 9), s.domUp .motion = true → s.runRefused = false →
    ∃ u r, exec (.runStart m) s = .next u ∧ u.gau.run = some r ∧ r.kind = s.get F.GAU_RUN_CTL_KIND ∧
      r.ctx = s.get F.GAU_RUN_CTL_CTX ∧ r.block = s.get F.GAU_RUN_CTL_BLOCK ∧ r.tries = max 2 (s.get F.GAU_RUN_CTL_TRIES) ∧
      r.start = s.clk.now ∧ r.outs = [] ∧ u.get F.GAU_RUN_STAT_STATE = 1 ∧ u.get F.GAU_RUN_STAT_FRAMES = 0 ∧
      u.get F.GAU_RUN_STAT_ACCEPTED = 0 ∧
      (r.kind = 0 → r.block < 64 → bitOf (u.get F.GAU_STALE) r.block = true ∧ ∀ k, inBlock r.block k = true → k < 262144 →
        k ∈ u.gau.stale) ∧
      (r.kind ≠ 0 → bitOf (u.get F.GAU_TRIM_STAT_STALE) (r.kind - 1) = true) ∧
      u = { s with regs := u.regs, gau := u.gau }) ∧
  (∀ (s : State) (m : Fin 9) (r : GRun), s.domUp .motion = true → s.gau.run = some r →
    ∃ u, exec (.cancel m) s = .next u ∧ u.gau = { s.gau with run := none } ∧ u.get F.GAU_RUN_STAT_STATE = 3 ∧
      (r.kind = 3 → u.get F.GOV_PARK_X = tc 32 r.park) ∧ (r.kind = 4 → u.get F.GOV_PARK_Y = tc 32 r.park) ∧
      (r.kind ≤ 2 → u.get F.GOV_PARK_X = s.get F.GOV_PARK_X ∧ u.get F.GOV_PARK_Y = s.get F.GOV_PARK_Y) ∧ u.mem = s.mem) ∧
  (∀ (s : State) (m : Fin 9), s.domUp .motion = true → s.gau.run = none → exec (.cancel m) s = .next s) ∧
  (∀ (s : State) (t : Nat) (k : Fin 4) (cur tgt v : Int), s.domUp .motion = true →
    (s.at t).beatDue (.trim k) (us (max 1 (s.get F.GAU_TRIM_CTL_INTERVAL))) = true →
    bitOf (s.get F.GAU_TRIM_CTL_EN) k = true → k.val ∈ s.gau.targets → s.trimPaused k = false →
    cur = trimVal k (s.get (trimFld k)) → tgt = trimVal k (s.get (F.GAU_TRIM_TGT k)) → cur ≠ tgt →
    v = (if cur < tgt then cur + 1 else cur - 1) → k.val < 2 ∨ v ≠ 0 →
    ∃ u, exec (.trimStep t k) s = .next u ∧ u.mem = s.mem ∧ trimVal k (u.get (trimFld k)) = v ∧
      (v = tgt → k.val ∉ u.gau.targets ∧ bitOf (u.get F.GAU_TRIM_STAT_STEPPING) k = false) ∧
      (v ≠ tgt → u.gau = s.gau ∧ u.get F.GAU_TRIM_STAT_STEPPING = s.get F.GAU_TRIM_STAT_STEPPING)) ∧
  (∀ (s : State) (t : Nat) (c : Fin 8) (f : VFrame) (r : List VFrame), s.domUp .vision = true → s.memUp = true →
    s.domUp .host = true → s.vis.closed.get c [] = f :: r → s.gau.run = none → s.mem.poison = [] → s.mem.hurt = [] →
    f.slotAddr c + 256 ≤ hbmTop →
    ∃ u, exec (.frameRecordWrite t c) s = .next u ∧ u.vis.closed.get c [] = r ∧
      bitOf (u.get F.PRT_IRQ_STAT) (20 + c.val) = true ∧
      u.rd (f.slotAddr c) 12 = leBytes 4 0x50554F4C ++ leBytes 2 1 ++ leBytes 1 c ++ [0] ++ leBytes 4 f.fn ∧
      u.rd (f.slotAddr c + 34) 2 = leBytes 2 f.marks ∧
      (f.met = none → u.rd (f.slotAddr c + 252) 4 =
        leBytes 4 (crc32c (leBytes 8 (f.slotAddr c) ++ u.rd (f.slotAddr c) 252)))) ∧
  (∀ (s : State) (t : Nat) (c : Fin 8) (f : VFrame) (l : List VFrame) (r : GRun), s.domUp .vision = true → s.memUp = true →
    s.vis.closed.get c [] = f :: l → s.gau.run = some r →
    r.ctx ≠ c.val ∨ f.marks ≠ 0 ∨ f.tag ≠ s.get F.GAU_RUN_TAG ∨ f.at_ ≤ r.start →
    ∃ u, exec (.frameRecordWrite t c) s = .next u ∧ u.gau = s.gau ∧ u.vis.closed.get c [] = l) ∧
  (∀ (s : State) (t : Nat) (c : Fin 8), s.vis.closed.get c [] = [] →
    ∃ u, exec (.frameRecordWrite t c) s = .next u ∧ u = { s with clk := u.clk })

/-- Frames (R15, R553 to R557): a Frame Start of an enabled context opens the frame of the next number, closing one
still open as NO_FE; a line in the context's data type is received, another type counted; header errors, one that the
ECC of a Frame Start or Frame End corrects too (log entry 115), and CRC errors are counted and marked; a Frame End, 1
s without a packet and a lane out of lock close what is open with their marks. Each of these commands completes, with
exec answering a next state, under conditions on the state and the operands alone: frameStart, longPacket,
packetEccError, frameEnd, frameTimeout, camLaneLockLoss, camLaneLock. -/
def Obligations.FramesOpenAndClose : Prop :=
  (∀ (s : State) (t vc c : Nat) (k : FramePkt) (p : Fin 2), s.domUp .vision = true → s.get (F.VIS_PORT_CTL_EN p) = 1 → vc < 4 →
    c = 4 * p.val + vc → s.get (F.VIS_CTX_CTL_EN c) = 1 →
    ∃ u f, exec (.frameStart t p vc k) s = .next u ∧ u.vis.frames.lookup c = some f ∧
      f.fn = (s.get (F.VIS_CTX_FRAME c) + 1) % 2 ^ 32 ∧ u.get (F.VIS_CTX_FRAME c) = f.fn ∧ f.sensorFn = k.fn % 2 ^ 16 ∧
      f.lines = [] ∧ f.at_ = max s.clk.now t ∧ u.get (F.VIS_CTX_STAT_TAG c) = f.tag % 2 ^ 16 ∧ KeepsHbm s u ∧
      bitOf f.marks 5 = k.eccFixed ∧ f.eccErr = b2n k.eccFixed ∧
      (k.eccFixed = true → u.get (F.VIS_CTX_ECC c) = min (s.get (F.VIS_CTX_ECC c) + 1) (2 ^ 32 - 1)) ∧
      ∀ g, s.vis.frames.lookup c = some g → g.dropped = false →
        ∃ h, u.vis.closed.get c [] = s.vis.closed.get c [] ++ [h] ∧ h.fn = g.fn ∧ bitOf h.marks 6 = true) ∧
  (∀ (s : State) (t vc c : Nat) (k : FramePkt) (p : Fin 2), s.domUp .vision = true → s.get (F.VIS_PORT_CTL_EN p) = 1 → vc < 4 →
    c = 4 * p.val + vc → s.get (F.VIS_CTX_CTL_EN c) = 0 → s.vis.frames.lookup c = none →
    ∃ u, exec (.frameStart t p vc k) s = .next u ∧ u.vis = s.vis ∧
      (k.eccFixed = true → u.get (F.VIS_CTX_ECC c) = min (s.get (F.VIS_CTX_ECC c) + 1) (2 ^ 32 - 1)) ∧
      (k.eccFixed = false → u = { s with clk := u.clk, strip := u.strip })) ∧
  (∀ (s : State) (t vc c dt : Nat) (p : Fin 2) (d : List Byte) (f : VFrame) (ok : Bool), s.domUp .vision = true →
    s.get (F.VIS_PORT_CTL_EN p) = 1 → vc < 4 → c = 4 * p.val + vc → s.vis.frames.lookup c = some f →
    f.app (F.VIS_CTX_CTL_DT c) = 0 → dt = 0x2A →
    ∃ u g, exec (.longPacket t p vc dt d false ok) s = .next u ∧ u.vis.frames.lookup c = some g ∧
      g.lines = f.lines ++ [d.map BitVec.toNat] ∧ g.lastPkt = max s.clk.now t ∧ u.mem = s.mem ∧
      g.crcErr = (if ok then f.crcErr else min 65535 (f.crcErr + 1)) ∧
      (ok = false → bitOf g.marks 4 = true ∧ u.get (F.VIS_CTX_CRC c) = min (s.get (F.VIS_CTX_CRC c) + 1) (2 ^ 32 - 1)) ∧
      (ok = true → g.marks = f.marks ∧ u = { s with clk := u.clk, vis := u.vis })) ∧
  (∀ (s : State) (t vc c dt : Nat) (p : Fin 2) (d : List Byte) (f : VFrame), s.domUp .vision = true →
    s.get (F.VIS_PORT_CTL_EN p) = 1 → vc < 4 → c = 4 * p.val + vc → s.vis.frames.lookup c = some f →
    dt ≠ dtCode (f.app (F.VIS_CTX_CTL_DT c)) →
    ∃ u g, exec (.longPacket t p vc dt d false true) s = .next u ∧ u.vis.frames.lookup c = some g ∧ g.lines = f.lines ∧
      g.marks = (if rawType dt then f.marks ||| 2 ^ 7 else f.marks) ∧
      u.get (F.VIS_PORT_OTHER p) = min (s.get (F.VIS_PORT_OTHER p) + 1) (2 ^ 32 - 1) ∧
      KeepsFields [F.VIS_PORT_OTHER p] s u ∧ u.mem = s.mem) ∧
  (∀ (s : State) (t : Nat) (p : Fin 2), s.domUp .vision = true → s.get (F.VIS_PORT_CTL_EN p) = 1 →
    ∃ u, exec (.packetEccError t p) s = .next u ∧
      u.get (F.VIS_PORT_UE p) = min (s.get (F.VIS_PORT_UE p) + 1) (2 ^ 32 - 1) ∧ u.vis.closed = s.vis.closed ∧
      u.mem = s.mem ∧ ∀ v, v < 4 → ∀ f, s.vis.frames.lookup (4 * p.val + v) = some f →
        u.vis.frames.lookup (4 * p.val + v) = some { f.mark 5 with eccErr := min 65535 (f.eccErr + 1) }) ∧
  (∀ (s : State) (t vc c : Nat) (k : FramePkt) (p : Fin 2) (f : VFrame), s.domUp .vision = true →
    s.get (F.VIS_PORT_CTL_EN p) = 1 → vc < 4 → c = 4 * p.val + vc → s.vis.frames.lookup c = some f →
    ∃ u, exec (.frameEnd t p vc k) s = .next u ∧ u.vis.frames.lookup c = none ∧ u.mem = s.mem ∧
      (k.eccFixed = true → u.get (F.VIS_CTX_ECC c) = min (s.get (F.VIS_CTX_ECC c) + 1) (2 ^ 32 - 1)) ∧
      (f.dropped = true → u.vis.closed = s.vis.closed ∧ (k.eccFixed = false → u.regs = s.regs)) ∧
      (f.dropped = false → ∃ g, u.vis.closed.get c [] = s.vis.closed.get c [] ++ [g] ∧ g.lines = f.lines ∧ g.fn = f.fn ∧
        g.marks = (if k.eccFixed then f.marks ||| 2 ^ 5 else f.marks) ||| f.shape c ∧
        g.eccErr = (if k.eccFixed then min 65535 (f.eccErr + 1) else f.eccErr) ∧ g.tFe = s.mtNs (max s.clk.now t) g1ns)) ∧
  (∀ (s : State) (t : Nat) (c : Fin 8) (f : VFrame), s.vis.frames.lookup c.val = some f → f.dropped = false →
    f.lastPkt + ms 1000 ≤ max s.clk.now t →
    ∃ u g, exec (.frameTimeout t c) s = .next u ∧ u.vis.frames.lookup c.val = none ∧
      u.vis.closed.get c [] = s.vis.closed.get c [] ++ [g] ∧ g.fn = f.fn ∧ bitOf g.marks 6 = true ∧ u.mem = s.mem) ∧
  (∀ (s : State) (t : Nat) (p : Fin 2) (l : Fin 4), s.domUp .vision = true → s.get (F.VIS_PORT_CTL_EN p) = 1 →
    l.val < s.camLanes p →
    ∃ u, exec (.camLaneLockLoss t p l) s = .next u ∧ bitOf (u.get (F.VIS_PORT_STAT_LANE_UP p)) l = false ∧ u.mem = s.mem ∧
      ∀ v, v < 4 → u.vis.frames.lookup (4 * p.val + v) = none ∧ ∀ f, s.vis.frames.lookup (4 * p.val + v) = some f →
        f.dropped = false → ∃ g, u.vis.closed.get (4 * p.val + v) [] = s.vis.closed.get (4 * p.val + v) [] ++ [g] ∧
          g.fn = f.fn ∧ bitOf g.marks 11 = true) ∧
  (∀ (s : State) (t : Nat) (p : Fin 2) (l : Fin 4), s.domUp .vision = true →
    ∃ u, exec (.camLaneLock t p l) s = .next u ∧ bitOf (u.get (F.VIS_PORT_STAT_LANE_UP p)) l = true ∧
      KeepsFields [F.VIS_PORT_STAT_LANE_UP p] s u ∧ u = { s with clk := u.clk, regs := u.regs })

/-- Settings sets and slots (R559, R560, R582): ARM takes the pending set, a write that is not acknowledged ends the
set with NAK, an acknowledged one sends the CCI write of the next entry, to its device and its 8- or 16-bit register
address, and the last one completes the set, and REL frees slots. Each of these commands completes, with exec
answering a next state, under conditions on the state and the operands alone: visSetArm, cciWriteDone, visCtxRel. -/
def Obligations.SettingsAndSlots : Prop :=
  (∀ (s : State) (m : Fin 9) (c : Fin 8), s.domUp .vision = true →
    ∃ u, exec (.visSetArm m c) s = .next u ∧ u.vis = { s.vis with armed := u.vis.armed } ∧
      u.vis.armed.lookup c.val = some (s.pendingSet c) ∧ u.get (F.VIS_CTX_STAT_SET_ARMED c) = 1 ∧
      KeepsFields [F.VIS_CTX_STAT_SET_ARMED c] s u ∧ u = { s with regs := u.regs, vis := u.vis }) ∧
  (∀ (s : State) (t : Nat) (p : Fin 2) (r : CciRun), s.vis.cci.lookup p.val = some r → r.ctx < 8 →
    ∃ u, exec (.cciWriteDone t p true) s = .next u ∧ u.vis.cci.lookup p.val = none ∧
      u.get (F.VIS_PORT_STAT_CCI_BUSY p) = 0 ∧ u.get (F.VIS_CTX_STAT_CCI_NAK r.ctx) = 1 ∧ u.vis.acked = s.vis.acked ∧
      u.vis.tags = s.vis.tags ∧ u.mem = s.mem ∧ u.out = s.out) ∧
  (∀ (s : State) (t : Nat) (p : Fin 2) (r : CciRun), s.vis.cci.lookup p.val = some r →
    ∀ (a v len : Nat), r.set.entries[r.idx + 1]? = some (a, v) → len = [1, 2, 4, 4].getD (bits a 8 2) 4 →
    ∃ u, exec (.cciWriteDone t p false) s = .next u ∧ u.vis.cci.lookup p.val = some { r with idx := r.idx + 1 } ∧
      u.get (F.VIS_PORT_STAT_CCI_BUSY p) = 1 ∧ u.mem = s.mem ∧
      u.out = s.out ++ [.cci p (bits a 0 7) (bitOf a 7) (bits a 16 (if bitOf a 7 then 16 else 8)) (v % 256 ^ len) len] ∧
      KeepsFields [F.VIS_PORT_STAT_CCI_BUSY p] s u) ∧
  (∀ (s : State) (t : Nat) (p : Fin 2) (r : CciRun), s.vis.cci.lookup p.val = some r →
    r.set.entries.length ≤ r.idx + 1 →
    ∃ u, exec (.cciWriteDone t p false) s = .next u ∧ u.vis.cci.lookup p.val = none ∧
      u.vis.acked.lookup r.ctx = some (r.k, r.lat, r.set.tag) ∧ u.get (F.VIS_PORT_STAT_CCI_BUSY p) = 0 ∧ u.out = s.out ∧
      KeepsFields [F.VIS_PORT_STAT_CCI_BUSY p] s u) ∧
  (∀ (s : State) (m : Fin 9) (c : Fin 8) (k : Nat), s.domUp .vision = true →
    ∃ u, exec (.visCtxRel m c k) s = .next u ∧ u.vis = { s.vis with taken := u.vis.taken } ∧
      u.vis.taken.get c 0 = s.vis.taken.get c 0 - k % 256 ∧
      u.get (F.VIS_CTX_STAT_FREE c) = (s.app (F.VIS_CTX_SLOT_SLOTS c) - u.vis.taken.get c 0) % 2 ^ 8 ∧
      KeepsFields [F.VIS_CTX_STAT_FREE c] s u ∧ u = { s with regs := u.regs, vis := u.vis })

/-- Releases (R117, R126): a take of the older layer leaves the Copy buffer with its segments once no open stripe
needs it, and waits before; the older layer leaves once no open stripe refers to it, and waits before. Each of these
commands completes, with exec answering a next state, under conditions on the state and the operands alone:
takeRelease, takeReleaseEffect, layerRelease, layerReleaseEffect. -/
def Obligations.CopyReleases : Prop :=
  (∀ (s : State) (m : Fin 9) (v : BitVec 32) (c : CLayer) (r : List CLayer), s.domUp .comp = true →
    s.copy.layers = c :: r → c.relTakes = [] → s.takeNeeded c v.toNat = false →
    ∃ u d, exec (.takeRelease m v) s = .next u ∧ u.copy.layers.head? = some d ∧ d.relTakes = [] ∧ d.layer = c.layer ∧
      d.segs = c.segs.filter (fun g => g.layerSeg || g.take != v.toNat) ∧ u.mem = s.mem ∧ u.asy = s.asy) ∧
  (∀ (s : State) (m : Fin 9) (v : BitVec 32) (c : CLayer) (r : List CLayer), s.domUp .comp = true →
    s.copy.layers = c :: r → c.relTakes = [] → s.takeNeeded c v.toNat = true →
    ∃ u, exec (.takeRelease m v) s = .next u ∧ u.copy.layers.head? = some { c with relTakes := [v.toNat] } ∧
      u.mem = s.mem) ∧
  (∀ (s : State) (t : Nat) (c : CLayer) (r : List CLayer), s.domUp .comp = true → s.copy.layers = c :: r →
    (∀ k ∈ c.relTakes, s.takeNeeded c k = false) →
    ∃ u d, exec (.takeReleaseEffect t) s = .next u ∧ u.copy.layers.head? = some d ∧ d.relTakes = [] ∧
      d.segs = c.segs.filter (fun g => g.layerSeg || !c.relTakes.contains g.take) ∧ u.mem = s.mem) ∧
  (∀ (s : State) (m : Fin 9) (t : Nat) (i : Instr) (c : CLayer) (r : List CLayer), s.domUp .comp = true →
    s.copy.layers = c :: r → (∀ d ∈ r, d.layer ≠ c.layer) → s.asy.queue.any (fun x => x.layer == c.layer) = false →
    i = .layerRelease m ∨ (i = .layerReleaseEffect t ∧ c.relLayer = true) →
    ∃ u, exec i s = .next u ∧ u.copy.layers = r ∧ u.mem = s.mem ∧ u.asy = s.asy) ∧
  (∀ (s : State) (m : Fin 9) (c : CLayer) (r : List CLayer), s.domUp .comp = true → s.copy.layers = c :: r →
    (∀ d ∈ r, d.layer ≠ c.layer) → s.asy.queue.any (fun x => x.layer == c.layer) = true →
    ∃ u, exec (.layerRelease m) s = .next u ∧ u.copy.layers = { c with relLayer := true } :: r ∧
      u = { s with copy := u.copy })

/-- The pre-pass and composition (R163, R165, R173, R177, R182, R190, R217 to R219, R249, R250, R258, R275): the
oldest pre-pass still open (log entry 111) whose window, coarse sums and RING bodies are known completes and stores
the sums, and a halo still owed leaves once its doses are known, though a younger stripe's pre-pass waits; a tile of
the lane whose turn it is is not composed from an image that reads poisoned, a gain that is not valid or an
uncorrectable word, which hold composition, and one whose image, gains and doses stand is written in the lane's ring
and counts toward its cycle, waits for space, or fails its verification in both forms; a rebuild makes the preview's
state stand. Each of these commands completes, with exec answering a next state, under conditions on the state and the
operands alone: prepassComplete, tileCompose, previewRebuildDone. -/
def Obligations.PrepassAndTiles : Prop :=
  (∀ (s : State) (t : Nat) (x : Stripe) (w : Work) (l : List (Int × Int × Nat)), s.domUp .comp = true → s.memUp = true →
    (∀ z ∈ s.asy.queue, z.comp.owes = []) → s.asy.queue.find? (fun x => !x.comp.prepass) = some x →
    (s.at t).work x = some w → w.allKnown = true → w.bodiesKnown = true → w.sums = some l →
    ∃ u y, exec (.prepassComplete t) s = .next u ∧ u.asy.queue.find? (fun y => y.id == x.id) = some y ∧
      y.comp.prepass = true ∧ y.comp.sums = l ∧ (s.domUp .ring = true → y.comp.owes = []) ∧ u.asy.queue.length = s.asy.queue.length ∧ u.mem = s.mem ∧
      u.get F.CMP_LUETH_HINT = min (s.get F.CMP_LUETH_HINT + w.hintMisses) (2 ^ 32 - 1)) ∧
  (∀ (s : State) (t : Nat) (x : Stripe) (w : Work), s.domUp .comp = true → s.memUp = true → s.domUp .ring = true →
    x.comp.prepass = true → (∀ z ∈ s.asy.queue, z.id = x.id → z = x) →
    s.asy.queue.find? (fun x => !x.comp.owes.isEmpty) = some x →
    (s.at t).work x = some w → (∀ hi ∈ x.comp.owes, (w.haloBody hi).isSome = true) →
    ∃ u y, exec (.prepassComplete t) s = .next u ∧ u.asy.queue.find? (fun y => y.id == x.id) = some y ∧
      y.comp.owes = [] ∧ u.mem = s.mem) ∧
  (∀ (s : State) (t : Nat) (l : Fin 32) (x : Stripe) (w : Work) (faults : List TileFault)
    (accs : List (Fin 2 × SramAcc)), s.domUp .comp = true → s.memUp = true →
    s.composing = some x → (s.at t).work x = some w → s.nextLane x = some l.val → x.mayCompose = true →
    s.readsClean 2 (s.imgAddr x.comp.gainSlot) (2 ^ 20) = false ∨
      imgOk (s.imgAddr x.comp.gainSlot) x.cfgEpoch (s.rd (s.imgAddr x.comp.gainSlot) (2 ^ 20)) = false ∨
      w.gainsOk x.comp.nextCycle = false ∨ (s.bodyReads x).1 = true ∨ ((s.at t).compAccs accs).1 = true →
    ∃ u y, exec (.tileCompose t l faults accs) s = .next u ∧ u.composing = some y ∧ y.id = x.id ∧ y.comp.held = true ∧
      y.comp.tilesOf = x.comp.tilesOf ∧ KeepsHbm s u) ∧
  (∀ (s : State) (t : Nat) (l : Fin 32) (x : Stripe) (w : Work) (faults : List TileFault)
    (accs : List (Fin 2 × SramAcc)), s.domUp .comp = true → s.memUp = true →
    s.composing = some x → (s.at t).work x = some w → s.nextLane x = some l.val → x.mayCompose = true →
    ∃ u, exec (.tileCompose t l faults accs) s = .next u ∧
      ∀ ps, s.readsClean 2 (s.imgAddr x.comp.gainSlot) (2 ^ 20) = true →
      imgOk (s.imgAddr x.comp.gainSlot) x.cfgEpoch (s.rd (s.imgAddr x.comp.gainSlot) (2 ^ 20)) = true →
      w.gainsOk x.comp.nextCycle = true → (s.bodyReads x).1 = false → ((s.at t).compAccs accs).1 = false →
      w.cycle = some ps → ∃ y, u.composing = some y ∧ y.id = x.id ∧
      ((∃ tl, y.comp.tilesOf.lookup l.val = some tl ∧ tl.lane = l.val ∧ tl ∈ u.mem.tiles ∧ u.mem.wptr.get l 0 =
          tl.addr - (s.copyTop + l.val * s.ringSize) + tl.len) ∨
        (y.comp.tilesOf = x.comp.tilesOf ∧ y.comp.stalled = true) ∨
        (y.comp.tilesOf = x.comp.tilesOf ∧ y.comp.held = true ∧ u.get F.CMP_QUIRE_STAT_UNPUB = 1))) ∧
  (∀ (s : State) (t : Nat) (x : Stripe) (w : Work) (ps : List Prev), s.domUp .comp = true → s.memUp = true →
    s.composing = some x → (s.at t).work x = some w → w.upTo (x.comp.nextCycle * s.cyc) = some ps →
    ∃ u, exec (.previewRebuildDone t) s = .next u ∧ u.mem = s.mem ∧
      u.composing = some { x with comp := { x.comp with rebuilt := true, hist := (ps.take 1023).map (fun p => p.out) } })

/-- CYCLE_PUBLISH (R142, R145, R252, R254): a cycle whose 32 tiles are written is published under the next sequence
number with its directory entry, and its columns are folded into the stripe's layout digest and its count of instance
and tile pairs. The tap (R147 to R152): ARM waits for a stripe to open, a write of 0 takes it back unless it is BUSY;
once the window's doses are known they stand in HBM and CMP_TAP_CRC holds their CRC-64. Each of these commands
completes, with exec answering a next state, under conditions on the state and the operands alone: cyclePublish,
tapArm, tapDisarm, tapDone. -/
def Obligations.PublishAndTap : Prop :=
  (∀ (s : State) (t : Nat) (x : Stripe) (w : Work) (e : Int) (ds : List Byte), s.domUp .comp = true → s.memUp = true →
      s.composing = some x → (s.at t).work x = some w → x.comp.tilesOf.length = 32 → x.comp.held = false →
      s.entryFree (s.get F.MEM_GAL_PUB) = true → e = max (s.foldEnd x x.comp.nextCycle) (x.comp.nextCol - 1) →
      w.toFold e = some ds →
      ∃ u y, exec (.cyclePublish t) s = .next u ∧ u.get F.MEM_GAL_PUB = (s.get F.MEM_GAL_PUB + 1) % 2 ^ 64 ∧
        u.mem.published = s.mem.published ++ [⟨s.get F.MEM_GAL_PUB, x.id, x.comp.nextCycle⟩] ∧
        u.asy.queue.find? (fun y => y.id == x.id) = some y ∧ y.comp.nextCycle = x.comp.nextCycle + 1 ∧ y.comp.tilesOf = [] ∧
        y.comp.nextCol = e + 1 ∧ y.comp.ldig = crc64From x.comp.ldig ds ∧ y.comp.pix = x.comp.pix + ds.length ∧
        y.comp.inst = (x.comp.inst + w.newPairs e) % 2 ^ 64 ∧ y.comp.hist = (x.comp.outs ++ x.comp.hist).take 1023 ∧
        u.mem.cells = (s.wr 2 (s.dirAddr (s.get F.MEM_GAL_PUB)) (dirEntry (s.dirAddr (s.get F.MEM_GAL_PUB)) x.low
          x.comp.nextCycle (s.get F.MEM_GAL_PUB) ((List.range 32).map (fun l =>
            let tl := x.comp.tilesOf.get l ⟨x.id, x.comp.nextCycle, l, 0, 0⟩
            (tl.addr, tl.len))))).mem.cells) ∧
  (∀ (s : State) (m : Fin 9), s.domUp .comp = true →
    (∃ u, exec (.tapArm m) s = .next u ∧ u.get F.CMP_TAP_CTL_ARM = 1 ∧ OnlyFields [F.CMP_TAP_CTL_ARM] s u) ∧
    ∃ u, exec (.tapDisarm m) s = .next u ∧ OnlyFields [F.CMP_TAP_CTL_ARM] s u ∧ u.get F.CMP_TAP_CTL_ARM =
      if s.get F.CMP_TAP_CTL_BUSY = 0 then 0 else s.get F.CMP_TAP_CTL_ARM) ∧
  (∀ (s : State) (t : Nat) (r : TapRun) (x : Stripe) (w : Work) (b : List Byte), s.domUp .comp = true → s.memUp = true →
    s.copy.tap = some r → s.asy.queue.find? (fun x => x.id == r.stripe) = some x → (s.at t).work x = some w →
    w.tapBytes r = some b →
    ∃ u, exec (.tapDone t) s = .next u ∧ u.copy.tap = none ∧ u.get F.CMP_TAP_CRC = crc64 b % 2 ^ 64 ∧
      u.get F.CMP_TAP_CTL_ARM = 0 ∧ u.get F.CMP_TAP_CTL_BUSY = 0 ∧ u.get F.CMP_TAP_STAT_DONE = 1 ∧
      u.mem = (s.wr 2 r.addr (padTo (upTo 64 b.length) b)).mem ∧ u.asy = s.asy)

/-- Decode and encode agree for the leaves of Quire (R195 to R217, R222): a leaf of 8,192 values with its marks,
written in RAW or in token form at any level against any previous leaf, decodes to itself. -/
def Obligations.QuireRoundTrip : Prop :=
  ∀ (c : LeafCtx) (x : Leaf) (level : Nat) (prev : Option (Array Nat)) (last : Bool), x.vals.size = leafN →
    (∀ v ∈ x.vals, v < 16) → (∀ m ∈ x.marks, m.t < leafN ∧ m.value < 16) → marksOk x.vals x.marks = true →
    x.whole = 0 ∨ ((x.whole = 3 ∨ x.whole = 4) ∧ x.marks = [] ∧ ∀ v ∈ x.vals, v = 0) →
    decodeLeaf c (leafOf c x (if c.raw then packLeaf x.vals else encodeBody level prev x.vals)) last prev false = .ok x

/-- Every command has an effect: whatever the state, exec answers a next state and stops on nothing. -/
def Obligations.EveryCommandCompletes : Prop :=
  ∀ (c : Instr) (s : State), Completes c s

/-- The line code and the frames read back as sent (R339 to R343, R348, R373 to R375, R467 to R472), the receiver
knowing the sequence number (log entry 103): after SYNC, whatever run comes before it, the first n field bits are
those sent, stuff bits removed and descrambled; a position word gives its fields and a CRC that passes; an ANSWER
gives the command ANSWER with its shot and masks; a ring frame of any payload that passes its checks gives its header
and payload; and SYNC, PDELAY_RESP and HALO ACK payloads pass them. -/
def Obligations.LinesReadAsSent : Prop :=
  (∀ (c : LineCode) (seed n : Nat) (r : Run) (data rest : List Bool),
    c ∈ [laneCode, ctrlCode, ringCode, wordCode] → r.len ≤ c.limit → n ≤ data.length →
    c.recv seed n ((c.send seed r data).1 ++ rest) = some (data.take n)) ∧
  (∀ (link id age : Nat) (q : Fin 256) (pos : Int) (valid index warn : Bool) (r : Run) (rest : List Bool),
    r.len ≤ 16 → age < 65536 → -(2 ^ 47) ≤ pos → pos < 2 ^ 47 →
    ∃ d, wordCode.recv (wordSeed q id) 96 ((wordCode.send (wordSeed q id) r
        (bitsOf 96 (posWord link q pos valid index warn age))).1 ++ rest) = some d ∧
      posFields link (ofBits d) = ⟨q, pos, valid, index, warn, age, true, true⟩) ∧
  (∀ (t mseq shot : Nat) (k : Fin 4) (ack nak : BitVec 8) (r : Run) (rest : List Bool),
    r.len ≤ 40 → mseq < 2 ^ 32 → shot < 2 ^ 40 →
    retCmd t k mseq ((laneCode.send (retSeed mseq k) r
        (retData k 0x10 mseq (leBytes 5 shot ++ zeros 3 ++ [ack, nak] ++ zeros 6))).1 ++ rest)
      = .answer t k ⟨mseq, true⟩ (some shot) ack nak) ∧
  (∀ (h : RingHdr) (p : RPay) (r : Run) (rest : List Bool),
    r.len ≤ 40 → h.good = true → h.whole = true → payRead p.cls p.bytes = some p →
    ringRead h.ring h.src h.seq p.cls ((ringCode.send (ringSeed h.ring h.src h.seq p.cls) r
        (ringData (ringHead h.ring h.src h.dst h.seq p.cls p.bytes.length h.bcast h.hops) p.bytes)).1 ++ rest)
      = some (h, p)) ∧
  (∀ (p : RPay) (a b : Nat) (c : Int) (d e : Bool), a < 2 ^ 16 → b < 2 ^ 32 → -(2 ^ 63) ≤ c → c < 2 ^ 63 →
    p = .sync b a c ∨ p = .pdResp a c ∨ p = .haloAck d e a b → payRead p.cls p.bytes = some p)

end
end

