-- ==== Sys2Proof/Laws/Maps.lean ====
section
/-! SUPPORT. The laws of sparse maps, which registers, HBM bytes and tables share: what a key reads after a value is put or
erased, and that both keep the keys rising. -/

namespace Sys2Proof.Machine
open Sys2Proof

variable {α : Type}

/-! ## Reading -/

theorem SMap.lookup_cons (p : Nat × α) (m : SMap α) (j : Nat) :
    List.lookup j (p :: m) = if j = p.1 then some p.2 else List.lookup j m := by
  cases p with
  | mk a b =>
    show (match j == a with | true => some b | false => List.lookup j m) = _
    by_cases h : j = a
    · simp [h]
    · rw [beq_eq_false_iff_ne.mpr h, if_neg h]

/-- What a map without a key holds: nothing there, and elsewhere what it held. -/
theorem SMap.lookup_erase (m : SMap α) (j k : Nat) :
    List.lookup j (m.erase k) = if j = k then none else List.lookup j m := by
  unfold SMap.erase
  induction m with
  | nil => exact (ite_self _).symm
  | cons p m ih =>
    by_cases hp : p.1 = k
    · rw [List.filter_cons_of_neg (by simp [hp]), ih, SMap.lookup_cons, hp]
      split <;> rfl
    · rw [List.filter_cons_of_pos (by simp [hp]), SMap.lookup_cons, ih, SMap.lookup_cons]
      (repeat' split) <;> first | rfl | omega

theorem SMap.lookup_ins (m : SMap α) (j k : Nat) (v : α) (h : List.lookup k m = none) :
    List.lookup j (SMap.ins k v m) = if j = k then some v else List.lookup j m := by
  induction m with
  | nil => exact SMap.lookup_cons _ _ _
  | cons p m ih =>
    rw [SMap.lookup_cons] at h
    split at h
    · cases h
    · unfold SMap.ins
      rw [apply_ite (List.lookup j), SMap.lookup_cons (k, v), SMap.lookup_cons p (SMap.ins k v m), ih h, SMap.lookup_cons]
      (repeat' split) <;> first | rfl | omega

/-- What a map with a value at a key holds. -/
theorem SMap.lookup_put (m : SMap α) (j k : Nat) (v : α) :
    List.lookup j (m.put k v) = if j = k then some v else List.lookup j m := by
  unfold SMap.put
  rw [SMap.lookup_ins _ _ _ _ (by simp [SMap.lookup_erase]), SMap.lookup_erase]
  split <;> rfl

@[simp] theorem SMap.get_put_same (m : SMap α) (k : Nat) (v d : α) : (m.put k v).get k d = v := by
  simp [SMap.get, SMap.lookup_put]

theorem SMap.get_put_ne (m : SMap α) {j k : Nat} (v d : α) (h : j ≠ k) : (m.put k v).get j d = m.get j d := by
  simp [SMap.get, SMap.lookup_put, h]

/-! ## The canonical form -/

theorem SMap.rising_iff (m : SMap α) : m.rising = true ↔ m.Pairwise (fun p q => p.1 < q.1) := by
  induction m with
  | nil => simp [SMap.rising]
  | cons p m ih => simp [SMap.rising, ih]

/-- The entries of a map with one more. -/
theorem SMap.mem_ins (m : SMap α) (k : Nat) (v : α) (p : Nat × α) : p ∈ SMap.ins k v m ↔ p = (k, v) ∨ p ∈ m := by
  induction m with
  | nil => simp [SMap.ins]
  | cons q m ih =>
    unfold SMap.ins
    by_cases h : k < q.1
    · simp [h]
    · simp only [h, if_false, List.mem_cons, ih]
      exact or_left_comm

/-- An entry of a map with a value put is that value's or one of the map's. -/
theorem SMap.mem_put {m : SMap α} {k : Nat} {v : α} {p : Nat × α} (h : p ∈ m.put k v) : p = (k, v) ∨ p ∈ m :=
  ((SMap.mem_ins _ _ _ _).mp h).imp_right (fun h => (List.mem_filter.mp h).1)

theorem SMap.rising_erase (m : SMap α) (k : Nat) (h : m.rising = true) : (m.erase k).rising = true :=
  (SMap.rising_iff _).mpr (((SMap.rising_iff m).mp h).filter _)

theorem SMap.rising_ins (m : SMap α) (k : Nat) (v : α) (h : m.rising = true) (hk : ∀ p ∈ m, p.1 ≠ k) :
    (SMap.ins k v m).rising = true := by
  rw [SMap.rising_iff] at h ⊢
  induction h with
  | nil => simp [SMap.ins]
  | @cons q m hq hm ih =>
    have hne := hk q (by simp)
    have hi := ih (fun p hp => hk p (by simp [hp]))
    by_cases hlt : k < q.1
    · have hall : ∀ p ∈ m, k < p.1 := fun p hp => Nat.lt_trans hlt (hq p hp)
      simp [SMap.ins, hlt, List.pairwise_cons, hm]
      exact ⟨fun a b hab => hall (a, b) hab, fun a b hab => hq (a, b) hab⟩
    · simp only [SMap.ins, hlt, if_false, List.pairwise_cons, hi, and_true]
      intro p hp
      rcases (SMap.mem_ins _ _ _ _).mp hp with e | hp
      · rw [e]
        show q.1 < k
        omega
      · exact hq p hp

/-- A value put keeps the keys rising. -/
theorem SMap.rising_put (m : SMap α) (k : Nat) (v : α) (h : m.rising = true) : (m.put k v).rising = true :=
  SMap.rising_ins _ k v (m.rising_erase k h) (fun p hp => by simpa [SMap.erase] using (List.mem_filter.mp hp).2)

end Sys2Proof.Machine
end

