-- ==== Sys2Proof/Laws/Regs.lean ====
section
/-! SUPPORT. The laws of the register store: a read after a write of the same field gives the value cut to its width, a
write leaves every field at another bit address alone, and a canonical store stays canonical. -/

namespace Sys2Proof.Machine
open Sys2Proof

/-- What a store holds after a write of a field. -/
theorem Regs.lookup_set (r : Regs) (f : Fld) (v j : Nat) : List.lookup j (r.set f v) =
    if j = f.bit then (if v % 2 ^ f.width = f.rst then none else some (v % 2 ^ f.width)) else List.lookup j r := by
  unfold Regs.set
  split
  · exact SMap.lookup_erase _ _ _
  · exact SMap.lookup_put _ _ _ _

theorem Regs.get_set_same (r : Regs) (f : Fld) (v : Nat) : (r.set f v).get f = v % 2 ^ f.width := by
  unfold Regs.get
  rw [Regs.lookup_set, if_pos rfl]
  split
  · rename_i h; exact h.symm
  · rfl

theorem Regs.get_set_ne (r : Regs) {f g : Fld} (v : Nat) (h : g.bit ≠ f.bit) : (r.set f v).get g = r.get g := by
  unfold Regs.get
  rw [Regs.lookup_set, if_neg h]

@[simp] theorem State.get_set_same (s : State) (f : Fld) (v : Nat) : (s.set f v).get f = v % 2 ^ f.width :=
  Regs.get_set_same _ _ _

theorem State.get_set_ne (s : State) {f g : Fld} (v : Nat) (h : g.bit ≠ f.bit) : (s.set f v).get g = s.get g :=
  Regs.get_set_ne _ _ h

theorem State.get_addN_ne (s : State) {f g : Fld} (n : Nat) (h : g.bit ≠ f.bit) : (s.addN f n).get g = s.get g :=
  s.get_set_ne _ h

theorem State.get_inc_ne (s : State) {f g : Fld} (h : g.bit ≠ f.bit) : (s.inc f).get g = s.get g := s.get_set_ne _ h

theorem State.get_setB_ne (s : State) {f g : Fld} (b : Bool) (h : g.bit ≠ f.bit) : (s.setB f b).get g = s.get g :=
  s.get_set_ne _ h

theorem State.get_setS_ne (s : State) {f g : Fld} (v : Int) (h : g.bit ≠ f.bit) : (s.setS f v).get g = s.get g :=
  s.get_set_ne _ h

theorem State.get_setMax_ne (s : State) {f g : Fld} (v : Nat) (h : g.bit ≠ f.bit) : (s.setMax f v).get g = s.get g :=
  s.get_set_ne _ h

theorem State.get_setMin_ne (s : State) {f g : Fld} (v : Nat) (h : g.bit ≠ f.bit) : (s.setMin f v).get g = s.get g :=
  s.get_set_ne _ h

/-- A counter holds one more after a count, and stays at the top of its width. -/
theorem State.get_inc (s : State) (f : Fld) : (s.inc f).get f = min (s.get f + 1) (2 ^ f.width - 1) := by
  unfold State.inc State.addN
  rw [State.get_set_same, Nat.mod_eq_of_lt]
  have := Nat.two_pow_pos f.width
  omega

theorem State.get_setB (s : State) (f : Fld) (b : Bool) (h : 0 < f.width) : (s.setB f b).get f = b2n b := by
  unfold State.setB
  rw [State.get_set_same, Nat.mod_eq_of_lt]
  have : 2 ^ 1 ≤ 2 ^ f.width := Nat.pow_le_pow_right (by omega) h
  cases b <;> simp [b2n] <;> omega

/-! ## The canonical form -/

/-- A write keeps the canonical form of the store. -/
theorem Regs.wf_set (r : Regs) (f : Fld) (v : Nat) (h : Regs.wf r = true) : Regs.wf (r.set f v) = true := by
  unfold Regs.set
  split
  · exact SMap.rising_erase _ _ h
  · exact SMap.rising_put _ _ _ h

/-- A reset of a domain keeps the canonical form of the store. -/
theorem Regs.wf_resetDom (r : Regs) (d : Dom) (h : Regs.wf r = true) : Regs.wf (r.resetDom d) = true :=
  (SMap.rising_iff _).mpr (((SMap.rising_iff r).mp h).filter _)

end Sys2Proof.Machine
end

