-- ==== Sys2Proof/Laws/State.lean ====
section
/-! SUPPORT. One lemma for each field of State under each plain update, true by rfl, so that no proof unfolds a record
update. -/

namespace Sys2Proof.Machine
open Sys2Proof

/-! ### set -/
@[simp] theorem State.set_force (s : State) (f : Fld) (v : Nat) : (s.set f v).force = s.force := rfl
@[simp] theorem State.set_strip (s : State) (f : Fld) (v : Nat) : (s.set f v).strip = s.strip := rfl
@[simp] theorem State.set_snapRegs (s : State) (f : Fld) (v : Nat) : (s.set f v).snapRegs = s.snapRegs := rfl
@[simp] theorem State.set_snapForce (s : State) (f : Fld) (v : Nat) : (s.set f v).snapForce = s.snapForce := rfl
@[simp] theorem State.set_snapWork (s : State) (f : Fld) (v : Nat) : (s.set f v).snapWork = s.snapWork := rfl
@[simp] theorem State.set_rdata (s : State) (f : Fld) (v : Nat) : (s.set f v).rdata = s.rdata := rfl
@[simp] theorem State.set_clk (s : State) (f : Fld) (v : Nat) : (s.set f v).clk = s.clk := rfl
@[simp] theorem State.set_pins (s : State) (f : Fld) (v : Nat) : (s.set f v).pins = s.pins := rfl
@[simp] theorem State.set_watch (s : State) (f : Fld) (v : Nat) : (s.set f v).watch = s.watch := rfl
@[simp] theorem State.set_dbk (s : State) (f : Fld) (v : Nat) : (s.set f v).dbk = s.dbk := rfl
@[simp] theorem State.set_lgr (s : State) (f : Fld) (v : Nat) : (s.set f v).lgr = s.lgr := rfl
@[simp] theorem State.set_pwr (s : State) (f : Fld) (v : Nat) : (s.set f v).pwr = s.pwr := rfl
@[simp] theorem State.set_flash (s : State) (f : Fld) (v : Nat) : (s.set f v).flash = s.flash := rfl
@[simp] theorem State.set_sec (s : State) (f : Fld) (v : Nat) : (s.set f v).sec = s.sec := rfl
@[simp] theorem State.set_cores (s : State) (f : Fld) (v : Nat) : (s.set f v).cores = s.cores := rfl
@[simp] theorem State.set_jmem (s : State) (f : Fld) (v : Nat) : (s.set f v).jmem = s.jmem := rfl
@[simp] theorem State.set_forme (s : State) (f : Fld) (v : Nat) : (s.set f v).forme = s.forme := rfl
@[simp] theorem State.set_mem (s : State) (f : Fld) (v : Nat) : (s.set f v).mem = s.mem := rfl
@[simp] theorem State.set_sram (s : State) (f : Fld) (v : Nat) : (s.set f v).sram = s.sram := rfl
@[simp] theorem State.set_asy (s : State) (f : Fld) (v : Nat) : (s.set f v).asy = s.asy := rfl
@[simp] theorem State.set_plt (s : State) (f : Fld) (v : Nat) : (s.set f v).plt = s.plt := rfl
@[simp] theorem State.set_bdl (s : State) (f : Fld) (v : Nat) : (s.set f v).bdl = s.bdl := rfl
@[simp] theorem State.set_hed (s : State) (f : Fld) (v : Nat) : (s.set f v).hed = s.hed := rfl
@[simp] theorem State.set_esc (s : State) (f : Fld) (v : Nat) : (s.set f v).esc = s.esc := rfl
@[simp] theorem State.set_gov (s : State) (f : Fld) (v : Nat) : (s.set f v).gov = s.gov := rfl
@[simp] theorem State.set_kor (s : State) (f : Fld) (v : Nat) : (s.set f v).kor = s.kor := rfl
@[simp] theorem State.set_prt (s : State) (f : Fld) (v : Nat) : (s.set f v).prt = s.prt := rfl
@[simp] theorem State.set_msix (s : State) (f : Fld) (v : Nat) : (s.set f v).msix = s.msix := rfl
@[simp] theorem State.set_copy (s : State) (f : Fld) (v : Nat) : (s.set f v).copy = s.copy := rfl
@[simp] theorem State.set_vis (s : State) (f : Fld) (v : Nat) : (s.set f v).vis = s.vis := rfl
@[simp] theorem State.set_gau (s : State) (f : Fld) (v : Nat) : (s.set f v).gau = s.gau := rfl
@[simp] theorem State.set_out (s : State) (f : Fld) (v : Nat) : (s.set f v).out = s.out := rfl
@[simp] theorem State.set_pending (s : State) (f : Fld) (v : Nat) : (s.set f v).pending = s.pending := rfl

/-! ### addN -/
@[simp] theorem State.addN_force (s : State) (f : Fld) (n : Nat) : (s.addN f n).force = s.force := rfl
@[simp] theorem State.addN_strip (s : State) (f : Fld) (n : Nat) : (s.addN f n).strip = s.strip := rfl
@[simp] theorem State.addN_snapRegs (s : State) (f : Fld) (n : Nat) : (s.addN f n).snapRegs = s.snapRegs := rfl
@[simp] theorem State.addN_snapForce (s : State) (f : Fld) (n : Nat) : (s.addN f n).snapForce = s.snapForce := rfl
@[simp] theorem State.addN_snapWork (s : State) (f : Fld) (n : Nat) : (s.addN f n).snapWork = s.snapWork := rfl
@[simp] theorem State.addN_rdata (s : State) (f : Fld) (n : Nat) : (s.addN f n).rdata = s.rdata := rfl
@[simp] theorem State.addN_clk (s : State) (f : Fld) (n : Nat) : (s.addN f n).clk = s.clk := rfl
@[simp] theorem State.addN_pins (s : State) (f : Fld) (n : Nat) : (s.addN f n).pins = s.pins := rfl
@[simp] theorem State.addN_watch (s : State) (f : Fld) (n : Nat) : (s.addN f n).watch = s.watch := rfl
@[simp] theorem State.addN_dbk (s : State) (f : Fld) (n : Nat) : (s.addN f n).dbk = s.dbk := rfl
@[simp] theorem State.addN_lgr (s : State) (f : Fld) (n : Nat) : (s.addN f n).lgr = s.lgr := rfl
@[simp] theorem State.addN_pwr (s : State) (f : Fld) (n : Nat) : (s.addN f n).pwr = s.pwr := rfl
@[simp] theorem State.addN_flash (s : State) (f : Fld) (n : Nat) : (s.addN f n).flash = s.flash := rfl
@[simp] theorem State.addN_sec (s : State) (f : Fld) (n : Nat) : (s.addN f n).sec = s.sec := rfl
@[simp] theorem State.addN_cores (s : State) (f : Fld) (n : Nat) : (s.addN f n).cores = s.cores := rfl
@[simp] theorem State.addN_jmem (s : State) (f : Fld) (n : Nat) : (s.addN f n).jmem = s.jmem := rfl
@[simp] theorem State.addN_forme (s : State) (f : Fld) (n : Nat) : (s.addN f n).forme = s.forme := rfl
@[simp] theorem State.addN_mem (s : State) (f : Fld) (n : Nat) : (s.addN f n).mem = s.mem := rfl
@[simp] theorem State.addN_sram (s : State) (f : Fld) (n : Nat) : (s.addN f n).sram = s.sram := rfl
@[simp] theorem State.addN_asy (s : State) (f : Fld) (n : Nat) : (s.addN f n).asy = s.asy := rfl
@[simp] theorem State.addN_plt (s : State) (f : Fld) (n : Nat) : (s.addN f n).plt = s.plt := rfl
@[simp] theorem State.addN_bdl (s : State) (f : Fld) (n : Nat) : (s.addN f n).bdl = s.bdl := rfl
@[simp] theorem State.addN_hed (s : State) (f : Fld) (n : Nat) : (s.addN f n).hed = s.hed := rfl
@[simp] theorem State.addN_esc (s : State) (f : Fld) (n : Nat) : (s.addN f n).esc = s.esc := rfl
@[simp] theorem State.addN_gov (s : State) (f : Fld) (n : Nat) : (s.addN f n).gov = s.gov := rfl
@[simp] theorem State.addN_kor (s : State) (f : Fld) (n : Nat) : (s.addN f n).kor = s.kor := rfl
@[simp] theorem State.addN_prt (s : State) (f : Fld) (n : Nat) : (s.addN f n).prt = s.prt := rfl
@[simp] theorem State.addN_msix (s : State) (f : Fld) (n : Nat) : (s.addN f n).msix = s.msix := rfl
@[simp] theorem State.addN_copy (s : State) (f : Fld) (n : Nat) : (s.addN f n).copy = s.copy := rfl
@[simp] theorem State.addN_vis (s : State) (f : Fld) (n : Nat) : (s.addN f n).vis = s.vis := rfl
@[simp] theorem State.addN_gau (s : State) (f : Fld) (n : Nat) : (s.addN f n).gau = s.gau := rfl
@[simp] theorem State.addN_out (s : State) (f : Fld) (n : Nat) : (s.addN f n).out = s.out := rfl
@[simp] theorem State.addN_pending (s : State) (f : Fld) (n : Nat) : (s.addN f n).pending = s.pending := rfl

/-! ### inc -/
@[simp] theorem State.inc_force (s : State) (f : Fld) : (s.inc f).force = s.force := rfl
@[simp] theorem State.inc_strip (s : State) (f : Fld) : (s.inc f).strip = s.strip := rfl
@[simp] theorem State.inc_snapRegs (s : State) (f : Fld) : (s.inc f).snapRegs = s.snapRegs := rfl
@[simp] theorem State.inc_snapForce (s : State) (f : Fld) : (s.inc f).snapForce = s.snapForce := rfl
@[simp] theorem State.inc_snapWork (s : State) (f : Fld) : (s.inc f).snapWork = s.snapWork := rfl
@[simp] theorem State.inc_rdata (s : State) (f : Fld) : (s.inc f).rdata = s.rdata := rfl
@[simp] theorem State.inc_clk (s : State) (f : Fld) : (s.inc f).clk = s.clk := rfl
@[simp] theorem State.inc_pins (s : State) (f : Fld) : (s.inc f).pins = s.pins := rfl
@[simp] theorem State.inc_watch (s : State) (f : Fld) : (s.inc f).watch = s.watch := rfl
@[simp] theorem State.inc_dbk (s : State) (f : Fld) : (s.inc f).dbk = s.dbk := rfl
@[simp] theorem State.inc_lgr (s : State) (f : Fld) : (s.inc f).lgr = s.lgr := rfl
@[simp] theorem State.inc_pwr (s : State) (f : Fld) : (s.inc f).pwr = s.pwr := rfl
@[simp] theorem State.inc_flash (s : State) (f : Fld) : (s.inc f).flash = s.flash := rfl
@[simp] theorem State.inc_sec (s : State) (f : Fld) : (s.inc f).sec = s.sec := rfl
@[simp] theorem State.inc_cores (s : State) (f : Fld) : (s.inc f).cores = s.cores := rfl
@[simp] theorem State.inc_jmem (s : State) (f : Fld) : (s.inc f).jmem = s.jmem := rfl
@[simp] theorem State.inc_forme (s : State) (f : Fld) : (s.inc f).forme = s.forme := rfl
@[simp] theorem State.inc_mem (s : State) (f : Fld) : (s.inc f).mem = s.mem := rfl
@[simp] theorem State.inc_sram (s : State) (f : Fld) : (s.inc f).sram = s.sram := rfl
@[simp] theorem State.inc_asy (s : State) (f : Fld) : (s.inc f).asy = s.asy := rfl
@[simp] theorem State.inc_plt (s : State) (f : Fld) : (s.inc f).plt = s.plt := rfl
@[simp] theorem State.inc_bdl (s : State) (f : Fld) : (s.inc f).bdl = s.bdl := rfl
@[simp] theorem State.inc_hed (s : State) (f : Fld) : (s.inc f).hed = s.hed := rfl
@[simp] theorem State.inc_esc (s : State) (f : Fld) : (s.inc f).esc = s.esc := rfl
@[simp] theorem State.inc_gov (s : State) (f : Fld) : (s.inc f).gov = s.gov := rfl
@[simp] theorem State.inc_kor (s : State) (f : Fld) : (s.inc f).kor = s.kor := rfl
@[simp] theorem State.inc_prt (s : State) (f : Fld) : (s.inc f).prt = s.prt := rfl
@[simp] theorem State.inc_msix (s : State) (f : Fld) : (s.inc f).msix = s.msix := rfl
@[simp] theorem State.inc_copy (s : State) (f : Fld) : (s.inc f).copy = s.copy := rfl
@[simp] theorem State.inc_vis (s : State) (f : Fld) : (s.inc f).vis = s.vis := rfl
@[simp] theorem State.inc_gau (s : State) (f : Fld) : (s.inc f).gau = s.gau := rfl
@[simp] theorem State.inc_out (s : State) (f : Fld) : (s.inc f).out = s.out := rfl
@[simp] theorem State.inc_pending (s : State) (f : Fld) : (s.inc f).pending = s.pending := rfl

/-! ### setB -/
@[simp] theorem State.setB_force (s : State) (f : Fld) (b : Bool) : (s.setB f b).force = s.force := rfl
@[simp] theorem State.setB_strip (s : State) (f : Fld) (b : Bool) : (s.setB f b).strip = s.strip := rfl
@[simp] theorem State.setB_snapRegs (s : State) (f : Fld) (b : Bool) : (s.setB f b).snapRegs = s.snapRegs := rfl
@[simp] theorem State.setB_snapForce (s : State) (f : Fld) (b : Bool) : (s.setB f b).snapForce = s.snapForce := rfl
@[simp] theorem State.setB_snapWork (s : State) (f : Fld) (b : Bool) : (s.setB f b).snapWork = s.snapWork := rfl
@[simp] theorem State.setB_rdata (s : State) (f : Fld) (b : Bool) : (s.setB f b).rdata = s.rdata := rfl
@[simp] theorem State.setB_clk (s : State) (f : Fld) (b : Bool) : (s.setB f b).clk = s.clk := rfl
@[simp] theorem State.setB_pins (s : State) (f : Fld) (b : Bool) : (s.setB f b).pins = s.pins := rfl
@[simp] theorem State.setB_watch (s : State) (f : Fld) (b : Bool) : (s.setB f b).watch = s.watch := rfl
@[simp] theorem State.setB_dbk (s : State) (f : Fld) (b : Bool) : (s.setB f b).dbk = s.dbk := rfl
@[simp] theorem State.setB_lgr (s : State) (f : Fld) (b : Bool) : (s.setB f b).lgr = s.lgr := rfl
@[simp] theorem State.setB_pwr (s : State) (f : Fld) (b : Bool) : (s.setB f b).pwr = s.pwr := rfl
@[simp] theorem State.setB_flash (s : State) (f : Fld) (b : Bool) : (s.setB f b).flash = s.flash := rfl
@[simp] theorem State.setB_sec (s : State) (f : Fld) (b : Bool) : (s.setB f b).sec = s.sec := rfl
@[simp] theorem State.setB_cores (s : State) (f : Fld) (b : Bool) : (s.setB f b).cores = s.cores := rfl
@[simp] theorem State.setB_jmem (s : State) (f : Fld) (b : Bool) : (s.setB f b).jmem = s.jmem := rfl
@[simp] theorem State.setB_forme (s : State) (f : Fld) (b : Bool) : (s.setB f b).forme = s.forme := rfl
@[simp] theorem State.setB_mem (s : State) (f : Fld) (b : Bool) : (s.setB f b).mem = s.mem := rfl
@[simp] theorem State.setB_sram (s : State) (f : Fld) (b : Bool) : (s.setB f b).sram = s.sram := rfl
@[simp] theorem State.setB_asy (s : State) (f : Fld) (b : Bool) : (s.setB f b).asy = s.asy := rfl
@[simp] theorem State.setB_plt (s : State) (f : Fld) (b : Bool) : (s.setB f b).plt = s.plt := rfl
@[simp] theorem State.setB_bdl (s : State) (f : Fld) (b : Bool) : (s.setB f b).bdl = s.bdl := rfl
@[simp] theorem State.setB_hed (s : State) (f : Fld) (b : Bool) : (s.setB f b).hed = s.hed := rfl
@[simp] theorem State.setB_esc (s : State) (f : Fld) (b : Bool) : (s.setB f b).esc = s.esc := rfl
@[simp] theorem State.setB_gov (s : State) (f : Fld) (b : Bool) : (s.setB f b).gov = s.gov := rfl
@[simp] theorem State.setB_kor (s : State) (f : Fld) (b : Bool) : (s.setB f b).kor = s.kor := rfl
@[simp] theorem State.setB_prt (s : State) (f : Fld) (b : Bool) : (s.setB f b).prt = s.prt := rfl
@[simp] theorem State.setB_msix (s : State) (f : Fld) (b : Bool) : (s.setB f b).msix = s.msix := rfl
@[simp] theorem State.setB_copy (s : State) (f : Fld) (b : Bool) : (s.setB f b).copy = s.copy := rfl
@[simp] theorem State.setB_vis (s : State) (f : Fld) (b : Bool) : (s.setB f b).vis = s.vis := rfl
@[simp] theorem State.setB_gau (s : State) (f : Fld) (b : Bool) : (s.setB f b).gau = s.gau := rfl
@[simp] theorem State.setB_out (s : State) (f : Fld) (b : Bool) : (s.setB f b).out = s.out := rfl
@[simp] theorem State.setB_pending (s : State) (f : Fld) (b : Bool) : (s.setB f b).pending = s.pending := rfl

/-! ### setS -/
@[simp] theorem State.setS_force (s : State) (f : Fld) (v : Int) : (s.setS f v).force = s.force := rfl
@[simp] theorem State.setS_strip (s : State) (f : Fld) (v : Int) : (s.setS f v).strip = s.strip := rfl
@[simp] theorem State.setS_snapRegs (s : State) (f : Fld) (v : Int) : (s.setS f v).snapRegs = s.snapRegs := rfl
@[simp] theorem State.setS_snapForce (s : State) (f : Fld) (v : Int) : (s.setS f v).snapForce = s.snapForce := rfl
@[simp] theorem State.setS_snapWork (s : State) (f : Fld) (v : Int) : (s.setS f v).snapWork = s.snapWork := rfl
@[simp] theorem State.setS_rdata (s : State) (f : Fld) (v : Int) : (s.setS f v).rdata = s.rdata := rfl
@[simp] theorem State.setS_clk (s : State) (f : Fld) (v : Int) : (s.setS f v).clk = s.clk := rfl
@[simp] theorem State.setS_pins (s : State) (f : Fld) (v : Int) : (s.setS f v).pins = s.pins := rfl
@[simp] theorem State.setS_watch (s : State) (f : Fld) (v : Int) : (s.setS f v).watch = s.watch := rfl
@[simp] theorem State.setS_dbk (s : State) (f : Fld) (v : Int) : (s.setS f v).dbk = s.dbk := rfl
@[simp] theorem State.setS_lgr (s : State) (f : Fld) (v : Int) : (s.setS f v).lgr = s.lgr := rfl
@[simp] theorem State.setS_pwr (s : State) (f : Fld) (v : Int) : (s.setS f v).pwr = s.pwr := rfl
@[simp] theorem State.setS_flash (s : State) (f : Fld) (v : Int) : (s.setS f v).flash = s.flash := rfl
@[simp] theorem State.setS_sec (s : State) (f : Fld) (v : Int) : (s.setS f v).sec = s.sec := rfl
@[simp] theorem State.setS_cores (s : State) (f : Fld) (v : Int) : (s.setS f v).cores = s.cores := rfl
@[simp] theorem State.setS_jmem (s : State) (f : Fld) (v : Int) : (s.setS f v).jmem = s.jmem := rfl
@[simp] theorem State.setS_forme (s : State) (f : Fld) (v : Int) : (s.setS f v).forme = s.forme := rfl
@[simp] theorem State.setS_mem (s : State) (f : Fld) (v : Int) : (s.setS f v).mem = s.mem := rfl
@[simp] theorem State.setS_sram (s : State) (f : Fld) (v : Int) : (s.setS f v).sram = s.sram := rfl
@[simp] theorem State.setS_asy (s : State) (f : Fld) (v : Int) : (s.setS f v).asy = s.asy := rfl
@[simp] theorem State.setS_plt (s : State) (f : Fld) (v : Int) : (s.setS f v).plt = s.plt := rfl
@[simp] theorem State.setS_bdl (s : State) (f : Fld) (v : Int) : (s.setS f v).bdl = s.bdl := rfl
@[simp] theorem State.setS_hed (s : State) (f : Fld) (v : Int) : (s.setS f v).hed = s.hed := rfl
@[simp] theorem State.setS_esc (s : State) (f : Fld) (v : Int) : (s.setS f v).esc = s.esc := rfl
@[simp] theorem State.setS_gov (s : State) (f : Fld) (v : Int) : (s.setS f v).gov = s.gov := rfl
@[simp] theorem State.setS_kor (s : State) (f : Fld) (v : Int) : (s.setS f v).kor = s.kor := rfl
@[simp] theorem State.setS_prt (s : State) (f : Fld) (v : Int) : (s.setS f v).prt = s.prt := rfl
@[simp] theorem State.setS_msix (s : State) (f : Fld) (v : Int) : (s.setS f v).msix = s.msix := rfl
@[simp] theorem State.setS_copy (s : State) (f : Fld) (v : Int) : (s.setS f v).copy = s.copy := rfl
@[simp] theorem State.setS_vis (s : State) (f : Fld) (v : Int) : (s.setS f v).vis = s.vis := rfl
@[simp] theorem State.setS_gau (s : State) (f : Fld) (v : Int) : (s.setS f v).gau = s.gau := rfl
@[simp] theorem State.setS_out (s : State) (f : Fld) (v : Int) : (s.setS f v).out = s.out := rfl
@[simp] theorem State.setS_pending (s : State) (f : Fld) (v : Int) : (s.setS f v).pending = s.pending := rfl

/-! ### setMax -/
@[simp] theorem State.setMax_force (s : State) (f : Fld) (v : Nat) : (s.setMax f v).force = s.force := rfl
@[simp] theorem State.setMax_strip (s : State) (f : Fld) (v : Nat) : (s.setMax f v).strip = s.strip := rfl
@[simp] theorem State.setMax_snapRegs (s : State) (f : Fld) (v : Nat) : (s.setMax f v).snapRegs = s.snapRegs := rfl
@[simp] theorem State.setMax_snapForce (s : State) (f : Fld) (v : Nat) : (s.setMax f v).snapForce = s.snapForce := rfl
@[simp] theorem State.setMax_snapWork (s : State) (f : Fld) (v : Nat) : (s.setMax f v).snapWork = s.snapWork := rfl
@[simp] theorem State.setMax_rdata (s : State) (f : Fld) (v : Nat) : (s.setMax f v).rdata = s.rdata := rfl
@[simp] theorem State.setMax_clk (s : State) (f : Fld) (v : Nat) : (s.setMax f v).clk = s.clk := rfl
@[simp] theorem State.setMax_pins (s : State) (f : Fld) (v : Nat) : (s.setMax f v).pins = s.pins := rfl
@[simp] theorem State.setMax_watch (s : State) (f : Fld) (v : Nat) : (s.setMax f v).watch = s.watch := rfl
@[simp] theorem State.setMax_dbk (s : State) (f : Fld) (v : Nat) : (s.setMax f v).dbk = s.dbk := rfl
@[simp] theorem State.setMax_lgr (s : State) (f : Fld) (v : Nat) : (s.setMax f v).lgr = s.lgr := rfl
@[simp] theorem State.setMax_pwr (s : State) (f : Fld) (v : Nat) : (s.setMax f v).pwr = s.pwr := rfl
@[simp] theorem State.setMax_flash (s : State) (f : Fld) (v : Nat) : (s.setMax f v).flash = s.flash := rfl
@[simp] theorem State.setMax_sec (s : State) (f : Fld) (v : Nat) : (s.setMax f v).sec = s.sec := rfl
@[simp] theorem State.setMax_cores (s : State) (f : Fld) (v : Nat) : (s.setMax f v).cores = s.cores := rfl
@[simp] theorem State.setMax_jmem (s : State) (f : Fld) (v : Nat) : (s.setMax f v).jmem = s.jmem := rfl
@[simp] theorem State.setMax_forme (s : State) (f : Fld) (v : Nat) : (s.setMax f v).forme = s.forme := rfl
@[simp] theorem State.setMax_mem (s : State) (f : Fld) (v : Nat) : (s.setMax f v).mem = s.mem := rfl
@[simp] theorem State.setMax_sram (s : State) (f : Fld) (v : Nat) : (s.setMax f v).sram = s.sram := rfl
@[simp] theorem State.setMax_asy (s : State) (f : Fld) (v : Nat) : (s.setMax f v).asy = s.asy := rfl
@[simp] theorem State.setMax_plt (s : State) (f : Fld) (v : Nat) : (s.setMax f v).plt = s.plt := rfl
@[simp] theorem State.setMax_bdl (s : State) (f : Fld) (v : Nat) : (s.setMax f v).bdl = s.bdl := rfl
@[simp] theorem State.setMax_hed (s : State) (f : Fld) (v : Nat) : (s.setMax f v).hed = s.hed := rfl
@[simp] theorem State.setMax_esc (s : State) (f : Fld) (v : Nat) : (s.setMax f v).esc = s.esc := rfl
@[simp] theorem State.setMax_gov (s : State) (f : Fld) (v : Nat) : (s.setMax f v).gov = s.gov := rfl
@[simp] theorem State.setMax_kor (s : State) (f : Fld) (v : Nat) : (s.setMax f v).kor = s.kor := rfl
@[simp] theorem State.setMax_prt (s : State) (f : Fld) (v : Nat) : (s.setMax f v).prt = s.prt := rfl
@[simp] theorem State.setMax_msix (s : State) (f : Fld) (v : Nat) : (s.setMax f v).msix = s.msix := rfl
@[simp] theorem State.setMax_copy (s : State) (f : Fld) (v : Nat) : (s.setMax f v).copy = s.copy := rfl
@[simp] theorem State.setMax_vis (s : State) (f : Fld) (v : Nat) : (s.setMax f v).vis = s.vis := rfl
@[simp] theorem State.setMax_gau (s : State) (f : Fld) (v : Nat) : (s.setMax f v).gau = s.gau := rfl
@[simp] theorem State.setMax_out (s : State) (f : Fld) (v : Nat) : (s.setMax f v).out = s.out := rfl
@[simp] theorem State.setMax_pending (s : State) (f : Fld) (v : Nat) : (s.setMax f v).pending = s.pending := rfl

/-! ### setMin -/
@[simp] theorem State.setMin_force (s : State) (f : Fld) (v : Nat) : (s.setMin f v).force = s.force := rfl
@[simp] theorem State.setMin_strip (s : State) (f : Fld) (v : Nat) : (s.setMin f v).strip = s.strip := rfl
@[simp] theorem State.setMin_snapRegs (s : State) (f : Fld) (v : Nat) : (s.setMin f v).snapRegs = s.snapRegs := rfl
@[simp] theorem State.setMin_snapForce (s : State) (f : Fld) (v : Nat) : (s.setMin f v).snapForce = s.snapForce := rfl
@[simp] theorem State.setMin_snapWork (s : State) (f : Fld) (v : Nat) : (s.setMin f v).snapWork = s.snapWork := rfl
@[simp] theorem State.setMin_rdata (s : State) (f : Fld) (v : Nat) : (s.setMin f v).rdata = s.rdata := rfl
@[simp] theorem State.setMin_clk (s : State) (f : Fld) (v : Nat) : (s.setMin f v).clk = s.clk := rfl
@[simp] theorem State.setMin_pins (s : State) (f : Fld) (v : Nat) : (s.setMin f v).pins = s.pins := rfl
@[simp] theorem State.setMin_watch (s : State) (f : Fld) (v : Nat) : (s.setMin f v).watch = s.watch := rfl
@[simp] theorem State.setMin_dbk (s : State) (f : Fld) (v : Nat) : (s.setMin f v).dbk = s.dbk := rfl
@[simp] theorem State.setMin_lgr (s : State) (f : Fld) (v : Nat) : (s.setMin f v).lgr = s.lgr := rfl
@[simp] theorem State.setMin_pwr (s : State) (f : Fld) (v : Nat) : (s.setMin f v).pwr = s.pwr := rfl
@[simp] theorem State.setMin_flash (s : State) (f : Fld) (v : Nat) : (s.setMin f v).flash = s.flash := rfl
@[simp] theorem State.setMin_sec (s : State) (f : Fld) (v : Nat) : (s.setMin f v).sec = s.sec := rfl
@[simp] theorem State.setMin_cores (s : State) (f : Fld) (v : Nat) : (s.setMin f v).cores = s.cores := rfl
@[simp] theorem State.setMin_jmem (s : State) (f : Fld) (v : Nat) : (s.setMin f v).jmem = s.jmem := rfl
@[simp] theorem State.setMin_forme (s : State) (f : Fld) (v : Nat) : (s.setMin f v).forme = s.forme := rfl
@[simp] theorem State.setMin_mem (s : State) (f : Fld) (v : Nat) : (s.setMin f v).mem = s.mem := rfl
@[simp] theorem State.setMin_sram (s : State) (f : Fld) (v : Nat) : (s.setMin f v).sram = s.sram := rfl
@[simp] theorem State.setMin_asy (s : State) (f : Fld) (v : Nat) : (s.setMin f v).asy = s.asy := rfl
@[simp] theorem State.setMin_plt (s : State) (f : Fld) (v : Nat) : (s.setMin f v).plt = s.plt := rfl
@[simp] theorem State.setMin_bdl (s : State) (f : Fld) (v : Nat) : (s.setMin f v).bdl = s.bdl := rfl
@[simp] theorem State.setMin_hed (s : State) (f : Fld) (v : Nat) : (s.setMin f v).hed = s.hed := rfl
@[simp] theorem State.setMin_esc (s : State) (f : Fld) (v : Nat) : (s.setMin f v).esc = s.esc := rfl
@[simp] theorem State.setMin_gov (s : State) (f : Fld) (v : Nat) : (s.setMin f v).gov = s.gov := rfl
@[simp] theorem State.setMin_kor (s : State) (f : Fld) (v : Nat) : (s.setMin f v).kor = s.kor := rfl
@[simp] theorem State.setMin_prt (s : State) (f : Fld) (v : Nat) : (s.setMin f v).prt = s.prt := rfl
@[simp] theorem State.setMin_msix (s : State) (f : Fld) (v : Nat) : (s.setMin f v).msix = s.msix := rfl
@[simp] theorem State.setMin_copy (s : State) (f : Fld) (v : Nat) : (s.setMin f v).copy = s.copy := rfl
@[simp] theorem State.setMin_vis (s : State) (f : Fld) (v : Nat) : (s.setMin f v).vis = s.vis := rfl
@[simp] theorem State.setMin_gau (s : State) (f : Fld) (v : Nat) : (s.setMin f v).gau = s.gau := rfl
@[simp] theorem State.setMin_out (s : State) (f : Fld) (v : Nat) : (s.setMin f v).out = s.out := rfl
@[simp] theorem State.setMin_pending (s : State) (f : Fld) (v : Nat) : (s.setMin f v).pending = s.pending := rfl

/-! ### at -/
@[simp] theorem State.at_regs (s : State) (t : Nat) : (s.at t).regs = s.regs := rfl
@[simp] theorem State.at_force (s : State) (t : Nat) : (s.at t).force = s.force := rfl
@[simp] theorem State.at_strip (s : State) (t : Nat) : (s.at t).strip = s.strip := rfl
@[simp] theorem State.at_snapRegs (s : State) (t : Nat) : (s.at t).snapRegs = s.snapRegs := rfl
@[simp] theorem State.at_snapForce (s : State) (t : Nat) : (s.at t).snapForce = s.snapForce := rfl
@[simp] theorem State.at_snapWork (s : State) (t : Nat) : (s.at t).snapWork = s.snapWork := rfl
@[simp] theorem State.at_rdata (s : State) (t : Nat) : (s.at t).rdata = s.rdata := rfl
@[simp] theorem State.at_pins (s : State) (t : Nat) : (s.at t).pins = s.pins := rfl
@[simp] theorem State.at_watch (s : State) (t : Nat) : (s.at t).watch = s.watch := rfl
@[simp] theorem State.at_dbk (s : State) (t : Nat) : (s.at t).dbk = s.dbk := rfl
@[simp] theorem State.at_lgr (s : State) (t : Nat) : (s.at t).lgr = s.lgr := rfl
@[simp] theorem State.at_pwr (s : State) (t : Nat) : (s.at t).pwr = s.pwr := rfl
@[simp] theorem State.at_flash (s : State) (t : Nat) : (s.at t).flash = s.flash := rfl
@[simp] theorem State.at_sec (s : State) (t : Nat) : (s.at t).sec = s.sec := rfl
@[simp] theorem State.at_cores (s : State) (t : Nat) : (s.at t).cores = s.cores := rfl
@[simp] theorem State.at_jmem (s : State) (t : Nat) : (s.at t).jmem = s.jmem := rfl
@[simp] theorem State.at_forme (s : State) (t : Nat) : (s.at t).forme = s.forme := rfl
@[simp] theorem State.at_mem (s : State) (t : Nat) : (s.at t).mem = s.mem := rfl
@[simp] theorem State.at_sram (s : State) (t : Nat) : (s.at t).sram = s.sram := rfl
@[simp] theorem State.at_asy (s : State) (t : Nat) : (s.at t).asy = s.asy := rfl
@[simp] theorem State.at_plt (s : State) (t : Nat) : (s.at t).plt = s.plt := rfl
@[simp] theorem State.at_bdl (s : State) (t : Nat) : (s.at t).bdl = s.bdl := rfl
@[simp] theorem State.at_hed (s : State) (t : Nat) : (s.at t).hed = s.hed := rfl
@[simp] theorem State.at_esc (s : State) (t : Nat) : (s.at t).esc = s.esc := rfl
@[simp] theorem State.at_gov (s : State) (t : Nat) : (s.at t).gov = s.gov := rfl
@[simp] theorem State.at_kor (s : State) (t : Nat) : (s.at t).kor = s.kor := rfl
@[simp] theorem State.at_prt (s : State) (t : Nat) : (s.at t).prt = s.prt := rfl
@[simp] theorem State.at_msix (s : State) (t : Nat) : (s.at t).msix = s.msix := rfl
@[simp] theorem State.at_copy (s : State) (t : Nat) : (s.at t).copy = s.copy := rfl
@[simp] theorem State.at_vis (s : State) (t : Nat) : (s.at t).vis = s.vis := rfl
@[simp] theorem State.at_gau (s : State) (t : Nat) : (s.at t).gau = s.gau := rfl
@[simp] theorem State.at_out (s : State) (t : Nat) : (s.at t).out = s.out := rfl
@[simp] theorem State.at_pending (s : State) (t : Nat) : (s.at t).pending = s.pending := rfl
@[simp] theorem State.at_get (s : State) (t : Nat) (g : Fld) : (s.at t).get g = s.get g := rfl
@[simp] theorem State.at_flag (s : State) (t : Nat) (g : Fld) : (s.at t).flag g = s.flag g := rfl
@[simp] theorem State.at_domUp (s : State) (t : Nat) (d : Dom) : (s.at t).domUp d = s.domUp d := rfl
@[simp] theorem State.at_memUp (s : State) (t : Nat) : (s.at t).memUp = s.memUp := rfl

/-! ### beat -/
@[simp] theorem State.beat_regs (s : State) (b : Beat) : (s.beat b).regs = s.regs := rfl
@[simp] theorem State.beat_force (s : State) (b : Beat) : (s.beat b).force = s.force := rfl
@[simp] theorem State.beat_strip (s : State) (b : Beat) : (s.beat b).strip = s.strip := rfl
@[simp] theorem State.beat_snapRegs (s : State) (b : Beat) : (s.beat b).snapRegs = s.snapRegs := rfl
@[simp] theorem State.beat_snapForce (s : State) (b : Beat) : (s.beat b).snapForce = s.snapForce := rfl
@[simp] theorem State.beat_snapWork (s : State) (b : Beat) : (s.beat b).snapWork = s.snapWork := rfl
@[simp] theorem State.beat_rdata (s : State) (b : Beat) : (s.beat b).rdata = s.rdata := rfl
@[simp] theorem State.beat_pins (s : State) (b : Beat) : (s.beat b).pins = s.pins := rfl
@[simp] theorem State.beat_watch (s : State) (b : Beat) : (s.beat b).watch = s.watch := rfl
@[simp] theorem State.beat_dbk (s : State) (b : Beat) : (s.beat b).dbk = s.dbk := rfl
@[simp] theorem State.beat_lgr (s : State) (b : Beat) : (s.beat b).lgr = s.lgr := rfl
@[simp] theorem State.beat_pwr (s : State) (b : Beat) : (s.beat b).pwr = s.pwr := rfl
@[simp] theorem State.beat_flash (s : State) (b : Beat) : (s.beat b).flash = s.flash := rfl
@[simp] theorem State.beat_sec (s : State) (b : Beat) : (s.beat b).sec = s.sec := rfl
@[simp] theorem State.beat_cores (s : State) (b : Beat) : (s.beat b).cores = s.cores := rfl
@[simp] theorem State.beat_jmem (s : State) (b : Beat) : (s.beat b).jmem = s.jmem := rfl
@[simp] theorem State.beat_forme (s : State) (b : Beat) : (s.beat b).forme = s.forme := rfl
@[simp] theorem State.beat_mem (s : State) (b : Beat) : (s.beat b).mem = s.mem := rfl
@[simp] theorem State.beat_sram (s : State) (b : Beat) : (s.beat b).sram = s.sram := rfl
@[simp] theorem State.beat_asy (s : State) (b : Beat) : (s.beat b).asy = s.asy := rfl
@[simp] theorem State.beat_plt (s : State) (b : Beat) : (s.beat b).plt = s.plt := rfl
@[simp] theorem State.beat_bdl (s : State) (b : Beat) : (s.beat b).bdl = s.bdl := rfl
@[simp] theorem State.beat_hed (s : State) (b : Beat) : (s.beat b).hed = s.hed := rfl
@[simp] theorem State.beat_esc (s : State) (b : Beat) : (s.beat b).esc = s.esc := rfl
@[simp] theorem State.beat_gov (s : State) (b : Beat) : (s.beat b).gov = s.gov := rfl
@[simp] theorem State.beat_kor (s : State) (b : Beat) : (s.beat b).kor = s.kor := rfl
@[simp] theorem State.beat_prt (s : State) (b : Beat) : (s.beat b).prt = s.prt := rfl
@[simp] theorem State.beat_msix (s : State) (b : Beat) : (s.beat b).msix = s.msix := rfl
@[simp] theorem State.beat_copy (s : State) (b : Beat) : (s.beat b).copy = s.copy := rfl
@[simp] theorem State.beat_vis (s : State) (b : Beat) : (s.beat b).vis = s.vis := rfl
@[simp] theorem State.beat_gau (s : State) (b : Beat) : (s.beat b).gau = s.gau := rfl
@[simp] theorem State.beat_out (s : State) (b : Beat) : (s.beat b).out = s.out := rfl
@[simp] theorem State.beat_pending (s : State) (b : Beat) : (s.beat b).pending = s.pending := rfl
@[simp] theorem State.beat_get (s : State) (b : Beat) (g : Fld) : (s.beat b).get g = s.get g := rfl
@[simp] theorem State.beat_flag (s : State) (b : Beat) (g : Fld) : (s.beat b).flag g = s.flag g := rfl
@[simp] theorem State.beat_domUp (s : State) (b : Beat) (d : Dom) : (s.beat b).domUp d = s.domUp d := rfl
@[simp] theorem State.beat_memUp (s : State) (b : Beat) : (s.beat b).memUp = s.memUp := rfl

/-! ### emit -/
@[simp] theorem State.emit_regs (s : State) (x : Tx) : (s.emit x).regs = s.regs := rfl
@[simp] theorem State.emit_force (s : State) (x : Tx) : (s.emit x).force = s.force := rfl
@[simp] theorem State.emit_strip (s : State) (x : Tx) : (s.emit x).strip = s.strip := rfl
@[simp] theorem State.emit_snapRegs (s : State) (x : Tx) : (s.emit x).snapRegs = s.snapRegs := rfl
@[simp] theorem State.emit_snapForce (s : State) (x : Tx) : (s.emit x).snapForce = s.snapForce := rfl
@[simp] theorem State.emit_snapWork (s : State) (x : Tx) : (s.emit x).snapWork = s.snapWork := rfl
@[simp] theorem State.emit_rdata (s : State) (x : Tx) : (s.emit x).rdata = s.rdata := rfl
@[simp] theorem State.emit_clk (s : State) (x : Tx) : (s.emit x).clk = s.clk := rfl
@[simp] theorem State.emit_pins (s : State) (x : Tx) : (s.emit x).pins = s.pins := rfl
@[simp] theorem State.emit_watch (s : State) (x : Tx) : (s.emit x).watch = s.watch := rfl
@[simp] theorem State.emit_dbk (s : State) (x : Tx) : (s.emit x).dbk = s.dbk := rfl
@[simp] theorem State.emit_lgr (s : State) (x : Tx) : (s.emit x).lgr = s.lgr := rfl
@[simp] theorem State.emit_pwr (s : State) (x : Tx) : (s.emit x).pwr = s.pwr := rfl
@[simp] theorem State.emit_flash (s : State) (x : Tx) : (s.emit x).flash = s.flash := rfl
@[simp] theorem State.emit_sec (s : State) (x : Tx) : (s.emit x).sec = s.sec := rfl
@[simp] theorem State.emit_cores (s : State) (x : Tx) : (s.emit x).cores = s.cores := rfl
@[simp] theorem State.emit_jmem (s : State) (x : Tx) : (s.emit x).jmem = s.jmem := rfl
@[simp] theorem State.emit_forme (s : State) (x : Tx) : (s.emit x).forme = s.forme := rfl
@[simp] theorem State.emit_mem (s : State) (x : Tx) : (s.emit x).mem = s.mem := rfl
@[simp] theorem State.emit_sram (s : State) (x : Tx) : (s.emit x).sram = s.sram := rfl
@[simp] theorem State.emit_asy (s : State) (x : Tx) : (s.emit x).asy = s.asy := rfl
@[simp] theorem State.emit_plt (s : State) (x : Tx) : (s.emit x).plt = s.plt := rfl
@[simp] theorem State.emit_bdl (s : State) (x : Tx) : (s.emit x).bdl = s.bdl := rfl
@[simp] theorem State.emit_hed (s : State) (x : Tx) : (s.emit x).hed = s.hed := rfl
@[simp] theorem State.emit_esc (s : State) (x : Tx) : (s.emit x).esc = s.esc := rfl
@[simp] theorem State.emit_gov (s : State) (x : Tx) : (s.emit x).gov = s.gov := rfl
@[simp] theorem State.emit_kor (s : State) (x : Tx) : (s.emit x).kor = s.kor := rfl
@[simp] theorem State.emit_prt (s : State) (x : Tx) : (s.emit x).prt = s.prt := rfl
@[simp] theorem State.emit_msix (s : State) (x : Tx) : (s.emit x).msix = s.msix := rfl
@[simp] theorem State.emit_copy (s : State) (x : Tx) : (s.emit x).copy = s.copy := rfl
@[simp] theorem State.emit_vis (s : State) (x : Tx) : (s.emit x).vis = s.vis := rfl
@[simp] theorem State.emit_gau (s : State) (x : Tx) : (s.emit x).gau = s.gau := rfl
@[simp] theorem State.emit_pending (s : State) (x : Tx) : (s.emit x).pending = s.pending := rfl
@[simp] theorem State.emit_get (s : State) (x : Tx) (g : Fld) : (s.emit x).get g = s.get g := rfl
@[simp] theorem State.emit_flag (s : State) (x : Tx) (g : Fld) : (s.emit x).flag g = s.flag g := rfl
@[simp] theorem State.emit_domUp (s : State) (x : Tx) (d : Dom) : (s.emit x).domUp d = s.domUp d := rfl
@[simp] theorem State.emit_memUp (s : State) (x : Tx) : (s.emit x).memUp = s.memUp := rfl

/-! ### setWsrc -/
@[simp] theorem State.setWsrc_regs (s : State) (n : Nat) (w : WSrc) : (s.setWsrc n w).regs = s.regs := rfl
@[simp] theorem State.setWsrc_force (s : State) (n : Nat) (w : WSrc) : (s.setWsrc n w).force = s.force := rfl
@[simp] theorem State.setWsrc_strip (s : State) (n : Nat) (w : WSrc) : (s.setWsrc n w).strip = s.strip := rfl
@[simp] theorem State.setWsrc_snapRegs (s : State) (n : Nat) (w : WSrc) : (s.setWsrc n w).snapRegs = s.snapRegs := rfl
@[simp] theorem State.setWsrc_snapForce (s : State) (n : Nat) (w : WSrc) : (s.setWsrc n w).snapForce = s.snapForce := rfl
@[simp] theorem State.setWsrc_snapWork (s : State) (n : Nat) (w : WSrc) : (s.setWsrc n w).snapWork = s.snapWork := rfl
@[simp] theorem State.setWsrc_rdata (s : State) (n : Nat) (w : WSrc) : (s.setWsrc n w).rdata = s.rdata := rfl
@[simp] theorem State.setWsrc_clk (s : State) (n : Nat) (w : WSrc) : (s.setWsrc n w).clk = s.clk := rfl
@[simp] theorem State.setWsrc_pins (s : State) (n : Nat) (w : WSrc) : (s.setWsrc n w).pins = s.pins := rfl
@[simp] theorem State.setWsrc_dbk (s : State) (n : Nat) (w : WSrc) : (s.setWsrc n w).dbk = s.dbk := rfl
@[simp] theorem State.setWsrc_lgr (s : State) (n : Nat) (w : WSrc) : (s.setWsrc n w).lgr = s.lgr := rfl
@[simp] theorem State.setWsrc_pwr (s : State) (n : Nat) (w : WSrc) : (s.setWsrc n w).pwr = s.pwr := rfl
@[simp] theorem State.setWsrc_flash (s : State) (n : Nat) (w : WSrc) : (s.setWsrc n w).flash = s.flash := rfl
@[simp] theorem State.setWsrc_sec (s : State) (n : Nat) (w : WSrc) : (s.setWsrc n w).sec = s.sec := rfl
@[simp] theorem State.setWsrc_cores (s : State) (n : Nat) (w : WSrc) : (s.setWsrc n w).cores = s.cores := rfl
@[simp] theorem State.setWsrc_jmem (s : State) (n : Nat) (w : WSrc) : (s.setWsrc n w).jmem = s.jmem := rfl
@[simp] theorem State.setWsrc_forme (s : State) (n : Nat) (w : WSrc) : (s.setWsrc n w).forme = s.forme := rfl
@[simp] theorem State.setWsrc_mem (s : State) (n : Nat) (w : WSrc) : (s.setWsrc n w).mem = s.mem := rfl
@[simp] theorem State.setWsrc_sram (s : State) (n : Nat) (w : WSrc) : (s.setWsrc n w).sram = s.sram := rfl
@[simp] theorem State.setWsrc_asy (s : State) (n : Nat) (w : WSrc) : (s.setWsrc n w).asy = s.asy := rfl
@[simp] theorem State.setWsrc_plt (s : State) (n : Nat) (w : WSrc) : (s.setWsrc n w).plt = s.plt := rfl
@[simp] theorem State.setWsrc_bdl (s : State) (n : Nat) (w : WSrc) : (s.setWsrc n w).bdl = s.bdl := rfl
@[simp] theorem State.setWsrc_hed (s : State) (n : Nat) (w : WSrc) : (s.setWsrc n w).hed = s.hed := rfl
@[simp] theorem State.setWsrc_esc (s : State) (n : Nat) (w : WSrc) : (s.setWsrc n w).esc = s.esc := rfl
@[simp] theorem State.setWsrc_gov (s : State) (n : Nat) (w : WSrc) : (s.setWsrc n w).gov = s.gov := rfl
@[simp] theorem State.setWsrc_kor (s : State) (n : Nat) (w : WSrc) : (s.setWsrc n w).kor = s.kor := rfl
@[simp] theorem State.setWsrc_prt (s : State) (n : Nat) (w : WSrc) : (s.setWsrc n w).prt = s.prt := rfl
@[simp] theorem State.setWsrc_msix (s : State) (n : Nat) (w : WSrc) : (s.setWsrc n w).msix = s.msix := rfl
@[simp] theorem State.setWsrc_copy (s : State) (n : Nat) (w : WSrc) : (s.setWsrc n w).copy = s.copy := rfl
@[simp] theorem State.setWsrc_vis (s : State) (n : Nat) (w : WSrc) : (s.setWsrc n w).vis = s.vis := rfl
@[simp] theorem State.setWsrc_gau (s : State) (n : Nat) (w : WSrc) : (s.setWsrc n w).gau = s.gau := rfl
@[simp] theorem State.setWsrc_out (s : State) (n : Nat) (w : WSrc) : (s.setWsrc n w).out = s.out := rfl
@[simp] theorem State.setWsrc_pending (s : State) (n : Nat) (w : WSrc) : (s.setWsrc n w).pending = s.pending := rfl
@[simp] theorem State.setWsrc_get (s : State) (n : Nat) (w : WSrc) (g : Fld) : (s.setWsrc n w).get g = s.get g := rfl
@[simp] theorem State.setWsrc_flag (s : State) (n : Nat) (w : WSrc) (g : Fld) : (s.setWsrc n w).flag g = s.flag g := rfl
@[simp] theorem State.setWsrc_domUp (s : State) (n : Nat) (w : WSrc) (d : Dom) : (s.setWsrc n w).domUp d = s.domUp d := rfl
@[simp] theorem State.setWsrc_memUp (s : State) (n : Nat) (w : WSrc) : (s.setWsrc n w).memUp = s.memUp := rfl

@[simp] theorem State.at_now (s : State) (t : Nat) : (s.at t).clk.now = max s.clk.now t := rfl
@[simp] theorem State.emit_out (s : State) (x : Tx) : (s.emit x).out = s.out ++ [x] := rfl

end Sys2Proof.Machine
end

