-- ==== Sys2Proof/Laws/Events.lean ====
section
/-! SUPPORT. What the shared operations of events can change: cause bits, Watch queues and Daybook records touch the
registers named here and nothing of HBM. -/

namespace Sys2Proof
open Machine

theorem EventsOnly.refl (s : State) : EventsOnly s s := ⟨rfl, rfl, rfl, rfl, rfl⟩

theorem EventsOnly.trans {s t u : State} (h : EventsOnly s t) (k : EventsOnly t u) : EventsOnly s u := by
  refine ⟨?_, k.2.1.trans h.2.1, k.2.2.1.trans h.2.2.1, k.2.2.2.1.trans h.2.2.2.1, ?_⟩
  · rw [k.1, h.1]
  · rw [← h.2.2.2.2, ← k.2.2.2.2]

/-- A change of what an event touches besides the arrays. -/
theorem EventsOnly.of_eq {s t : State}
    (h : t = { s with regs := t.regs, watch := t.watch, dbk := t.dbk, msix := t.msix, out := t.out }) : EventsOnly s t := by
  rw [h]
  exact ⟨rfl, rfl, rfl, rfl, rfl⟩

end Sys2Proof

namespace Sys2Proof.Machine
open Sys2Proof

theorem State.eventsOnly_set (s : State) (f : Fld) (v : Nat) : EventsOnly s (s.set f v) := .of_eq rfl

/-- A record's slot written changes upsets of array 3 alone. -/
theorem State.eventsOnly_dbkSram (s : State) (slot : Nat) : EventsOnly s (s.dbkSram slot) := by
  unfold State.dbkSram
  dsimp only
  split
  · exact .refl s
  · refine ⟨rfl, ?_, ?_, ?_, ?_⟩ <;> simp [State.setUpsets, State.setArr, State.arr, SMap.get_put_ne]

@[simp] theorem State.dbkSram_get (s : State) (slot : Nat) (g : Fld) : (s.dbkSram slot).get g = s.get g := by
  unfold State.dbkSram
  dsimp only
  split <;> rfl

theorem State.eventsOnly_enq (s : State) (src kind addr : Nat) : EventsOnly s (s.enq src kind addr).2 := by
  unfold State.enq
  dsimp only
  split <;> exact .of_eq rfl

theorem State.eventsOnly_raise (s : State) (src kind addr : Nat) : EventsOnly s (s.raise src kind addr) := by
  unfold State.raise
  split
  · exact .refl s
  · have h := s.eventsOnly_enq src (kind % 256) (addr % 2 ^ 48)
    split
    · rename_i h2; rw [h2] at h; exact h
    · rename_i h2; rw [h2] at h; exact h.trans (State.eventsOnly_enq _ _ _ _)

theorem State.eventsOnly_msixSend (s : State) (v : Nat) : EventsOnly s (s.msixSend v) := by
  unfold State.msixSend
  split <;> exact .of_eq rfl

theorem State.eventsOnly_irq (s : State) (v : Nat) : EventsOnly s (s.irq v) := by
  unfold State.irq
  split
  · exact .refl s
  · split
    · exact .refl s
    · dsimp only
      split
      · exact (s.eventsOnly_set _ _).trans (State.eventsOnly_msixSend _ _)
      · exact s.eventsOnly_set _ _

theorem State.eventsOnly_dbkPut (s : State) (code source supp time a0 a1 a2 : Nat) :
    EventsOnly s (s.dbkPut code source supp time a0 a1 a2) :=
  ((EventsOnly.of_eq rfl).trans (State.eventsOnly_dbkSram _ _)).trans (State.eventsOnly_set _ _ _)

theorem State.eventsOnly_dbkRec (s : State) (key : Nat) (forced : Bool) (code source time a0 a1 a2 : Nat) :
    EventsOnly s (s.dbkRec key forced code source time a0 a1 a2) := by
  unfold State.dbkRec
  split
  · exact .refl s
  · dsimp only
    (repeat' split) <;> first | exact (EventsOnly.of_eq rfl).trans (State.eventsOnly_dbkPut _ _ _ _ _ _ _ _) | exact .of_eq rfl

theorem State.eventsOnly_dbkNow (s : State) (code source a0 a1 a2 : Nat) : EventsOnly s (s.dbkNow code source a0 a1 a2) :=
  s.eventsOnly_dbkRec ..

/-! ## Registers that the event operations write -/

theorem State.enq_get (s : State) (src kind addr : Nat) (g : Fld) (h1 : g.bit ≠ F.WCH_LOST.bit)
    (h2 : g.bit ≠ (F.WCH_SRC_STAT_OVF src).bit) : (s.enq src kind addr).2.get g = s.get g := by
  unfold State.enq
  dsimp only
  split
  · rfl
  · exact (State.get_set_ne _ _ h2).trans (s.get_inc_ne h1)

/-- An event raised changes no field but WCH_LOST and the OVF bits of its source and of WCH_OVF. -/
theorem State.raise_get (s : State) (src kind addr : Nat) (g : Fld) (h1 : g.bit ≠ F.WCH_LOST.bit)
    (h2 : g.bit ≠ (F.WCH_SRC_STAT_OVF src).bit) (h3 : g.bit ≠ (F.WCH_SRC_STAT_OVF 8).bit) :
    (s.raise src kind addr).get g = s.get g := by
  unfold State.raise
  split
  · rfl
  · have h := s.enq_get src (kind % 256) (addr % 2 ^ 48) g h1 h2
    split
    · rename_i hh; rw [hh] at h; exact h
    · rename_i hh; rw [hh] at h; exact (State.enq_get _ _ _ _ g h1 h3).trans h

theorem State.msixSend_get (s : State) (v : Nat) (g : Fld) : (s.msixSend v).get g = s.get g := by
  unfold State.msixSend
  split <;> rfl

/-- A cause set changes no field but PRT_IRQ_STAT. -/
theorem State.irq_get (s : State) (v : Nat) (g : Fld) (h : g.bit ≠ F.PRT_IRQ_STAT.bit) : (s.irq v).get g = s.get g := by
  unfold State.irq
  split
  · rfl
  · split
    · rfl
    · dsimp only
      split
      · rw [State.msixSend_get]; exact s.get_set_ne _ h
      · exact s.get_set_ne _ h

/-- A Daybook record changes no field but DBK_SEQ and DBK_SUPP. -/
theorem State.dbkRec_get (s : State) (key : Nat) (forced : Bool) (code source time a0 a1 a2 : Nat) (g : Fld)
    (h1 : g.bit ≠ F.DBK_SEQ.bit) (h2 : g.bit ≠ F.DBK_SUPP.bit) :
    (s.dbkRec key forced code source time a0 a1 a2).get g = s.get g := by
  unfold State.dbkRec
  split
  · rfl
  · dsimp only
    (repeat' split) <;>
      first | exact (State.get_set_ne _ _ h1).trans (State.dbkSram_get _ _ _) | exact State.get_inc_ne _ h2

theorem State.dbkNow_get (s : State) (code source a0 a1 a2 : Nat) (g : Fld)
    (h1 : g.bit ≠ F.DBK_SEQ.bit) (h2 : g.bit ≠ F.DBK_SUPP.bit) : (s.dbkNow code source a0 a1 a2).get g = s.get g :=
  s.dbkRec_get _ _ _ _ _ _ _ _ g h1 h2

end Sys2Proof.Machine
end

