-- ==== Sys2Proof/Laws/Memory.lean ====
section
/-! SUPPORT. The laws of byte memories: a read after a write, and that the operations keep the canonical form. -/

namespace Sys2Proof.Machine
open Sys2Proof

/-! ## Bytes -/

/-- What an address reads after a byte is written. -/
theorem cellGet_cellPut (m : List Host.Cell) (a x : Nat) (b : Byte) :
    cellGet (cellPut m a b) x = if x = a then b else cellGet m x := by
  unfold cellGet cellPut
  by_cases hb : b = 0
  · rw [if_pos hb, SMap.lookup_erase, hb]
    split <;> rfl
  · rw [if_neg hb, SMap.lookup_put]
    split <;> rfl

/-- A byte reads as it was written. -/
theorem cellGet_cellPut_same (m : List Host.Cell) (a : Nat) (b : Byte) : cellGet (cellPut m a b) a = b := by
  rw [cellGet_cellPut, if_pos rfl]

/-- A write leaves every other byte alone. -/
theorem cellGet_cellPut_ne {a x : Nat} (h : a ≠ x) (m : List Host.Cell) (b : Byte) :
    cellGet (cellPut m x b) a = cellGet m a := by
  rw [cellGet_cellPut, if_neg h]

/-- A string written leaves every byte outside it alone. -/
theorem cellGet_cellPuts_outside (l : List Byte) (m : List Host.Cell) (a x : Nat) (h : x < a ∨ a + l.length ≤ x) :
    cellGet (cellPuts m a l) x = cellGet m x := by
  induction l generalizing m a with
  | nil => rfl
  | cons b l ih =>
    unfold cellPuts
    simp only [List.length_cons] at h
    rw [ih _ _ (by omega), cellGet_cellPut_ne (by omega)]

/-- A byte of a string written reads as written. -/
theorem cellGet_cellPuts_inside (l : List Byte) (m : List Host.Cell) (a i : Nat) (h : i < l.length) :
    cellGet (cellPuts m a l) (a + i) = l[i] := by
  induction l generalizing m a i with
  | nil => cases h
  | cons b l ih =>
    unfold cellPuts
    cases i with
    | zero => rw [cellGet_cellPuts_outside _ _ _ _ (by omega)]; exact cellGet_cellPut_same _ _ _
    | succ i =>
      have := ih (cellPut m a b) (a + 1) i (by simpa using h)
      rw [show a + 1 + i = a + (i + 1) by omega] at this
      simpa using this

/-- A byte written keeps the canonical form. -/
theorem cellsWf_cellPut (m : List Host.Cell) (a : Nat) (b : Byte) (h : cellsWf m = true) :
    cellsWf (cellPut m a b) = true := by
  unfold cellsWf at *
  rw [Bool.and_eq_true, List.all_eq_true] at *
  unfold cellPut
  split
  · exact ⟨SMap.rising_erase _ _ h.1, fun c hc => h.2 c (List.mem_filter.mp hc).1⟩
  · rename_i hb
    refine ⟨SMap.rising_put _ _ _ h.1, fun c hc => ?_⟩
    cases SMap.mem_put hc with
    | inl e => simpa [e] using hb
    | inr e => exact h.2 c e

/-- A string written keeps the canonical form. -/
theorem cellsWf_cellPuts (l : List Byte) (m : List Host.Cell) (a : Nat) (h : cellsWf m = true) :
    cellsWf (cellPuts m a l) = true := by
  induction l generalizing m a with
  | nil => exact h
  | cons b l ih => exact ih _ _ (cellsWf_cellPut _ _ _ h)

/-! ## The Watch's queues -/

@[simp] theorem State.wsrc_setWsrc (s : State) (n : Nat) (w : WSrc) : (s.setWsrc n w).wsrc n = w :=
  SMap.get_put_same _ _ _ _

theorem State.wsrc_setWsrc_ne (s : State) {n k : Nat} (w : WSrc) (h : k ≠ n) : (s.setWsrc n w).wsrc k = s.wsrc k :=
  SMap.get_put_ne _ _ _ h

/-! ## Writes to HBM -/

/-- A poisoned read counted leaves the HBM as it is. -/
theorem State.poisonHit_mem (s : State) (src a : Nat) : (s.poisonHit src a).mem = s.mem := by
  unfold State.poisonHit
  split
  · rfl
  · have h := State.eventsOnly_raise (((s.inc F.MEM_POISON).set F.MEM_POISON_ADDR a).set F.MEM_POISON_ADDR_SRC src) 48 src a
    rw [h.1]
    rfl

/-- One unit's share of a write stores its bytes, or leaves every byte as it was. -/
theorem State.wrUnit_cells (s : State) (src a : Nat) (d : List Byte) :
    (s.wrUnit src a d).mem.cells = cellPuts s.mem.cells a d ∨ (s.wrUnit src a d).mem.cells = s.mem.cells := by
  unfold State.wrUnit
  split
  · have h := s.eventsOnly_raise 48 src a
    exact .inr (by rw [h.1])
  · (repeat' split) <;> first | exact .inl rfl | exact .inr rfl | exact .inr (by rw [State.poisonHit_mem])

/-- One unit's share of a write keeps the canonical form of HBM. -/
theorem State.wrUnit_wf (s : State) (src a : Nat) (d : List Byte) (h : s.mem.wf = true) :
    (s.wrUnit src a d).mem.wf = true := by
  unfold Mem.wf at *
  cases s.wrUnit_cells src a d with
  | inl e => rw [e]; exact cellsWf_cellPuts _ _ _ h
  | inr e => rw [e]; exact h

/-- A write that the controller carries out keeps the canonical form of HBM. -/
theorem State.wrNow_wf (s : State) (src a : Nat) (d : List Byte) (h : s.mem.wf = true) : (s.wrNow src a d).mem.wf = true := by
  unfold State.wrNow
  generalize unitSplit a d.length = l
  induction l generalizing s with
  | nil => exact h
  | cons p l ih => exact ih _ (s.wrUnit_wf _ _ _ h)

/-- A write, carried out or waiting, keeps the canonical form of HBM. -/
theorem State.wr_wf (s : State) (src a : Nat) (d : List Byte) (h : s.mem.wf = true) : (s.wr src a d).mem.wf = true := by
  unfold State.wr
  split
  · exact s.wrNow_wf _ _ _ h
  · exact h

end Sys2Proof.Machine
end

