-- ==== Sys2Proof/Laws/PerInstr.lean ====
section
/-! SUPPORT. The family Admits: every row of the opcode table has a well-formed command, so no check of WellFormed shuts a
row out. One lemma per constructor of Instr. -/

namespace Sys2Proof.Laws.Admits
open Sys2Proof

/-- Some command of the same row is well-formed. -/
def Statement (i : Instr) : Prop := ∃ j : Instr, j.wf = true ∧ j.ctorIdx = i.ctorIdx

theorem regWrite (m : Fin 9) (off : Nat) (v : BitVec 32) : Statement (.regWrite m off v) :=
  ⟨.regWrite 0 0 0, rfl, rfl⟩
theorem rcRead (m : Fin 9) (off : Nat) : Statement (.rcRead m off) :=
  ⟨.rcRead 0 0, rfl, rfl⟩
theorem snapBankRead (m : Fin 9) (off : Nat) : Statement (.snapBankRead m off) :=
  ⟨.snapBankRead 0 0x2000000, rfl, rfl⟩
theorem regAccessError (m : Fin 9) (off : Nat) (write : Bool) (full : Bool) : Statement (.regAccessError m off write full) :=
  ⟨.regAccessError 0 0 false false, rfl, rfl⟩
theorem ptpStampPop (m : Fin 9) (tx : Bool) : Statement (.ptpStampPop m tx) :=
  ⟨.ptpStampPop 0 false, rfl, rfl⟩
theorem irqStatusClear (m : Fin 9) (hi : Bool) (v : BitVec 32) : Statement (.irqStatusClear m hi v) :=
  ⟨.irqStatusClear 0 false 0, rfl, rfl⟩
theorem resetNAssert (t : Nat) : Statement (.resetNAssert t) :=
  ⟨.resetNAssert 0, rfl, rfl⟩
theorem startUp (t : Nat) (badA : Bool) (badB : Bool) : Statement (.startUp t badA badB) :=
  ⟨.startUp 0 false false, rfl, rfl⟩
theorem perstNAssert (t : Nat) : Statement (.perstNAssert t) :=
  ⟨.perstNAssert 0, rfl, rfl⟩
theorem functionLevelReset (t : Nat) : Statement (.functionLevelReset t) :=
  ⟨.functionLevelReset 0, rfl, rfl⟩
theorem vinWarn (t : Nat) (f : VinFall) : Statement (.vinWarn t f) :=
  ⟨.vinWarn 0 ⟨0, .held⟩, rfl, rfl⟩
theorem vinReturn (t : Nat) : Statement (.vinReturn t) :=
  ⟨.vinReturn 0, rfl, rfl⟩
theorem pwrStateRequest (m : Fin 9) (r : StateReq) : Statement (.pwrStateRequest m r) :=
  ⟨.pwrStateRequest 0 ⟨0, 0⟩, rfl, rfl⟩
theorem pwrDomainRequest (m : Fin 9) (v : Nat) : Statement (.pwrDomainRequest m v) :=
  ⟨.pwrDomainRequest 0 0, rfl, rfl⟩
theorem burstStart (t : Nat) : Statement (.burstStart t) :=
  ⟨.burstStart 0, rfl, rfl⟩
theorem sequencerWindow (t : Nat) : Statement (.sequencerWindow t) :=
  ⟨.sequencerWindow 0, rfl, rfl⟩
theorem domainLeaveReset (t : Nat) (d : Fin 12) : Statement (.domainLeaveReset t d) :=
  ⟨.domainLeaveReset 0 0, rfl, rfl⟩
theorem powerGoodLoss (t : Nat) (d : Fin 12) : Statement (.powerGoodLoss t d) :=
  ⟨.powerGoodLoss 0 0, rfl, rfl⟩
theorem blockReset (t : Nat) : Statement (.blockReset t) :=
  ⟨.blockReset 0, rfl, rfl⟩
theorem chipReset (t : Nat) (badA : Bool) (badB : Bool) : Statement (.chipReset t badA badB) :=
  ⟨.chipReset 0 false false, rfl, rfl⟩
theorem watchEvent (t : Nat) (takes : List (Fin 128)) : Statement (.watchEvent t takes) :=
  ⟨.watchEvent 0 [], rfl, rfl⟩
theorem escalationExpiry (t : Nat) (exps : List (Fin 128)) (takes : List (Fin 128)) : Statement (.escalationExpiry t exps takes) :=
  ⟨.escalationExpiry 0 [] [], rfl, rfl⟩
theorem sourceAck (m : Fin 9) (src : Fin 128) : Statement (.sourceAck m src) :=
  ⟨.sourceAck 0 0, rfl, rfl⟩
theorem sourceClear (m : Fin 9) (src : Fin 128) : Statement (.sourceClear m src) :=
  ⟨.sourceClear 0 0, rfl, rfl⟩
theorem causeGone (t : Nat) (src : Fin 128) : Statement (.causeGone t src) :=
  ⟨.causeGone 0 0, rfl, rfl⟩
theorem faultPulseEnd (t : Nat) : Statement (.faultPulseEnd t) :=
  ⟨.faultPulseEnd 0, rfl, rfl⟩
theorem faultRelease (m : Fin 9) : Statement (.faultRelease m) :=
  ⟨.faultRelease 0, rfl, rfl⟩
theorem dbkGo (m : Fin 9) (j : Fin 8) : Statement (.dbkGo m j) :=
  ⟨.dbkGo 0 0, rfl, rfl⟩
theorem calendarSecond (t : Nat) : Statement (.calendarSecond t) :=
  ⟨.calendarSecond 0, rfl, rfl⟩
theorem calSet (m : Fin 9) : Statement (.calSet m) :=
  ⟨.calSet 0, rfl, rfl⟩
theorem thermalSample (t : Nat) (temp : Int) : Statement (.thermalSample t temp) :=
  ⟨.thermalSample 0 0, rfl, rfl⟩
theorem ledgerPeriodic (t : Nat) (fails : Nat) : Statement (.ledgerPeriodic t fails) :=
  ⟨.ledgerPeriodic 0 0, rfl, rfl⟩
theorem ledgerWrite (m : Fin 9) (fails : Nat) : Statement (.ledgerWrite m fails) :=
  ⟨.ledgerWrite 0 0, rfl, rfl⟩
theorem ledgerDeferred (t : Nat) (fails : Nat) : Statement (.ledgerDeferred t fails) :=
  ⟨.ledgerDeferred 0 0, rfl, rfl⟩
theorem commit (m : Fin 9) : Statement (.commit m) :=
  ⟨.commit 0, rfl, rfl⟩
theorem epochCommit (t : Nat) : Statement (.epochCommit t) :=
  ⟨.epochCommit 0, rfl, rfl⟩
theorem snap (m : Fin 9) : Statement (.snap m) :=
  ⟨.snap 0, rfl, rfl⟩
theorem snapClear (m : Fin 9) : Statement (.snapClear m) :=
  ⟨.snapClear 0, rfl, rfl⟩
theorem snapDone (t : Nat) : Statement (.snapDone t) :=
  ⟨.snapDone 0, rfl, rfl⟩
theorem open_ (m : Fin 9) : Statement (.open_ m) :=
  ⟨.open_ 0, rfl, rfl⟩
theorem mend (m : Fin 9) : Statement (.mend m) :=
  ⟨.mend 0, rfl, rfl⟩
theorem arm (m : Fin 9) : Statement (.arm m) :=
  ⟨.arm 0, rfl, rfl⟩
theorem armComplete (t : Nat) : Statement (.armComplete t) :=
  ⟨.armComplete 0, rfl, rfl⟩
theorem armTimeout (t : Nat) : Statement (.armTimeout t) :=
  ⟨.armTimeout 0, rfl, rfl⟩
theorem stop (m : Fin 9) : Statement (.stop m) :=
  ⟨.stop 0, rfl, rfl⟩
theorem abandon (m : Fin 9) (newest : Bool) : Statement (.abandon m newest) :=
  ⟨.abandon 0 false, rfl, rfl⟩
theorem stopComplete (t : Nat) (accs : List SramAcc) : Statement (.stopComplete t accs) :=
  ⟨.stopComplete 0 [], rfl, rfl⟩
theorem darnEntryWrite (t : Nat) : Statement (.darnEntryWrite t) :=
  ⟨.darnEntryWrite 0, rfl, rfl⟩
theorem hallmarkWrite (t : Nat) : Statement (.hallmarkWrite t) :=
  ⟨.hallmarkWrite 0, rfl, rfl⟩
theorem shotFix (t : Nat) : Statement (.shotFix t) :=
  ⟨.shotFix 0, rfl, rfl⟩
theorem shotDue (t : Nat) (accs : List SramAcc) : Statement (.shotDue t accs) :=
  ⟨.shotDue 0 [], rfl, rfl⟩
theorem shotDecodeDone (t : Nat) (accs : List SramAcc) : Statement (.shotDecodeDone t accs) :=
  ⟨.shotDecodeDone 0 [], rfl, rfl⟩
theorem tallyEvalDone (t : Nat) (mismatch : Bool) : Statement (.tallyEvalDone t mismatch) :=
  ⟨.tallyEvalDone 0 false, rfl, rfl⟩
theorem trackExit (t : Nat) : Statement (.trackExit t) :=
  ⟨.trackExit 0, rfl, rfl⟩
theorem beamInhibit (t : Nat) : Statement (.beamInhibit t) :=
  ⟨.beamInhibit 0, rfl, rfl⟩
theorem inhibitClear (m : Fin 9) : Statement (.inhibitClear m) :=
  ⟨.inhibitClear 0, rfl, rfl⟩
theorem hedEnableSet (m : Fin 9) (v : Bool) : Statement (.hedEnableSet m v) :=
  ⟨.hedEnableSet 0 false, rfl, rfl⟩
theorem authStart (m : Fin 9) : Statement (.authStart m) :=
  ⟨.authStart 0, rfl, rfl⟩
theorem headAuthAuto (t : Nat) : Statement (.headAuthAuto t) :=
  ⟨.headAuthAuto 0, rfl, rfl⟩
theorem authAnswer (t : Nat) (h : RetHdr) (id : Nat) (usage : List Nat) (mac : Nat) : Statement (.authAnswer t h id usage mac) :=
  ⟨.authAnswer 0 ⟨0, true⟩ 0 (List.replicate 64 0) 0, rfl, rfl⟩
theorem authTimeout (t : Nat) : Statement (.authTimeout t) :=
  ⟨.authTimeout 0, rfl, rfl⟩
theorem answer (t : Nat) (k : Fin 4) (h : RetHdr) (shot : Option Nat) (ack : BitVec 8) (nak : BitVec 8) : Statement (.answer t k h shot ack nak) :=
  ⟨.answer 0 0 ⟨0, true⟩ none 0 0, rfl, rfl⟩
theorem telemetry (t : Nat) (k : Fin 4) (h : RetHdr) (id : Nat) (temps : List Int) (curs : List Nat) : Statement (.telemetry t k h id temps curs) :=
  ⟨.telemetry 0 0 ⟨0, true⟩ 0 (List.replicate 16 0) (List.replicate 16 0), rfl, rfl⟩
theorem fom (t : Nat) (k : Fin 4) (h : RetHdr) (foms : List Nat) : Statement (.fom t k h foms) :=
  ⟨.fom 0 0 ⟨0, true⟩ (List.replicate 8 0), rfl, rfl⟩
theorem laneShotTimeout (t : Nat) (lane : Fin 32) : Statement (.laneShotTimeout t lane) :=
  ⟨.laneShotTimeout 0 0, rfl, rfl⟩
theorem telemStale (t : Nat) : Statement (.telemStale t) :=
  ⟨.telemStale 0, rfl, rfl⟩
theorem wakeEnd (t : Nat) (lane : Fin 32) : Statement (.wakeEnd t lane) :=
  ⟨.wakeEnd 0 0, rfl, rfl⟩
theorem bdlPllLockLoss (t : Nat) : Statement (.bdlPllLockLoss t) :=
  ⟨.bdlPllLockLoss 0, rfl, rfl⟩
theorem bdlPllRelock (t : Nat) : Statement (.bdlPllRelock t) :=
  ⟨.bdlPllRelock 0, rfl, rfl⟩
theorem trainStart (m : Fin 9) : Statement (.trainStart m) :=
  ⟨.trainStart 0, rfl, rfl⟩
theorem sweepHoldEnd (t : Nat) : Statement (.sweepHoldEnd t) :=
  ⟨.sweepHoldEnd 0, rfl, rfl⟩
theorem bsrCtleHoldEnd (t : Nat) (k : Fin 4) (fom : Nat) : Statement (.bsrCtleHoldEnd t k fom) :=
  ⟨.bsrCtleHoldEnd 0 0 0, rfl, rfl⟩
theorem bsrDfeAdaptEnd (t : Nat) (k : Fin 4) (fom : Nat) : Statement (.bsrDfeAdaptEnd t k fom) :=
  ⟨.bsrDfeAdaptEnd 0 0 0, rfl, rfl⟩
theorem bsrCdrLockLoss (t : Nat) (k : Fin 4) : Statement (.bsrCdrLockLoss t k) :=
  ⟨.bsrCdrLockLoss 0 0, rfl, rfl⟩
theorem bsrFomLow (t : Nat) (k : Fin 4) (fom : Nat) : Statement (.bsrFomLow t k fom) :=
  ⟨.bsrFomLow 0 0 0, rfl, rfl⟩
theorem bsrRecover (m : Fin 9) (k : Fin 4) : Statement (.bsrRecover m k) :=
  ⟨.bsrRecover 0 0, rfl, rfl⟩
theorem positionWord (t : Nat) (n : Fin 3) (w : PosWord) : Statement (.positionWord t n w) :=
  ⟨.positionWord 0 0 ⟨0, 0, true, false, false, 0, true, true⟩, rfl, rfl⟩
theorem positionSlotMissing (t : Nat) (n : Fin 3) : Statement (.positionSlotMissing t n) :=
  ⟨.positionSlotMissing 0 0, rfl, rfl⟩
theorem quadEdge (t : Nat) (n : Fin 3) (a : Bool) (b : Bool) (lost : Bool) : Statement (.quadEdge t n a b lost) :=
  ⟨.quadEdge 0 0 false false false, rfl, rfl⟩
theorem quadPeriod (t : Nat) (n : Fin 3) : Statement (.quadPeriod t n) :=
  ⟨.quadPeriod 0 0, rfl, rfl⟩
theorem qidxEdge (t : Nat) (n : Fin 3) : Statement (.qidxEdge t n) :=
  ⟨.qidxEdge 0 0, rfl, rfl⟩
theorem govTick (t : Nat) (nV : Int) (rbx : Int) (rby : Int) : Statement (.govTick t nV rbx rby) :=
  ⟨.govTick 0 0 0 0, rfl, rfl⟩
theorem hvRange (t : Nat) : Statement (.hvRange t) :=
  ⟨.hvRange 0, rfl, rfl⟩
theorem setpointTick (t : Nat) : Statement (.setpointTick t) :=
  ⟨.setpointTick 0, rfl, rfl⟩
theorem push (m : Fin 9) : Statement (.push m) :=
  ⟨.push 0, rfl, rfl⟩
theorem flush (m : Fin 9) : Statement (.flush m) :=
  ⟨.flush 0, rfl, rfl⟩
theorem segAbort (m : Fin 9) : Statement (.segAbort m) :=
  ⟨.segAbort 0, rfl, rfl⟩
theorem modeReq (m : Fin 9) (req : Nat) (after : Nat) : Statement (.modeReq m req after) :=
  ⟨.modeReq 0 0 0, rfl, rfl⟩
theorem doorbell (m : Fin 9) (n : Fin 16) : Statement (.doorbell m n) :=
  ⟨.doorbell 0 0, rfl, rfl⟩
theorem chAbort (m : Fin 9) (n : Fin 16) (data : List Byte) : Statement (.chAbort m n data) :=
  ⟨.chAbort 0 0 [], rfl, rfl⟩
theorem chReset (m : Fin 9) (n : Fin 16) : Statement (.chReset m n) :=
  ⟨.chReset 0 0, rfl, rfl⟩
theorem descriptorRead (t : Nat) (n : Fin 16) (d : DescBytes) : Statement (.descriptorRead t n d) :=
  ⟨.descriptorRead 0 0 (List.replicate 8 0), rfl, rfl⟩
theorem descriptorComplete (t : Nat) (n : Fin 16) (data : List Byte) : Statement (.descriptorComplete t n data) :=
  ⟨.descriptorComplete 0 0 [], rfl, rfl⟩
theorem luethSegmentCheck (t : Nat) (n : Fin 16) (data : List Byte) : Statement (.luethSegmentCheck t n data) :=
  ⟨.luethSegmentCheck 0 0 [], rfl, rfl⟩
theorem completionTimeout (t : Nat) (n : Fin 16) (data : List Byte) : Statement (.completionTimeout t n data) :=
  ⟨.completionTimeout 0 0 [], rfl, rfl⟩
theorem completionError (t : Nat) (n : Fin 16) (ca : Bool) (data : List Byte) : Statement (.completionError t n ca data) :=
  ⟨.completionError 0 0 false [], rfl, rfl⟩
theorem hostLinkDown (t : Nat) (moved : List (Nat × List Byte)) : Statement (.hostLinkDown t moved) :=
  ⟨.hostLinkDown 0 [], rfl, rfl⟩
theorem bmeClear (t : Nat) (moved : List (Nat × List Byte)) : Statement (.bmeClear t moved) :=
  ⟨.bmeClear 0 [], rfl, rfl⟩
theorem chkInit (m : Fin 9) (u : Fin 8) : Statement (.chkInit m u) :=
  ⟨.chkInit 0 0, rfl, rfl⟩
theorem chkD8 (m : Fin 9) (u : Fin 8) (v : BitVec 8) : Statement (.chkD8 m u v) :=
  ⟨.chkD8 0 0 0, rfl, rfl⟩
theorem chkD16 (m : Fin 9) (u : Fin 8) (v : BitVec 16) : Statement (.chkD16 m u v) :=
  ⟨.chkD16 0 0 0, rfl, rfl⟩
theorem chkD32 (m : Fin 9) (u : Fin 8) (v : BitVec 32) : Statement (.chkD32 m u v) :=
  ⟨.chkD32 0 0 0, rfl, rfl⟩
theorem chkFold (m : Fin 9) (u : Fin 8) (hi : BitVec 32) : Statement (.chkFold m u hi) :=
  ⟨.chkFold 0 0 0, rfl, rfl⟩
theorem chkValWrite (m : Fin 9) (u : Fin 8) (hi : Bool) (v : BitVec 32) : Statement (.chkValWrite m u hi v) :=
  ⟨.chkValWrite 0 0 false 0, rfl, rfl⟩
theorem chkWidth (m : Fin 9) (u : Fin 8) (w : Bool) : Statement (.chkWidth m u w) :=
  ⟨.chkWidth 0 0 false, rfl, rfl⟩
theorem winGalRead (t : Nat) (off : Nat) (len : Nat) : Statement (.winGalRead t off len) :=
  ⟨.winGalRead 0 0 0, rfl, rfl⟩
theorem winGalWrite (t : Nat) (off : Nat) (len : Nat) : Statement (.winGalWrite t off len) :=
  ⟨.winGalWrite 0 0 0, rfl, rfl⟩
theorem mgmtFrameRx (t : Nat) (frame : List Byte) : Statement (.mgmtFrameRx t frame) :=
  ⟨.mgmtFrameRx 0 [], rfl, rfl⟩
theorem mgmtLinkDown (r : LinkReport) : Statement (.mgmtLinkDown r) :=
  ⟨.mgmtLinkDown ⟨0, false, 0⟩, rfl, rfl⟩
theorem ptpEventRx (t : Nat) (f : PtpFrame) (seqId : Nat) : Statement (.ptpEventRx t f seqId) :=
  ⟨.ptpEventRx 0 ⟨0, 0, none⟩ 0, rfl, rfl⟩
theorem ptpEventTx (t : Nat) (f : PtpFrame) (seqId : Nat) (twoStep : Bool) (corr : Int) : Statement (.ptpEventTx t f seqId twoStep corr) :=
  ⟨.ptpEventTx 0 ⟨0, 0, none⟩ 0 false 0, rfl, rfl⟩
theorem takeRelease (m : Fin 9) (v : BitVec 32) : Statement (.takeRelease m v) :=
  ⟨.takeRelease 0 0, rfl, rfl⟩
theorem takeReleaseEffect (t : Nat) : Statement (.takeReleaseEffect t) :=
  ⟨.takeReleaseEffect 0, rfl, rfl⟩
theorem layerRelease (m : Fin 9) : Statement (.layerRelease m) :=
  ⟨.layerRelease 0, rfl, rfl⟩
theorem layerReleaseEffect (t : Nat) : Statement (.layerReleaseEffect t) :=
  ⟨.layerReleaseEffect 0, rfl, rfl⟩
theorem prepassComplete (t : Nat) : Statement (.prepassComplete t) :=
  ⟨.prepassComplete 0, rfl, rfl⟩
theorem tileCompose (t : Nat) (lane : Fin 32) (faults : List TileFault) (accs : List (Fin 2 × SramAcc)) : Statement (.tileCompose t lane faults accs) :=
  ⟨.tileCompose 0 0 [] [], rfl, rfl⟩
theorem cyclePublish (t : Nat) : Statement (.cyclePublish t) :=
  ⟨.cyclePublish 0, rfl, rfl⟩
theorem previewRebuildDone (t : Nat) : Statement (.previewRebuildDone t) :=
  ⟨.previewRebuildDone 0, rfl, rfl⟩
theorem tapArm (m : Fin 9) : Statement (.tapArm m) :=
  ⟨.tapArm 0, rfl, rfl⟩
theorem tapDisarm (m : Fin 9) : Statement (.tapDisarm m) :=
  ⟨.tapDisarm 0, rfl, rfl⟩
theorem tapDone (t : Nat) : Statement (.tapDone t) :=
  ⟨.tapDone 0, rfl, rfl⟩
theorem memRun (m : Fin 9) (v : Bool) : Statement (.memRun m v) :=
  ⟨.memRun 0 false, rfl, rfl⟩
theorem refreshInterval (t : Nat) (bank : Nat) : Statement (.refreshInterval t bank) :=
  ⟨.refreshInterval 0 0, rfl, rfl⟩
theorem refreshIssue (t : Nat) (bank : Nat) (use : BankUse) : Statement (.refreshIssue t bank use) :=
  ⟨.refreshIssue 0 0 .idle, rfl, rfl⟩
theorem hbmTempRead (t : Nat) (temp : Int) : Statement (.hbmTempRead t temp) :=
  ⟨.hbmTempRead 0 0, rfl, rfl⟩
theorem hbmReadPoison (t : Nat) (source : Fin 7) (addr : Nat) (corrected : Bool) (core : Option (Fin 8)) : Statement (.hbmReadPoison t source addr corrected core) :=
  ⟨.hbmReadPoison 0 0 0 false none, rfl, rfl⟩
theorem hbmPhy (t : Nat) (channel : Fin 16) (reads : List MemRead) : Statement (.hbmPhy t channel reads) :=
  ⟨.hbmPhy 0 0 [], rfl, rfl⟩
theorem scrubRead (t : Nat) (a : Fin 4) (accs : List SramAcc) (clash : Option (Nat × List Byte)) : Statement (.scrubRead t a accs clash) :=
  ⟨.scrubRead 0 0 [] none, rfl, rfl⟩
theorem scrubSlow (t : Nat) (a : Fin 4) : Statement (.scrubSlow t a) :=
  ⟨.scrubSlow 0 0, rfl, rfl⟩
theorem join (m : Fin 9) (v : Bool) : Statement (.join m v) :=
  ⟨.join 0 false, rfl, rfl⟩
theorem ringInputDown (t : Nat) (l : RingLoss) : Statement (.ringInputDown t l) :=
  ⟨.ringInputDown 0 ⟨0, none⟩, rfl, rfl⟩
theorem ringInputUp (t : Nat) (p : Fin 2) (foms : List Nat) : Statement (.ringInputUp t p foms) :=
  ⟨.ringInputUp 0 0 (List.replicate 17 0), rfl, rfl⟩
theorem ringRecover (m : Fin 9) (p : Fin 2) : Statement (.ringRecover m p) :=
  ⟨.ringRecover 0 0, rfl, rfl⟩
theorem discover (m : Fin 9) : Statement (.discover m) :=
  ⟨.discover 0, rfl, rfl⟩
theorem discovery (t : Nat) : Statement (.discovery t) :=
  ⟨.discovery 0, rfl, rfl⟩
theorem topoWaitEnd (t : Nat) : Statement (.topoWaitEnd t) :=
  ⟨.topoWaitEnd 0, rfl, rfl⟩
theorem topo (t : Nat) (h : RingHdr) (msg : TopoMsg) : Statement (.topo t h msg) :=
  ⟨.topo 0 ⟨0, 0, 0, 0, false, 0, true, true⟩ ⟨false, false, false, 0, 0, []⟩, rfl, rfl⟩
theorem topoResult (t : Nat) (h : RingHdr) (msg : TopoMsg) : Statement (.topoResult t h msg) :=
  ⟨.topoResult 0 ⟨0, 0, 0, 0, false, 0, true, true⟩ ⟨false, false, false, 0, 0, []⟩, rfl, rfl⟩
theorem link (t : Nat) (h : RingHdr) (lflags : Nat) : Statement (.link t h lflags) :=
  ⟨.link 0 ⟨0, 0, 0, 0, false, 0, true, true⟩ 0, rfl, rfl⟩
theorem sync (t : Nat) (h : RingHdr) (ns : Nat) (fr : Nat) (corr : Int) (dep : Nat) : Statement (.sync t h ns fr corr dep) :=
  ⟨.sync 0 ⟨0, 0, 0, 0, false, 0, true, true⟩ 0 0 0 0, rfl, rfl⟩
theorem syncPeriod (t : Nat) : Statement (.syncPeriod t) :=
  ⟨.syncPeriod 0, rfl, rfl⟩
theorem syncTimeout (t : Nat) : Statement (.syncTimeout t) :=
  ⟨.syncTimeout 0, rfl, rfl⟩
theorem pdelayMeasure (t : Nat) (p : Fin 2) : Statement (.pdelayMeasure t p) :=
  ⟨.pdelayMeasure 0 0, rfl, rfl⟩
theorem pdelayReq (t : Nat) (h : RingHdr) (dep : Nat) : Statement (.pdelayReq t h dep) :=
  ⟨.pdelayReq 0 ⟨0, 0, 0, 0, false, 0, true, true⟩ 0, rfl, rfl⟩
theorem pdelayResp (t : Nat) (h : RingHdr) (reqSeq : Nat) (turn : Int) : Statement (.pdelayResp t h reqSeq turn) :=
  ⟨.pdelayResp 0 ⟨0, 0, 0, 0, false, 0, true, true⟩ 0 0, rfl, rfl⟩
theorem launchGo (m : Fin 9) (time : Bool) : Statement (.launchGo m time) :=
  ⟨.launchGo 0 false, rfl, rfl⟩
theorem launch (t : Nat) (h : RingHdr) (msg : LaunchMsg) : Statement (.launch t h msg) :=
  ⟨.launch 0 ⟨0, 0, 0, 0, false, 0, true, true⟩ ⟨false, 0, 0, 0, 0, 0, 0, List.replicate 64 0⟩, rfl, rfl⟩
theorem launchDeadline (t : Nat) : Statement (.launchDeadline t) :=
  ⟨.launchDeadline 0, rfl, rfl⟩
theorem report (t : Nat) (h : RingHdr) (msg : ReportMsg) : Statement (.report t h msg) :=
  ⟨.report 0 ⟨0, 0, 0, 0, false, 0, true, true⟩ ⟨0, 0, 0, 0, 0, 0⟩, rfl, rfl⟩
theorem haloData (t : Nat) (h : RingHdr) (id : Nat) (block : Nat) (nblk : Nat) (data : List Byte) : Statement (.haloData t h id block nblk data) :=
  ⟨.haloData 0 ⟨0, 0, 0, 0, false, 0, true, true⟩ 0 0 0 [], rfl, rfl⟩
theorem haloAck (t : Nat) (h : RingHdr) (done : Bool) (refused : Bool) (id : Nat) (next : Nat) : Statement (.haloAck t h done refused id next) :=
  ⟨.haloAck 0 ⟨0, 0, 0, 0, false, 0, true, true⟩ false false 0 0, rfl, rfl⟩
theorem haloTimeout (t : Nat) (yhi : Bool) : Statement (.haloTimeout t yhi) :=
  ⟨.haloTimeout 0 false, rfl, rfl⟩
theorem resendYlo (m : Fin 9) : Statement (.resendYlo m) :=
  ⟨.resendYlo 0, rfl, rfl⟩
theorem resendYhi (m : Fin 9) : Statement (.resendYhi m) :=
  ⟨.resendYhi 0, rfl, rfl⟩
theorem faultEvent (t : Nat) (h : RingHdr) (msg : FaultMsg) : Statement (.faultEvent t h msg) :=
  ⟨.faultEvent 0 ⟨0, 0, 0, 0, false, 0, true, true⟩ ⟨0, 0, 0, 0, 0, 0, 0⟩, rfl, rfl⟩
theorem mail (t : Nat) (h : RingHdr) (m : MailHdr) (data : List Byte) : Statement (.mail t h m data) :=
  ⟨.mail 0 ⟨0, 0, 0, 0, false, 0, true, true⟩ ⟨0, 0⟩ [], rfl, rfl⟩
theorem timeTick (t : Nat) : Statement (.timeTick t) :=
  ⟨.timeTick 0, rfl, rfl⟩
theorem timeSetNow (m : Fin 9) : Statement (.timeSetNow m) :=
  ⟨.timeSetNow 0, rfl, rfl⟩
theorem atSyncIn (m : Fin 9) : Statement (.atSyncIn m) :=
  ⟨.atSyncIn 0, rfl, rfl⟩
theorem timAdj (m : Fin 9) (v : BitVec 32) : Statement (.timAdj m v) :=
  ⟨.timAdj 0 0, rfl, rfl⟩
theorem syncInEdge (t : Nat) : Statement (.syncInEdge t) :=
  ⟨.syncInEdge 0, rfl, rfl⟩
theorem syncOutMark (t : Nat) : Statement (.syncOutMark t) :=
  ⟨.syncOutMark 0, rfl, rfl⟩
theorem frameStart (t : Nat) (p : Fin 2) (vc : Nat) (k : FramePkt) : Statement (.frameStart t p vc k) :=
  ⟨.frameStart 0 0 0 ⟨0, false⟩, rfl, rfl⟩
theorem longPacket (t : Nat) (p : Fin 2) (vc : Nat) (dt : Nat) (data : List Byte) (eccFixed : Bool) (crcOk : Bool) : Statement (.longPacket t p vc dt data eccFixed crcOk) :=
  ⟨.longPacket 0 0 0 0 [] false false, rfl, rfl⟩
theorem packetEccError (t : Nat) (p : Fin 2) : Statement (.packetEccError t p) :=
  ⟨.packetEccError 0 0, rfl, rfl⟩
theorem frameEnd (t : Nat) (p : Fin 2) (vc : Nat) (k : FramePkt) : Statement (.frameEnd t p vc k) :=
  ⟨.frameEnd 0 0 0 ⟨0, false⟩, rfl, rfl⟩
theorem frameTimeout (t : Nat) (c : Fin 8) : Statement (.frameTimeout t c) :=
  ⟨.frameTimeout 0 0, rfl, rfl⟩
theorem camLaneLockLoss (t : Nat) (p : Fin 2) (lane : Fin 4) : Statement (.camLaneLockLoss t p lane) :=
  ⟨.camLaneLockLoss 0 0 0, rfl, rfl⟩
theorem frameRecordWrite (t : Nat) (c : Fin 8) : Statement (.frameRecordWrite t c) :=
  ⟨.frameRecordWrite 0 0, rfl, rfl⟩
theorem cciWriteDone (t : Nat) (p : Fin 2) (nak : Bool) : Statement (.cciWriteDone t p nak) :=
  ⟨.cciWriteDone 0 0 false, rfl, rfl⟩
theorem visSetArm (m : Fin 9) (c : Fin 8) : Statement (.visSetArm m c) :=
  ⟨.visSetArm 0 0, rfl, rfl⟩
theorem visCtxRel (m : Fin 9) (c : Fin 8) (k : Nat) : Statement (.visCtxRel m c k) :=
  ⟨.visCtxRel 0 0 0, rfl, rfl⟩
theorem runStart (m : Fin 9) : Statement (.runStart m) :=
  ⟨.runStart 0, rfl, rfl⟩
theorem cancel (m : Fin 9) : Statement (.cancel m) :=
  ⟨.cancel 0, rfl, rfl⟩
theorem trimStep (t : Nat) (k : Fin 4) : Statement (.trimStep t k) :=
  ⟨.trimStep 0 0, rfl, rfl⟩
theorem stage (m : Fin 9) : Statement (.stage m) :=
  ⟨.stage 0, rfl, rfl⟩
theorem unstage (m : Fin 9) : Statement (.unstage m) :=
  ⟨.unstage 0, rfl, rfl⟩
theorem gainTargetCopy (m : Fin 9) (v : BitVec 32) : Statement (.gainTargetCopy m v) :=
  ⟨.gainTargetCopy 0 0, rfl, rfl⟩
theorem provision (m : Fin 9) : Statement (.provision m) :=
  ⟨.provision 0, rfl, rfl⟩
theorem advance (m : Fin 9) : Statement (.advance m) :=
  ⟨.advance 0, rfl, rfl⟩
theorem genWrap (m : Fin 9) (slot : Nat) : Statement (.genWrap m slot) :=
  ⟨.genWrap 0 0, rfl, rfl⟩
theorem loadKey (m : Fin 9) : Statement (.loadKey m) :=
  ⟨.loadKey 0, rfl, rfl⟩
theorem erase (m : Fin 9) (slot : Nat) : Statement (.erase m slot) :=
  ⟨.erase 0 0, rfl, rfl⟩
theorem readDev (m : Fin 9) : Statement (.readDev m) :=
  ⟨.readDev 0, rfl, rfl⟩
theorem formeLoad (m : Fin 9) (persist : Bool) : Statement (.formeLoad m persist) :=
  ⟨.formeLoad 0 false, rfl, rfl⟩
theorem persist (m : Fin 9) : Statement (.persist m) :=
  ⟨.persist 0, rfl, rfl⟩
theorem persistDone (t : Nat) (good : Bool) : Statement (.persistDone t good) :=
  ⟨.persistDone 0 false, rfl, rfl⟩
theorem unlock (m : Fin 9) : Statement (.unlock m) :=
  ⟨.unlock 0, rfl, rfl⟩
theorem lock (m : Fin 9) : Statement (.lock m) :=
  ⟨.lock 0, rfl, rfl⟩
theorem jtagExtest (t : Nat) (select : Bool) : Statement (.jtagExtest t select) :=
  ⟨.jtagExtest 0 false, rfl, rfl⟩
theorem securityAlarm (t : Nat) (cls : AlarmClass) : Statement (.securityAlarm t cls) :=
  ⟨.securityAlarm 0 .mesh, rfl, rfl⟩
theorem tampAlarm (t : Nat) (inputB : Bool) : Statement (.tampAlarm t inputB) :=
  ⟨.tampAlarm 0 false, rfl, rfl⟩
theorem jrnTrap (t : Nat) (j : Fin 8) (cause : BitVec 8) (inNmi : Bool) : Statement (.jrnTrap t j cause inNmi) :=
  ⟨.jrnTrap 0 0 0 false, rfl, rfl⟩
theorem jrnWdog (t : Nat) (j : Fin 8) (inNmi : Bool) : Statement (.jrnWdog t j inNmi) :=
  ⟨.jrnWdog 0 0 false, rfl, rfl⟩
theorem jrnKick (m : Fin 9) (j : Fin 8) : Statement (.jrnKick m j) :=
  ⟨.jrnKick 0 0, rfl, rfl⟩
theorem jrnMbPost (m : Fin 9) (j : Fin 8) : Statement (.jrnMbPost m j) :=
  ⟨.jrnMbPost 0 0, rfl, rfl⟩
theorem jrnMbIn (m : Fin 9) (j : Fin 8) (v : BitVec 32) : Statement (.jrnMbIn m j v) :=
  ⟨.jrnMbIn 0 0 0, rfl, rfl⟩
theorem refclkLoss (t : Nat) : Statement (.refclkLoss t) :=
  ⟨.refclkLoss 0, rfl, rfl⟩
theorem pllLockLoss (t : Nat) (clk : Fin 9) : Statement (.pllLockLoss t clk) :=
  ⟨.pllLockLoss 0 0, rfl, rfl⟩
theorem vbakLow (t : Nat) (lost : Bool) : Statement (.vbakLow t lost) :=
  ⟨.vbakLow 0 false, rfl, rfl⟩
theorem hostLinkUp (t : Nat) (width : Nat) (speed : Nat) (bme : Bool) : Statement (.hostLinkUp t width speed bme) :=
  ⟨.hostLinkUp 0 0 0 false, rfl, rfl⟩
theorem mgmtLinkUp (r : LinkReport) : Statement (.mgmtLinkUp r) :=
  ⟨.mgmtLinkUp ⟨0, false, 0⟩, rfl, rfl⟩
theorem camLaneLock (t : Nat) (p : Fin 2) (lane : Fin 4) : Statement (.camLaneLock t p lane) :=
  ⟨.camLaneLock 0 0 0, rfl, rfl⟩
theorem beamInhibitRelease (t : Nat) : Statement (.beamInhibitRelease t) :=
  ⟨.beamInhibitRelease 0, rfl, rfl⟩
theorem vinEnergySample (t : Nat) (mV : Nat) (mA : Nat) : Statement (.vinEnergySample t mV mA) :=
  ⟨.vinEnergySample 0 0 0, rfl, rfl⟩
theorem msixUnmask (m : Fin 9) (off : Nat) (v : BitVec 32) : Statement (.msixUnmask m off v) :=
  ⟨.msixUnmask 0 0 0, rfl, rfl⟩

end Sys2Proof.Laws.Admits
end

