-- ==== Sys2Proof/Machine/Lands.lean ====
section
/-! DEFINITION. The condition of each output land in a state (R24, R310, R356, R392, R398, R464, R491, R608, R688). -/

namespace Sys2Proof.Machine
open Sys2Proof

/-- The conditions of R688. -/
inductive Land where
  | highZ
  | low
  | high
  /-- A lane at electrical idle, and one that sends (R356). -/
  | idle
  | sends
  /-- A ring direction whose bypass joins IN to OUT, and one with the part in it (R464). -/
  | bypass
  | inRing
  /-- A DEF output tied to AGND through 10 kΩ, and one that drives a level in units of Δ/66,000 with Δ = 2.5 V/131,072 (R398,
  R688, R690). -/
  | grounded
  | drives (v : Int)
  /-- A TAMP input, watched in every condition of the part (R688). -/
  | monitored
  deriving DecidableEq, Repr

/-- A two-level output: high impedance without power, low while its domain is down, else its level. -/
def levelLand (powered up level : Bool) : Land :=
  if !powered then .highZ else if up && level then .high else .low

/-- SHOT_P/N is high from t_n to t_n + 312.5 ns (R392). powered says whether VIN feeds the part. -/
def State.shotLand (s : State) (powered : Bool) : Land :=
  let on : Bool := match s.esc.att with
    | none => false
    | some a => a.recent.any (fun f => decide (f.tn * 66 ≤ s.clk.now ∧ (s.clk.now : Int) < f.tn * 66 + 412500))
  levelLand powered (s.pins.resetN && s.domUp .motion) on

/-- SYNC_OUT is high for 1 µs from each of its pulses (R491). -/
def State.syncOutLand (s : State) (powered : Bool) : Land :=
  levelLand powered (s.pins.resetN && s.domUp .ring) (s.out.any (fun x => match x with
    | .syncOut t => decide (t ≤ s.clk.now ∧ s.clk.now < t + us 1)
    | _ => false))

/-- FAULT_N is low without power, while PD_CTRL is down, in a boundary-scan test, and while the Watch or another part
pulls it (R608, R610, R659). -/
def State.faultLand (s : State) (powered : Bool) : Land := if powered && s.faultHigh then .high else .low

/-- BEAM_ENABLE is low without power (R24, R310). -/
def State.beamLand (s : State) (powered : Bool) : Land :=
  if powered && s.pins.resetN && s.flag F.HED_BEAM_STAT_ENABLE_OUT then .high else .low

/-- Lane l is at electrical idle without power, in a domain that is down, in a boundary-scan test and in state OFF (R24,
R356, R659). -/
def State.laneLand (s : State) (powered : Bool) (l : Nat) : Land :=
  if powered && s.pins.resetN && !s.pins.extest && s.domUp (laneDom l) && s.get (F.BDL_STAT_STATE l) != 0 then .sends else .idle

/-- A ring direction (R24, R464). -/
def State.ringLand (s : State) (powered : Bool) : Land := if powered && s.pins.resetN && s.inRing then .inRing else .bypass

/-- The output code of axis a at the present instant, in 1/66,000: it moves linearly from one tick's code to the next over the
50 ns of the tick (R398). -/
def State.defNow (s : State) (a : Nat) : Int :=
  let ax := if a = 0 then s.gov.ax else s.gov.ay
  let d := min 66000 (s.clk.now - (s.clk.beats.lookup Beat.govTick.code).getD 0)
  ax.from_ * (66000 - d : Nat) + s.getS (F.GOV_DEF_OUT a) * d

/-- DEF[i] (R398, R688, R690): V(DEF[2a]) = 2.5 V + out·Δ and V(DEF[2a+1]) = 2.5 V − out·Δ. -/
def State.defLand (s : State) (powered : Bool) (i : Nat) : Land :=
  if !powered then .highZ
  else if s.pins.resetN && s.domUp .motion then
    .drives (131072 * 66000 + (if i % 2 = 0 then s.defNow (i / 2) else -(s.defNow (i / 2))))
  else .grounded

/-- SYNC_IN and the other logic inputs are at high impedance in every condition (R688); TAMP_A and TAMP_B are monitored. -/
def inputLand (tamp : Bool) : Land := if tamp then .monitored else .highZ

/-- TDO is at high impedance but while it shifts (R687, R688). -/
def State.tdoLand (s : State) (powered shifts bit : Bool) : Land :=
  if powered && s.pins.resetN && shifts then (if bit then .high else .low) else .highZ

/-- A CCI line is an open drain (R687, R688): low where the part sinks it while PD_VISION runs, else at high impedance. -/
def State.cciLand (s : State) (powered sinks : Bool) : Land :=
  if powered && s.pins.resetN && s.domUp .vision && sinks then .low else .highZ

end Sys2Proof.Machine
end

