-- ==== Sys2Proof/Tests/Slice0.lean ====
section
/-! SUPPORT. Tests: an ill-formed command for each check of WellFormed, the worked examples of the spec, and values that
meet the hypotheses of every obligation. -/

namespace Sys2Proof.Tests
open Sys2Proof Sys2Proof.Machine
set_option Elab.async false

/-! ## Well-formed commands -/

/-- Well-formed commands pass. -/
theorem test_wf_passes : (Instr.regWrite 0 0xD0000 0x190).wf = true ∧ (Instr.snap 0).wf = true := by decide
/-- An offset that is no word of WIN_REG. -/
theorem test_wf_regWrite : (Instr.regWrite 0 0xD0002 0).wf = false := by decide
/-- An offset above WIN_REG. -/
theorem test_wf_rcRead : (Instr.rcRead 0 0x4000000).wf = false := by decide
/-- An offset outside the snapshot bank. -/
theorem test_wf_snapBankRead : (Instr.snapBankRead 0 0x100).wf = false := by decide
/-- An offset above WIN_REG. -/
theorem test_wf_regAccessError : (Instr.regAccessError 0 0x4000000 true true).wf = false := by decide
/-- No power state 4. -/
theorem test_wf_pwrStateRequest : (Instr.pwrStateRequest 0 ⟨4, 0⟩).wf = false := by decide
/-- PWR_DOM_REQ has two bits. -/
theorem test_wf_pwrDomainRequest : (Instr.pwrDomainRequest 0 4).wf = false := by decide
/-- A source named twice. -/
theorem test_wf_watchEvent : (Instr.watchEvent 0 [3, 3]).wf = false := by decide
/-- A source named twice. -/
theorem test_wf_escalationExpiry : (Instr.escalationExpiry 0 [3] [5, 5]).wf = false := by decide
/-- More bytes than a descriptor moves. -/
theorem test_wf_chAbort : (Instr.chAbort 0 0 (List.replicate 1073741825 0)).wf = false := by
  show decide ((List.replicate 1073741825 (0 : Byte)).length ≤ 1073741824) = false
  rw [List.length_replicate]; decide
/-- A descriptor of 4 bytes. -/
theorem test_wf_descriptorRead : (Instr.descriptorRead 0 0 [1, 2, 3, 4]).wf = false := by decide
/-- USAGE has 64 counts. -/
theorem test_wf_authAnswer : (Instr.authAnswer 0 ⟨0, true⟩ 0 [] 0).wf = false := by decide
/-- Telemetry has 16 temperatures. -/
theorem test_wf_telemetry : (Instr.telemetry 0 0 ⟨0, true⟩ 0 [] []).wf = false := by decide
/-- A FOM message has 8 figures. -/
theorem test_wf_fom : (Instr.fom 0 0 ⟨0, true⟩ [1]).wf = false := by decide
/-- A read past WIN_GAL. -/
theorem test_wf_winGalRead : (Instr.winGalRead 0 (2 ^ 32) 1).wf = false := by decide
/-- A write past WIN_GAL. -/
theorem test_wf_winGalWrite : (Instr.winGalWrite 0 (2 ^ 32) 1).wf = false := by decide
/-- A TOPO payload of 65 entries. -/
theorem test_wf_topo : (Instr.topo 0 ⟨0, 0, 0, 0, true, 0, true, true⟩
    ⟨false, false, false, 0, 0, List.replicate 65 ⟨0, 1, true, true, false, 0⟩⟩).wf = false := by decide
/-- A TOPO_RESULT payload of 65 entries. -/
theorem test_wf_topoResult : (Instr.topoResult 0 ⟨0, 0, 0, 0, true, 0, true, true⟩
    ⟨false, false, false, 0, 0, List.replicate 65 ⟨0, 1, true, true, false, 0⟩⟩).wf = false := by decide
/-- A LAUNCH that names no stripes. -/
theorem test_wf_launch : (Instr.launch 0 ⟨0, 0, 0, 0, true, 0, true, true⟩ ⟨false, 0, 0, 0, 0, 0, 0, []⟩).wf = false := by decide
/-- A HALO_DATA body of 2,033 bytes. -/
theorem test_wf_haloData : (Instr.haloData 0 ⟨0, 0, 0, 0, true, 0, true, true⟩ 0 0 0 (List.replicate 2033 0)).wf = false := by
  decide +kernel
/-- A MAIL body of 2,033 bytes. -/
theorem test_wf_mail : (Instr.mail 0 ⟨0, 0, 0, 0, true, 0, true, true⟩ ⟨0, 0⟩ (List.replicate 2033 0)).wf = false := by decide +kernel
/-- No mode 4. -/
theorem test_wf_modeReq : (Instr.modeReq 0 4 0).wf = false := by decide
/-- RING_INPUT_UP has a figure for each of 16 CTLE codes and one after adaptation. -/
theorem test_wf_ringInputUp : (Instr.ringInputUp 0 0 []).wf = false := by decide
/-- An access past a shot buffer's end. -/
theorem test_wf_stopComplete : (Instr.stopComplete 0 [.read 1572864]).wf = false := by decide
/-- An access past a shot buffer's end. -/
theorem test_wf_shotDue : (Instr.shotDue 0 [.write 1572860 [1, 2, 3, 4, 5, 6, 7, 8]]).wf = false := by decide
/-- A flip past a shot buffer's end. -/
theorem test_wf_shotDecodeDone : (Instr.shotDecodeDone 0 [.flip 24576 (.data 0 0)]).wf = false := by decide
/-- An access past the end of the stick buffers. -/
theorem test_wf_tileCompose : (Instr.tileCompose 0 0 [] [(1, .read 8388608)]).wf = false := by decide
/-- A read past the end of the Journeyman memory, and a write by a core past it. -/
theorem test_wf_scrubRead : (Instr.scrubRead 0 3 [.read 16777216] none).wf = false := by decide
/-- There are 1,536 banks. -/
theorem test_wf_refreshInterval : (Instr.refreshInterval 0 1536).wf = false := by decide
/-- There are 1,536 banks. -/
theorem test_wf_refreshIssue : (Instr.refreshIssue 0 1536 .idle).wf = false := by decide
/-- A read above the stack. -/
theorem test_wf_hbmReadPoison : (Instr.hbmReadPoison 0 0 0x600000000 false none).wf = false := by decide
/-- A read above the stack. -/
theorem test_wf_hbmPhy : (Instr.hbmPhy 0 0 [⟨0, 0x600000000, none⟩]).wf = false := by decide
/-- No virtual channel 4. -/
theorem test_wf_frameStart : (Instr.frameStart 0 0 4 ⟨0, false⟩).wf = false := by decide
/-- A data type has six bits. -/
theorem test_wf_longPacket : (Instr.longPacket 0 0 0 64 [] false true).wf = false := by decide
/-- A frame number has 16 bits. -/
theorem test_wf_frameEnd : (Instr.frameEnd 0 0 0 ⟨65536, false⟩).wf = false := by decide
/-- REL frees at most 255 slots. -/
theorem test_wf_visCtxRel : (Instr.visCtxRel 0 0 256).wf = false := by decide
/-- A slot has five bits. -/
theorem test_wf_genWrap : (Instr.genWrap 0 32).wf = false := by decide
/-- A slot has five bits. -/
theorem test_wf_erase : (Instr.erase 0 32).wf = false := by decide
/-- An offset outside the MSI-X structures. -/
theorem test_wf_msixUnmask : (Instr.msixUnmask 0 1024 0).wf = false := by decide

/-! ## The queue and words -/

/-- The table gives no row bits, so no word spells a command. -/
theorem test_decode_none : decodeTableWord 32 0 = none ∧ decodeTableWord 0 0 = none := ⟨rfl, rfl⟩

/-! ## Worked examples of the spec -/

/-- The check value of R199. -/
theorem test_crc32c : crc32c [0x31, 0x32, 0x33, 0x34, 0x35, 0x36, 0x37, 0x38, 0x39] = 0xE3069283 := by decide +kernel
/-- The check value of R84. -/
theorem test_crc64 : crc64 [0x31, 0x32, 0x33, 0x34, 0x35, 0x36, 0x37, 0x38, 0x39] = 0x995DC9BBDF1939FA := by
  decide +kernel
/-- The check value of R375. -/
theorem test_crc16 : crc16 0xFFFF [0x31, 0x32, 0x33, 0x34, 0x35, 0x36, 0x37, 0x38, 0x39] = 0x29B1 := by decide +kernel
/-- The SYNC words of R335, R345, R467 and R374. -/
theorem test_sync_words : [laneCode, ctrlCode, ringCode, wordCode].map (fun c => ofBits (c.sync.map Prod.fst)) =
    [0x3C5AFFFFFFFFFFE0, 0x5AC2FFFFFFFFFFE0, 0xA53CFFFFFFFFFFE0, 0x7FFFE] := by decide +kernel
/-- A position word without stuff bits takes 116 bits, and one after 16 ones has a stuff bit before its SYNC (R374). -/
theorem test_word_bits : [(⟨true, 1⟩ : Run), ⟨true, 16⟩].map (fun r =>
    ((wordCode.send (wordSeed 8 1) r (bitsOf 96 (posWord 9 8 1000 true false false 7))).1.length,
      (wordCode.send (wordSeed 8 1) r (bitsOf 96 (posWord 9 8 1000 true false false 7))).1.take 2)) =
    [(116, [false, true]), (117, [false, false])] := by decide +kernel
/-- A port with another LINK_ID refuses the word (R375). -/
theorem test_wrong_link : (posFields 8 (posWord 9 4 1000 true false false 7)).crc = false := by decide +kernel
/-- A powered part whose domains are off: idle lanes, closed bypasses, FAULT_N and BEAM_ENABLE low, DEF tied (R24, R688). -/
theorem test_lands_off : (State.reset.laneLand true 3, State.reset.ringLand true, State.reset.faultLand true,
    State.reset.beamLand true, State.reset.defLand true 0, State.reset.shotLand false) =
    (.idle, .bypass, .low, .low, .grounded, .highZ) := by decide +kernel
/-- The pixel of chapter 02, both ways: its pass 3 and the rows of the reverse stripe. -/
theorem test_scan_pixel : (Scan.mk 5120 16 8 true).pixelOf 0 25754 213 187 = (100005, 3001, 3) ∧
    ((Scan.mk 5120 16 8 true).beamShots 1 1228 100005 3001).map BeamShot.row = [490, 426, 362, 298, 234, 170, 106, 42] := by
  decide +kernel
/-- The launch position of chapter 02. -/
theorem test_scan_launch : (Scan.mk 5120 16 8 true).launch 0 0 = 2549760 := by decide +kernel
/-- The TRAP of chapter 04: its five coverages. -/
theorem test_trap_coverage :
    [cover [⟨0, 512, ⟨0, 0, 0, 512⟩, ⟨100, 0, 612, 512⟩⟩] 0 0, cover [⟨0, 512, ⟨0, 0, 0, 512⟩, ⟨100, 0, 612, 512⟩⟩] 1 0,
      cover [⟨0, 512, ⟨0, 0, 0, 512⟩, ⟨100, 0, 612, 512⟩⟩] 0 1, cover [⟨0, 512, ⟨0, 0, 0, 512⟩, ⟨100, 0, 612, 512⟩⟩] 1 1,
      cover [⟨0, 512, ⟨0, 0, 0, 512⟩, ⟨100, 0, 612, 512⟩⟩] 2 1] = [208, 19, 255, 208, 19] := by decide +kernel
/-- The run-up of chapter 10: 5 ms of jerk and 20.6 ms of constant acceleration in ticks of 1 µs. -/
theorem test_run_phases : phases none 256000 10000 2000 1000 = (5000, 20600, 0) := by decide +kernel
/-- The refresh rate at 110 °C (chapter 07). -/
theorem test_refresh_rate : refRate 0 110 = 2 := by decide +kernel
/-- The flipped bit 37 of word 5 of chapter 07. -/
theorem test_sram_verdict : verdict [.data 5 37] = .data 5 37 := by decide +kernel

/-! ## Small states -/

/-- A powered, running part: every domain on, HBM running, some time since its start. -/
def up : State :=
  { (State.reset.set F.PWR_DOM_STAT_ON 0xFFF).set F.MEM_STAT_RUN_ACK 1 with clk := ⟨1000000000000000, 0, 0, 0, 0, [], [], 0⟩ }

/-- A powered part with fields set. -/
def w (l : List (Fld × Nat)) : State := l.foldl (fun s p => s.set p.1 p.2) up

/-- A part in the ring and admitted, of a role. -/
def inR (role : Nat) : State := w [(F.KOR_ROLE, role), (F.KOR_STAT_IN_RING, 1), (F.KOR_STAT_ADMITTED, 1)]

/-- A good header of a frame from device 1 to all, and one to device 0. -/
def hdr : RingHdr := ⟨0, 1, 0, 0, true, 0, true, true⟩
/-- A frame from device 1 to device 0. -/
def uni : RingHdr := ⟨0, 1, 0, 0, false, 0, true, true⟩
/-- A good return header. -/
def ret : RetHdr := ⟨1, true⟩

/-- The composition state of a stripe that has just been opened. -/
def comp0 : CompSt :=
  { bound := [], gainSlot := 0, prepass := false, ylo := none, yhi := none, yloOk := false, yhiOk := false, sums := [], owes := []
    nextCycle := 0, tilesOf := [], rewrite := none, hist := [], outs := [], held := false, nextCol := 0, ldig := 0, ldigDone := false, inst := 0, pix := 0, eqSat := 0, eqNext := 0
    dpvNext := 0, dpvWr := 0, dpvBeam := 0, dpvShot := 0, quireIn := 0, quireOut := 0, list := none, listOvf := false
    rebuilt := true, stalled := false }

/-- A stripe of layer 1 in a state. -/
def str (st : StripeSt) : Stripe :=
  { id := 0x1000001, st := st, dir := 0, body := 4, cyc := 8, xs := 0, ys := 0, x0 := 1000, launch := 0, timeLaunch := false, lead := none
    cfgEpoch := 0, gainEpoch := 0, formeEpoch := 0, formeHash := 0, slot := 0, darnBase := 0x500000000, darnSize := 64
    darnNext := 0, darnCount := 0, ddig := 0, wdig := 0, sdig := 0, incomplete := false, resume := none, resumes := 0
    mend := none, tStart := none, tEnd := none, headId := 0, comp := comp0 }

/-- A part with stripes in its open queue. -/
def withQ (s : State) (q : List Stripe) : State := { s with asy := { s.asy with queue := q } }

/-- An attempt over shots 0 to 63. -/
def att : Attempt :=
  { na := 0, ns := 0, last := 63, next := 0, tPrev := none, fixClk := none, fixed := [], launched := true, t0 := none, due := none
    recent := [], bar := none, device := 0 }

/-- A part whose current stripe is in an attempt. -/
def inAtt (s : State) (x : Stripe) (a : Attempt) : State := { withQ s [x] with esc := { s.esc with att := some a } }

/-- A part with a channel in a phase. -/
def withCh (s : State) (n : Nat) (p : ChPh) : State := s.setChan n ⟨p, 1, 64, [], 0⟩

/-- A descriptor of a kind. -/
def dsc (kind : Nat) : Desc := ⟨4096, 8192, 0x500000000, 1, kind, false, 1, 0⟩

/-- A descriptor's bytes: OWN in CTL, an ARG in the tables and records. -/
def dscB (own : Bool) (kind len link : Nat) : List Byte :=
  leBytes 8 8192 ++ leBytes 8 0x500000000 ++ leBytes 4 (len + kind * 2 ^ 24 + b2n own * 2 ^ 31) ++ leBytes 4 0 ++ leBytes 8 link

/-- A good segment header with 64 bytes after it, of layer 1, SEQ 0 and key slot 0. -/
def segB : List Byte :=
  leBytes 4 0x4854554C ++ leBytes 2 1 ++ leBytes 2 1 ++ leBytes 8 0 ++ leBytes 4 1 ++ leBytes 2 0 ++ leBytes 2 0 ++ leBytes 8 0
    ++ leBytes 4 64 ++ leBytes 4 1 ++ leBytes 4 0xFFFFFFFF ++ leBytes 4 0 ++ zeros 80

/-- The plaintext of a LAYER_START of layer 1: pitch 0, one prelude segment, no take, two segments. -/
def startB : List Byte :=
  leBytes 2 1 ++ zeros 2 ++ leBytes 4 72 ++ leBytes 4 1 ++ zeros 4 ++ zeros 16 ++ leBytes 4 0 ++ leBytes 4 1 ++ leBytes 4 0
    ++ zeros 4 ++ leBytes 8 2 ++ leBytes 4 0 ++ leBytes 4 64 ++ leBytes 4 0 ++ leBytes 4 64

/-- Layer 1 with its LAYER_START. -/
def lay1 : CLayer := ⟨1, [⟨0, 0, 0, 0, true, 0xFFFFFFFF, 1, startB, 0⟩], false, [], [], false, [], 1⟩

/-- A part that holds layer 1 and a stripe of it. -/
def composingS (x : Stripe) : State := { withQ up [x] with copy := { layers := [lay1], tap := none } }

/-- A frame being received. -/
def vfr : VFrame :=
  { fn := 7, sensorFn := 7, slot := 0, tFs := 0, tFe := 0, at_ := 0, dropped := false, lastPkt := 0, lines := [], marks := 0
    crcErr := 0, eccErr := 0, tag := 0, cfg := [], defMap := [], lsc := none, met := none, reg := none }

/-- A part with Loupe's state changed. -/
def withV (v : Vis) : State := { w [(F.VIS_PORT_CTL_EN 0, 1), (F.VIS_PORT_CTL_EN 1, 1)] with vis := v }

/-- A shot on its way with lane 0 unanswered. -/
def shotO : ShotOut := ⟨5, 0, false, false, [0], [], [], [], none, []⟩

/-- A LAUNCH of group 1. -/
def lau : LaunchMsg := ⟨false, 1, 0, 0, 0, 2 ^ 60, 1, [1]⟩

/-- A stripe ready to compose. -/
def readyX : Stripe := { str .opened with comp := { comp0 with prepass := true, yloOk := true, yhiOk := true } }

/-- A stripe that owes the halo of its upper side. -/
def owesX : Stripe := { readyX with comp := { readyX.comp with owes := [true] } }

/-- A stripe whose cycle has all its tiles and whose columns are folded. -/
def fullX : Stripe :=
  { str .opened with comp := { comp0 with
      tilesOf := (List.range 32).map (fun l => (l, ⟨0x1000001, 0, l, 0, 64⟩)), nextCol := 100 } }

/-- The plaintext of a STRIPE_HINT of take 3: a rectangle around the origin. -/
def hintB : List Byte :=
  leBytes 2 3 ++ zeros 2 ++ leBytes 4 48 ++ leBytes 4 3 ++ leBytes 4 1 ++ leBytes 4 (tc 32 (-1000000)) ++ leBytes 4 1000000
    ++ leBytes 4 (tc 32 (-1000000)) ++ leBytes 4 1000000 ++ leBytes 4 1 ++ zeros 4 ++ leBytes 4 1 ++ zeros 4

/-- Layer 1 with its LAYER_START and take 3. -/
def needLay : CLayer := { lay1 with segs := lay1.segs ++ [⟨1, 0, 0, 0, false, 3, 1, hintB, 1⟩], count := 2 }

/-- A Forme image with SCAN_PITCH 8, SCAN_M 1 and SCAN_P 1. -/
def scanImg : Image := [(0x24, 0x80), (0x80, 8), (0x84, 1), (0x85, 1)]

/-- A part whose open stripe needs take 3. -/
def neededS : State :=
  { withQ up [str .opened] with copy := { layers := [needLay], tap := none }, forme := some (scanImg, 512) }

/-- RingTakes from its conjuncts. -/
theorem ringTakes {s : State} {h : RingHdr}
    (p : s.inRing = true ∧ s.admitted = true ∧ h.good = true ∧ h.whole = true ∧ h.src.val ≠ s.get F.KOR_DEV_DEVICE ∧
      (DupWin.mark (s.kor.dups.lookup h.src.val) h.seq.val).isSome = true ∧
      (if h.bcast then h.hops.val ≠ 63 else h.dst.val = s.get F.KOR_DEV_DEVICE)) : RingTakes s h := p

/-- ReturnGood on a lane that has accepted no message yet. -/
theorem returnGood {s : State} {k : Nat} {h : RetHdr}
    (p : s.domUp .bdlb = true ∧ s.get (F.BDL_RX_STAT_STATE k) ≠ 0 ∧ h.good = true)
    (q : (s.bdl.bsr.get k Bsr.start).mseq = none) : ReturnGood s k h :=
  ⟨p.1, p.2.1, p.2.2, fun _ e => by simp [q] at e⟩

/-- Canonical from its conjuncts. -/
theorem canonical {s : State} (p : s.mem.wf = true ∧ Regs.wf s.regs = true ∧ Regs.wf s.force = true ∧
    Regs.wf s.strip = true) : Canonical s := p

/-- A premise about the value of an absent option. -/
theorem noneYet {a : Option Nat} {P : Nat → Prop} (p : a = none) : ∀ w, a = some w → P w := fun _ e => by simp [p] at e

/-- RingIdle from the two rings. -/
theorem ringIdle {s : State} {t : Nat}
    (p : ∀ r, r < 2 → (s.ringOut r).queue.isEmpty = true ∧ (s.ringOut r).free ≤ 5 * max s.clk.now t) : RingIdle s t :=
  fun r h => ⟨List.isEmpty_iff.mp (p r h).1, (p r h).2⟩

/-- The channel of the Galley ring of lane 2 (chapter 07). -/
theorem test_hash : up.channelOf 0x148000000 = 14 := by decide +kernel
/-- The servo example of chapter 12: a member 1 ns ahead. -/
theorem test_servo :
    (({ w [(F.KOR_ROLE, 1)] with kor := { up.kor with stepped := true } } : State).servo 65536).get F.TIM_INC_EFF =
      6663363222 := by
  decide +kernel
/-- BDL_LEAD of chapter 18: the pending value and the value in force after a write. -/
theorem test_bdl_lead :
    ((after (.regWrite 0 0xD0000 0x190) up).get F.BDL_LEAD, (after (.regWrite 0 0xD0000 0x190) up).frc F.BDL_LEAD) =
      (0x190, 0x140) := by decide +kernel
/-- The empty queue idles. -/
theorem test_step_idle : step up = .next up := rfl
/-- R546: INIT, then the nine bytes "123456789" at width 0. -/
theorem test_check_unit : (([Instr.chkInit 0 0, .chkD32 0 0 0x34333231, .chkD32 0 0 0x38373635, .chkD8 0 0 0x39].foldl
    (fun s c => after c s) up).get (F.CHK_RES 0)) = 0xE3069283 := by decide +kernel

/-! ## Values that meet the hypotheses of the obligations -/

/-- Values that meet the hypotheses of StepRunsFrontCommand. -/
theorem witness_StepRunsFrontCommand :
    (∃ (s : State) (c : Instr) (rest : List Instr), s.pending = c :: rest) ∧ (∃ (s : State), s.pending = []) := by
  refine ⟨⟨{ up with pending := [.snap 0] }, .snap 0, [], ?_⟩, ⟨up, ?_⟩⟩
  all_goals decide +kernel

/-- Values that meet the hypotheses of StepKeepsCanonicalForm. -/
theorem witness_StepKeepsCanonicalForm :
    (∃ (s : State) (t : State), Canonical s ∧ step s = .next t) := by
  refine ⟨{ up with pending := [.vinReturn 5] },
    { up with clk := { up.clk with now := 1000000000000000 }, pins := { up.pins with vinOk := true, vinLow := false } },
    canonical (by decide +kernel), rfl⟩

/-- Values that meet the hypotheses of WatchTakesAndEscalates. -/
theorem witness_WatchTakesAndEscalates :
    (∃ (s : State) (t : Nat) (src : Fin 128) (e : WEv) (rest : List WEv), s.domUp .ctrl = true ∧ (s.wsrc src).queue = e ::
    rest) ∧ (∃ (s : State) (t : Nat) (d : Nat) (src : Fin 128), s.domUp .ctrl = true ∧ s.severe src = true ∧ (s.wsrc
    src).deadline = some d ∧ d ≤ max s.clk.now t) := by
  refine ⟨⟨{ up with watch := { up.watch with src := up.watch.src.put 2 { WSrc.idle with queue := [⟨3, 5⟩] } } }, 0, 2, ⟨3, 5⟩,
    [], ?_⟩,
    ⟨{ w [(F.WCH_SRC_STAT_SEVERE 2, 1)] with watch := { up.watch with src := up.watch.src.put 2 { WSrc.idle with deadline := some 5 } } },
    0, 5, 2, ?_⟩⟩
  all_goals decide +kernel

/-- Values that meet the hypotheses of SourcesClearedAndRecorded. -/
theorem witness_SourcesClearedAndRecorded :
    (∃ (s : State) (m : Fin 9) (src : Fin 128), s.domUp .ctrl = true) ∧ (∃ (s : State) (m : Fin 9) (src : Fin 128),
    s.domUp .ctrl = true ∧ s.causeOn src = true) ∧ (∃ (s : State) (m : Fin 9) (src : Fin 128), s.domUp .ctrl = true ∧
    s.causeOn src = false) ∧ (∃ (s : State) (t : Nat) (src : Fin 128), s.domUp .ctrl = true ∧ s.severe src = true ∧
    ((s.at t).pinEnd src).causeOn src = false) ∧ (∃ (s : State) (m : Fin 9) (j : Fin 8), s.domUp .ctrl = true ∧ m ≠ 0
    ∧ 0x8000 ≤ s.get (F.DBK_WR_CODE_CODE j) ∧ s.get F.DBK_RATE_N = 0) ∧ (∃ (s : State) (m : Fin 9) (j : Fin 8),
    s.domUp .ctrl = true ∧ (m = 0 ∨ s.get (F.DBK_WR_CODE_CODE j) < 0x8000)) := by
  refine ⟨⟨up, 0, 2, ?_⟩, ⟨{ up with pins := { up.pins with vinLow := true } }, 0, 0, ?_⟩, ⟨up, 0, 2, ?_⟩,
    ⟨w [(F.WCH_SRC_STAT_SEVERE 2, 1)], 0, 2, ?_⟩, ⟨w [(F.DBK_WR_CODE_CODE 0, 0x8001), (F.DBK_RATE_N, 0)], 1, 0, ?_⟩,
    ⟨up, 0, 0, ?_⟩⟩
  all_goals decide +kernel

/-- Values that meet the hypotheses of FaultLineRelease. -/
theorem witness_FaultLineRelease :
    (∃ (s : State) (m : Fin 9), s.domUp .ctrl = true ∧ s.assertedNow = true) ∧ (∃ (s : State) (m : Fin 9), s.domUp .ctrl =
    true ∧ s.assertedNow = false ∧ s.holdsFault = true) ∧ (∃ (s : State) (m : Fin 9), s.domUp .ctrl = true ∧
    s.assertedNow = false ∧ s.holdsFault = false ∧ s.flag F.WCH_FAULTN_DRIVEN = true ∧ s.clk.now <
    s.watch.faultMinEnd) ∧ (∃ (s : State) (m : Fin 9), s.domUp .ctrl = true ∧ s.assertedNow = false ∧ s.holdsFault =
    false ∧ s.flag F.WCH_FAULTN_DRIVEN = true ∧ s.watch.faultMinEnd ≤ s.clk.now) ∧ (∃ (s : State) (t : Nat), s.domUp
    .ctrl = true ∧ s.flag F.WCH_FAULTN_DRIVEN = true ∧ s.flag F.WCH_FAULTN_REL_PEND = true ∧ s.watch.faultMinEnd ≤ max
    s.clk.now t) := by
  refine ⟨⟨{ up with watch := { up.watch with faultAt := some 1000000000000000 } }, 0, ?_⟩,
    ⟨w [(F.WCH_SRC_STAT_SEVERE 2, 1), (F.WCH_SRC_CTL_REACT 2, 4)], 0, ?_⟩,
    ⟨{ w [(F.WCH_FAULTN_DRIVEN, 1)] with watch := { up.watch with faultMinEnd := 2000000000000000 } }, 0, ?_⟩,
    ⟨w [(F.WCH_FAULTN_DRIVEN, 1)], 0, ?_⟩, ⟨w [(F.WCH_FAULTN_DRIVEN, 1), (F.WCH_FAULTN_REL_PEND, 1)], 0, ?_⟩⟩
  all_goals decide +kernel

/-- Values that meet the hypotheses of LanesBroughtUp. -/
theorem witness_LanesBroughtUp :
    (∃ (s : State) (t : Nat) (l : Fin 32), s.get (F.BDL_STAT_STATE l) = 1 ∧ s.bdl.wakeEnd.get l 0 ≤ max s.clk.now t) ∧ (∃
    (s : State) (t : Nat), s.bdl.pllLocked = true) ∧ (∃ (s : State) (t : Nat), s.forme.isSome = true ∧ s.domUp .plat =
    true ∧ s.domUp .bdla = true ∧ s.domUp .bdlb = true ∧ s.pins.extest = false) ∧ (∃ (s : State) (t : Nat) (k : Fin 4)
    (h : RetHdr) (foms : List Nat), ReturnGood s k h) ∧ (∃ (s : State) (m : Fin 9), s.domUp (domOf
    F.BDL_TRAIN_CTL_START.off) = true ∧ s.armedOrRunning = false ∧ s.bdl.sweep = none ∧ s.get F.HED_AUTH_STAT_STATE =
    2 ∧ (∀ l, l < 32 → bitOf (s.get F.BDL_TRAIN_MASK) l = true → s.get (F.BDL_STAT_STATE l) = 2)) ∧ (∃ (s : State) (t
    : Nat) (w : Sweep), s.bdl.sweep = some w ∧ w.holdStart + us 200 ≤ max s.clk.now t) := by
  refine ⟨⟨w [(F.BDL_STAT_STATE 3, 1)], 0, 3, ?_⟩, ⟨up, 0, ?_⟩, ⟨{ up with forme := some ([], 64) }, 0, ?_⟩,
    ⟨w [(F.BDL_RX_STAT_STATE 0, 2)], 0, 0, ret, [1, 2, 3], returnGood (by decide +kernel) (by decide +kernel)⟩,
    ⟨w [(F.BDL_TRAIN_MASK, 1), (F.BDL_STAT_STATE 0, 2), (F.HED_AUTH_STAT_STATE, 2)], 0, ?_⟩,
    ⟨{ up with bdl := { up.bdl with sweep := some ⟨1, 3, 0, [], []⟩ } }, 0, ⟨1, 3, 0, [], []⟩, ?_⟩⟩
  all_goals decide +kernel

/-- Values that meet the hypotheses of ReturnLanesAndAnswers. -/
theorem witness_ReturnLanesAndAnswers :
    (∃ (s : State) (t : Nat) (k : Fin 4) (fom : Nat), s.get (F.BDL_RX_STAT_STATE k) = 1 ∧ (s.bdl.bsr.get k
    Bsr.start).adapting = false ∧ (s.bdl.bsr.get k Bsr.start).since + ctleHold ≤ max s.clk.now t) ∧ (∃ (s : State) (t
    : Nat) (k : Fin 4) (fom : Nat), s.get (F.BDL_RX_STAT_STATE k) = 1 ∧ (s.bdl.bsr.get k Bsr.start).adapting = true ∧
    (s.bdl.bsr.get k Bsr.start).since + ms 1 ≤ max s.clk.now t) ∧ (∃ (s : State) (t : Nat) (k : Fin 4), s.domUp .bdlb
    = true ∧ s.get (F.BDL_RX_STAT_STATE k) = 2) ∧ (∃ (s : State) (t : Nat) (k : Fin 4) (fom : Nat), s.domUp .bdlb =
    true ∧ s.get (F.BDL_RX_STAT_STATE k) = 2 ∧ fom < s.get (F.BDL_RX_CTL_FOM_MIN k) ∧ (s.bdl.bsr.get k
    Bsr.start).since + ms 1 ≤ max s.clk.now t) ∧ (∃ (s : State) (m : Fin 9) (k : Fin 4), s.domUp (domOf
    (F.BDL_RX_CTL_RECOVER k).off) = true ∧ s.get (F.BDL_RX_STAT_STATE k) = 2) ∧ (∃ (s : State) (t : Nat) (k : Fin 4)
    (h : RetHdr) (ack : BitVec 8) (nak : BitVec 8) (o : ShotOut), ReturnGood s k h ∧ s.domUp (laneDom (8 * k.val)) =
    true ∧ ack &&& nak = 0 ∧ o.shot < 2 ^ 40 - 1 ∧ s.bdl.out.find? (fun x => !(x.mine k).isEmpty) = some o) ∧ (∃ (s :
    State) (t : Nat) (k : Fin 4) (h : RetHdr) (ack : BitVec 8) (nak : BitVec 8), ReturnGood s k h ∧ ack &&& nak = 0 ∧
    (∀ o, o ∈ s.bdl.out → o.mine k = [])) ∧ (∃ (s : State) (t : Nat) (l : Fin 32) (o : ShotOut), s.bdl.out.find? (fun
    x => x.open_.contains l.val) = some o ∧ s.domUp (laneDom l) = true ∧ o.tn + ns (s.app F.BDL_ACK_TMO) ≤ max
    s.clk.now t) := by
  refine ⟨⟨w [(F.BDL_RX_STAT_STATE 1, 1)], 0, 1, 9, ?_⟩,
    ⟨{ w [(F.BDL_RX_STAT_STATE 1, 1)] with bdl := { up.bdl with bsr := up.bdl.bsr.put 1 { Bsr.start with adapting := true } } },
    0, 1, 200, ?_⟩, ⟨w [(F.BDL_RX_STAT_STATE 1, 2)], 0, 1, ?_⟩,
    ⟨w [(F.BDL_RX_STAT_STATE 1, 2), (F.BDL_RX_CTL_FOM_MIN 1, 60)], 0, 1, 3, ?_⟩, ⟨w [(F.BDL_RX_STAT_STATE 1, 2)], 0,
    1, ?_⟩, ⟨{ w [(F.BDL_RX_STAT_STATE 0, 2)] with bdl := { up.bdl with out := [shotO] } }, 0, 0, ret, 1, 0, shotO,
    returnGood (by decide +kernel) (by decide +kernel), ?_⟩, ⟨w [(F.BDL_RX_STAT_STATE 0, 2)], 0, 0, ret, 1, 0,
    returnGood (by decide +kernel) (by decide +kernel), ?_⟩, ⟨{ up with bdl := { up.bdl with out := [shotO] } }, 0, 0,
    shotO, ?_⟩⟩
  all_goals decide +kernel

/-- Values that meet the hypotheses of BeamInhibitAndEnable. -/
theorem witness_BeamInhibitAndEnable :
    (∃ (s : State) (t : Nat), s.domUp .bdlb = true ∧ s.get F.HED_BEAM_STAT_INHIBIT = 0) ∧ (∃ (s : State) (t : Nat),
    s.domUp .bdlb = true) ∧ (∃ (s : State) (m : Fin 9) (t : Nat), s.domUp .bdlb = true ∧ s.flag
    F.HED_BEAM_STAT_INHIBIT = true ∧ s.pins.inhHighSince = some t ∧ t + ms 1 ≤ s.clk.now) ∧ (∃ (s : State) (m : Fin
    9), s.domUp .bdlb = true ∧ s.flag F.HED_BEAM_STAT_INHIBIT = true ∧ (∀ t, s.pins.inhHighSince = some t → s.clk.now
    < t + ms 1)) ∧ (∃ (s : State) (m : Fin 9), s.domUp .bdlb = true) ∧ (∃ (s : State) (m : Fin 9), s.domUp .plat =
    true ∧ s.domUp .bdla = true ∧ s.domUp .bdlb = true ∧ s.get F.HED_AUTH_STAT_STATE = 2 ∧ s.get
    F.HED_BEAM_STAT_INHIBIT = 0 ∧ s.get F.WCH_FAULTN_DRIVEN = 0 ∧ s.pins.extest = false) := by
  refine ⟨⟨up, 0, ?_⟩, ⟨up, 0, ?_⟩, ⟨w [(F.HED_BEAM_STAT_INHIBIT, 1)], 0, 0, ?_⟩,
    ⟨{ w [(F.HED_BEAM_STAT_INHIBIT, 1)] with pins := { up.pins with inhHighSince := none } }, 0, ?_⟩, ⟨up, 0, ?_⟩,
    ⟨w [(F.HED_AUTH_STAT_STATE, 2)], 0, ?_⟩⟩
  all_goals decide +kernel

/-- Values that meet the hypotheses of HeadMessages. -/
theorem witness_HeadMessages :
    (∃ (s : State) (m : Fin 9) (k : Nat), s.domUp .bdlb = true ∧ s.armedOrRunning = false ∧ s.get F.HED_AUTH_STAT_STATE ≠
    1 ∧ s.headKey = some k ∧ s.get (F.BDL_STAT_STATE 0) = 2) ∧ (∃ (s : State) (t : Nat) (k : Nat), s.domUp .bdlb =
    true ∧ s.hed.want = true ∧ s.armedOrRunning = false ∧ s.get F.HED_AUTH_STAT_STATE ≠ 1 ∧ s.headKey = some k ∧ s.get
    (F.BDL_STAT_STATE 0) = 2) ∧ (∃ (s : State) (t : Nat) (h : RetHdr) (id : Nat) (usage : List Nat) (k : Nat) (d :
    Nat), ReturnGood s 0 h ∧ s.get F.HED_AUTH_STAT_STATE = 1 ∧ s.hed.deadline = some d ∧ max s.clk.now t ≤ d ∧
    s.headKey = some k) ∧ (∃ (s : State) (t : Nat) (d : Nat), s.get F.HED_AUTH_STAT_STATE = 1 ∧ s.hed.deadline = some
    d ∧ d ≤ max s.clk.now t) ∧ (∃ (s : State) (t : Nat) (k : Fin 4) (h : RetHdr) (id : Nat) (temps : List Int) (curs :
    List Nat), ReturnGood s k h) ∧ (∃ (s : State) (t : Nat), s.domUp .bdlb = true ∧ s.get F.HED_BEAM_STAT_TELEM_STALE
    = 0 ∧ s.hed.lastTelem + us 50 ≤ max s.clk.now t) := by
  refine ⟨⟨{ w [(F.BDL_STAT_STATE 0, 2)] with sec := { up.sec with slots := [(0, .head 7)] } }, 0, 7, ?_⟩,
    ⟨{ w [(F.BDL_STAT_STATE 0, 2)] with sec := { up.sec with slots := [(0, .head 7)] }, hed := { up.hed with want := true } },
    0, 7, ?_⟩,
    ⟨{ w [(F.BDL_RX_STAT_STATE 0, 2), (F.HED_AUTH_STAT_STATE, 1)] with sec := { up.sec with slots := [(0, .head 7)] }, hed := { up.hed with deadline := some 2000000000000000 } },
    0, ret, 4, [], 7, 2000000000000000, returnGood (by decide +kernel) (by decide +kernel), ?_⟩,
    ⟨{ w [(F.HED_AUTH_STAT_STATE, 1)] with hed := { up.hed with deadline := some 5 } }, 0, 5, ?_⟩,
    ⟨w [(F.BDL_RX_STAT_STATE 0, 2)], 0, 0, ret, 4, [], [], returnGood (by decide +kernel) (by decide +kernel)⟩, ⟨up,
    0, ?_⟩⟩
  all_goals decide +kernel

/-- Values that meet the hypotheses of LedgerCountsAndJournals. -/
theorem witness_LedgerCountsAndJournals :
    (∃ (s : State) (t : Nat), s.aonFed = false) ∧ (∃ (s : State) (t : Nat), s.aonFed = true ∧ (s.at t).beatDue .second (ms
    1000) = true) ∧ (∃ (s : State) (m : Fin 9), s.domUp (domOf F.LGR_CMD_CAL_SET.off) = true) ∧ (∃ (s : State) (t :
    Nat) (temp : Int), s.pwr.backup = false ∧ s.lgr.thermArmed = true ∧ (s.at t).beatDue .dieTemp (ms 1000) = true ∧
    s.getS F.LGR_CTL_TC_LOW < s.getS F.LGR_CTL_TC_HIGH ∧ s.getS F.LGR_CTL_TC_HIGH ≤ temp) ∧ (∃ (s : State) (t : Nat)
    (temp : Int), s.pwr.backup = false ∧ temp ≤ s.getS F.LGR_CTL_TC_LOW ∧ (s.at t).beatDue .dieTemp (ms 1000) = true)
    ∧ (∃ (s : State) (t : Nat) (mV : Nat) (mA : Nat), s.pwr.backup = false ∧ (s.at t).beatDue .energy (ms 1) = true) ∧
    (∃ (s : State) (t : Nat) (k : Nat) (r : List Nat), s.pwr.backup = false ∧ s.lgr.lastPeriodic + 600 ≤
    s.lgr.copy.powerOn ∧ goodSlots s.lgr.badSlots (s.lgr.lastSlot.getD 1023) = k :: r) ∧ (∃ (s : State) (m : Fin 9) (k
    : Nat) (r : List Nat), s.domUp (domOf F.LGR_CMD_WRITE.off) = true ∧ (∀ p, s.lgr.lastEntry = some p → p + ms 60000
    ≤ s.clk.now) ∧ goodSlots s.lgr.badSlots (s.lgr.lastSlot.getD 1023) = k :: r) ∧ (∃ (s : State) (m : Fin 9) (p :
    Nat), s.domUp (domOf F.LGR_CMD_WRITE.off) = true ∧ s.lgr.lastEntry = some p ∧ s.clk.now < p + ms 60000) ∧ (∃ (s :
    State) (t : Nat) (p : Nat) (k : Nat) (r : List Nat), s.flag F.LGR_STAT_PENDING = true ∧ s.lgr.lastEntry = some p ∧
    p + ms 60000 ≤ max s.clk.now t ∧ goodSlots s.lgr.badSlots (s.lgr.lastSlot.getD 1023) = k :: r) := by
  refine ⟨⟨{ up with pins := { up.pins with vinFeeds := false, vbakGone := true } }, 0, ?_⟩, ⟨up, 0, ?_⟩, ⟨up, 0, ?_⟩,
    ⟨{ w [(F.LGR_CTL_TC_LOW, 20), (F.LGR_CTL_TC_HIGH, 70)] with lgr := { up.lgr with thermArmed := true } }, 0, 90,
    ?_⟩, ⟨w [(F.LGR_CTL_TC_LOW, 20), (F.LGR_CTL_TC_HIGH, 70)], 0, 5, ?_⟩, ⟨up, 0, 12000, 40, ?_⟩,
    ⟨{ up with lgr := { up.lgr with copy := { up.lgr.copy with powerOn := 700 } } }, 0, 0, (goodSlots [] 1023).tail,
    ?_⟩, ⟨up, 0, 0, (goodSlots [] 1023).tail, ?_⟩,
    ⟨{ up with lgr := { up.lgr with lastEntry := some 1000000000000000 } }, 0, 1000000000000000, ?_⟩,
    ⟨{ w [(F.LGR_STAT_PENDING, 1)] with lgr := { up.lgr with lastEntry := some 5 } }, 0, 5, 0,
    (goodSlots [] 1023).tail, ?_⟩⟩
  all_goals decide +kernel

/-- Values that meet the hypotheses of LifecycleAndKeys. -/
theorem witness_LifecycleAndKeys :
    (∃ (s : State) (m : Fin 9), s.domUp (domOf F.SEC_CMD_OP.off) = true) ∧ (∃ (s : State) (m : Fin 9) (t0 : Nat), s.domUp
    (domOf F.SEC_CMD_OP.off) = true ∧ s.asy.queue = [] ∧ (s.get F.SEC_LIFE = 1 ∨ s.get F.SEC_LIFE = 2) ∧
    s.sec.advanceAt = some t0 ∧ s.clk.now ≤ t0 + ms 1) ∧ (∃ (s : State) (m : Fin 9), s.domUp (domOf F.SEC_CMD_OP.off)
    = true ∧ ((s.get F.SEC_LIFE ≠ 1 ∧ s.get F.SEC_LIFE ≠ 2) ∨ s.asy.queue ≠ [])) ∧ (∃ (s : State) (m : Fin 9) (w :
    Nat), s.domUp (domOf F.SEC_CMD_OP.off) = true ∧ s.keyed = true ∧ 16 ≤ w ∧ w ≤ 19) ∧ (∃ (s : State) (m : Fin 9),
    s.domUp (domOf F.SEC_CMD_OP.off) = true ∧ s.keyed = true ∧ s.get F.SEC_DBG_STAT_OPEN = 0 ∧ s.get
    F.PWR_STATE_STAT_STATE ≠ 2) ∧ (∃ (s : State) (m : Fin 9), s.domUp (domOf F.SEC_CMD_OP.off) = true ∧ (s.keyed =
    false ∨ s.get F.SEC_DBG_STAT_OPEN = 1 ∨ s.get F.PWR_STATE_STAT_STATE = 2)) ∧ (∃ (s : State) (m : Fin 9) (k : Nat),
    s.domUp (domOf F.SEC_CMD_OP.off) = true ∧ k < 24) ∧ (∃ (s : State) (m : Fin 9), s.domUp (domOf F.SEC_CMD_OP.off) =
    true) ∧ (∃ (s : State) (m : Fin 9), s.domUp (domOf F.SEC_CMD_OP.off) = true ∧ s.keyed = true) := by
  refine ⟨⟨up, 0, ?_⟩, ⟨{ w [(F.SEC_LIFE, 1)] with sec := { up.sec with advanceAt := some 1000000000000000 } }, 0,
    1000000000000000, ?_⟩, ⟨up, 0, ?_⟩, ⟨w [(F.SEC_LIFE, 1)], 0, 17, ?_⟩, ⟨w [(F.SEC_LIFE, 1)], 0, ?_⟩, ⟨up, 0, ?_⟩,
    ⟨{ up with sec := { up.sec with slots := [(3, .layout 5)] } }, 0, 3, ?_⟩, ⟨up, 0, ?_⟩, ⟨w [(F.SEC_LIFE, 1)], 0,
    ?_⟩⟩
  all_goals decide +kernel

/-- Values that meet the hypotheses of DebugAndAlarms. -/
theorem witness_DebugAndAlarms :
    (∃ (s : State) (m : Fin 9), s.domUp (domOf F.SEC_DBG_CTL_UNLOCK.off) = true ∧ s.unlockResult = 0) ∧ (∃ (s : State) (m
    : Fin 9), s.domUp (domOf F.SEC_DBG_CTL_UNLOCK.off) = true ∧ s.unlockResult ≠ 0) ∧ (∃ (s : State) (m : Fin 9),
    s.domUp (domOf F.SEC_DBG_CTL_LOCK.off) = true) ∧ (∃ (s : State) (t : Nat), s.domUp .ctrl = true ∧ s.scope 1 =
    true) ∧ (∃ (s : State) (t : Nat), s.domUp .ctrl = true) ∧ (∃ (s : State) (t : Nat) (c : AlarmClass), (s.at
    t).alarmMet c = false) ∧ (∃ (s : State) (t : Nat) (c : AlarmClass), s.pwr.backup = false ∧ (s.at t).alarmMet c =
    true) ∧ (∃ (s : State) (t : Nat) (b : Bool), s.pwr.backup = false ∧ s.forme.isSome = true ∧ bitOf (s.pol 12 1)
    (b2n b) = true) := by
  refine ⟨⟨up, 0, ?_⟩, ⟨w [(F.SEC_LIFE, 2)], 0, ?_⟩, ⟨up, 0, ?_⟩, ⟨up, 0, ?_⟩, ⟨up, 0, ?_⟩, ⟨up, 0, .temp, ?_⟩, ⟨up, 0, .mesh,
    ?_⟩, ⟨{ up with forme := some ([(0x4C, 0), (32 + 64 + 4, 0), (12, 3)], 64) }, 0, false, ?_⟩⟩
  all_goals decide +kernel

/-- Values that meet the hypotheses of SramVerdictCorrectsOneDetectsTwo. -/
theorem witness_SramVerdictCorrectsOneDetectsTwo :
    (∃ (w : Fin 8) (v : Fin 8) (b : Fin 64) (c : Fin 64), (w, b) ≠ (v, c)) := by
  refine ⟨0, 0, 0, 1, ?_⟩
  all_goals decide +kernel

/-- Values that meet the hypotheses of MemoryErrors. -/
theorem witness_MemoryErrors :
    (∃ (s : State) (t : Nat) (blk : Nat) (w : Fin 8) (b : Fin 64) (a : Fin 4), s.domUp (sramDom a) = true ∧ s.get
    (F.SRM_CTL_SCRUB_EN a) = 1 ∧ blk < sramBlocks a ∧ nextArmed (s.arr a).armed (s.arr a).nextBlk = some blk ∧
    s.upsetsOf a blk = []) ∧ (∃ (s : State) (t : Nat) (blk : Nat) (w : Fin 8) (v : Fin 8) (b : Fin 64) (c : Fin 64) (a
    : Fin 4), s.domUp (sramDom a) = true ∧ s.get (F.SRM_CTL_SCRUB_EN a) = 1 ∧ blk < sramBlocks a ∧ nextArmed (s.arr
    a).armed (s.arr a).nextBlk = some blk ∧ s.upsetsOf a blk = [] ∧ (w, b) ≠ (v, c)) ∧ (∃ (s : State) (t : Nat) (t0 :
    Nat) (a : Fin 4), s.domUp (sramDom a) = true ∧ s.get (F.SRM_CTL_SCRUB_EN a) = 1 ∧ (s.arr a).lapStart = some t0 ∧
    (s.arr a).slowRaised = false ∧ t0 + us (s.get (F.SRM_LAP_LIMIT a)) < max s.clk.now t) ∧ (∃ (s : State) (t : Nat)
    (r : MemRead), s.memUp = true) ∧ (∃ (s : State) (t : Nat) (r : MemRead), s.memUp = true ∧ s.domUp .ctrl = true ∧
    (s.wsrc 0x31).queue.length < 16) ∧ (∃ (s : State) (t : Nat) (c : Fin 16) (reads : List MemRead), s.memUp = true) := by
  refine ⟨⟨{ w [(F.SRM_CTL_SCRUB_EN 1, 1)] with sram := up.sram.put 1 { Sram.fresh with armed := [(4, 1)] } }, 0, 4, 3, 7, 1,
    ?_⟩, ⟨{ w [(F.SRM_CTL_SCRUB_EN 1, 1)] with sram := up.sram.put 1 { Sram.fresh with armed := [(4, 1)] } }, 0, 4, 3,
    3, 7, 8, 1, ?_⟩,
    ⟨{ w [(F.SRM_CTL_SCRUB_EN 1, 1), (F.SRM_LAP_LIMIT 1, 10)] with sram := up.sram.put 1 { Sram.fresh with lapStart := some 5 } },
    0, 5, 1, ?_⟩, ⟨up, 0, ⟨3, 4096, none⟩, ?_⟩, ⟨up, 0, ⟨3, 4096, none⟩, ?_⟩, ⟨up, 0, 0, [⟨3, 4096, none⟩], ?_⟩⟩
  all_goals decide +kernel

/-- Values that meet the hypotheses of MemoryRunAndRefresh. -/
theorem witness_MemoryRunAndRefresh :
    (∃ (s : State) (m : Fin 9), s.domUp .hbm = true ∧ s.get F.MEM_STAT_IN_SR = 0 ∧ s.get F.MEM_STAT_RUN_ACK = 0 ∧
    s.asy.mendWait = false) ∧ (∃ (s : State) (m : Fin 9), s.domUp .hbm = true ∧ s.get F.MEM_STAT_IN_SR = 0) ∧ (∃ (s :
    State) (t : Nat) (b : Nat), s.memUp = true ∧ (s.at t).refDue b = true) ∧ (∃ (s : State) (t : Nat) (b : Nat) (use :
    BankUse), s.memUp = true ∧ s.mem.refEnd.get b 0 ≤ max s.clk.now t ∧ ((use = .idle ∧ s.mem.debt.get b 0 ≠ 0) ∨ (use
    = .gap ∧ 8 ≤ s.mem.debt.get b 0))) ∧ (∃ (s : State) (t : Nat) (temp : Int), s.memUp = true ∧ (∀ p, s.mem.tempAt =
    some p → p + us 32 ≤ max s.clk.now t)) := by
  refine ⟨⟨w [(F.MEM_STAT_RUN_ACK, 0)], 0, ?_⟩, ⟨up, 0, ?_⟩, ⟨up, 0, 3, ?_⟩,
    ⟨{ up with mem := { up.mem with debt := up.mem.debt.put 3 2 } }, 0, 3, .idle, ?_⟩, ⟨up, 0, 60, ?_⟩⟩
  all_goals decide +kernel

/-- Values that meet the hypotheses of ScanMapsAreInverse. -/
theorem witness_ScanMapsAreInverse :
    (∃ (g : Scan) (dir : Nat) (n : Nat), 0 < g.m ∧ 0 < g.np ∧ g.np ∣ 512) := by
  refine ⟨⟨8, 1, 1, false⟩, 0, 1, ?_⟩
  all_goals decide +kernel

/-- Values that meet the hypotheses of GovernorSegmentsAndModes. -/
theorem witness_GovernorSegmentsAndModes :
    (∃ (s : State) (m : Fin 9), s.domUp .motion = true) ∧ (∃ (s : State) (m : Fin 9), s.domUp .motion = true) ∧ (∃ (s :
    State) (m : Fin 9), s.domUp .motion = true) ∧ (∃ (s : State) (m : Fin 9) (req : Nat) (after : Nat), s.domUp
    .motion = true ∧ req < 4 ∧ after < 4 ∧ req ≠ 2 ∧ s.armedOrRunning = false ∧ s.asy.arm = none) ∧ (∃ (s : State) (m
    : Fin 9) (req : Nat) (after : Nat), s.domUp .motion = true ∧ req < 4 ∧ after < 4 ∧ req ≠ 2 ∧ (s.armedOrRunning =
    true ∨ s.asy.arm.isSome = true)) := by
  refine ⟨⟨up, 0, ?_⟩, ⟨up, 0, ?_⟩, ⟨up, 0, ?_⟩, ⟨up, 0, 1, 0, ?_⟩, ⟨withQ up [str .running], 0, 1, 0, ?_⟩⟩
  all_goals decide +kernel

/-- Values that meet the hypotheses of GovernorMoves. -/
theorem witness_GovernorMoves :
    (∃ (s : State) (t : Nat) (r : RunSeg), s.domUp .motion = true ∧ s.gov.stop = none ∧ s.gov.run = some r ∧ (s.at
    t).beatDue .setpoint (ns r.period) = true ∧ r.tick + 1 < max r.cx.total r.cy.total) ∧ (∃ (s : State) (t : Nat),
    s.domUp .motion = true ∧ s.gov.stop = none ∧ s.gov.run = none ∧ s.gov.queue = [] ∧ (s.at t).beatDue .setpoint (ns
    (s.get F.GOV_SP_CTL_PERIOD)) = true) ∧ (∃ (s : State) (t : Nat) (r : StopRun), s.domUp .motion = true ∧ s.gov.stop
    = some r ∧ s.gov.run = none ∧ (s.at t).beatDue .setpoint (ns r.period) = true) ∧ (∃ (c : StopCurve) (p : Nat) (i :
    Nat) (ceil : Int), 0 ≤ ceil) ∧ (∃ (p0 : Int) (x : Int) (v : Nat) (a : Nat) (j : Nat) (p : Nat) (i : Nat), 0 < v ∧
    p0 ≠ x ∧ 0 < (moveCurve p0 x v a j p).n1 ∧ (moveCurve p0 x v a j p).total ≤ i) ∧ (∃ (s : State) (t : Nat) (nV :
    Int) (rbx : Int) (rby : Int), s.domUp .motion = true ∧ s.get F.GOV_STAT_FREEZE = 0 ∧ hvCode nV ≠ 0 ∧ (s.at
    t).beatDue .govTick (ns 50) = true) ∧ (∃ (s : State) (t : Nat) (nV : Int) (rbx : Int) (rby : Int), s.domUp .motion
    = true ∧ s.flag F.GOV_STAT_FREEZE = true) ∧ (∃ (s : State) (t : Nat), s.domUp .motion = true ∧ 20 ≤ s.gov.hvRun ∧
    s.get F.GOV_STAT_HV_BAD = 0) := by
  refine ⟨⟨{ up with gov := { up.gov with run := some ⟨⟨true, 1000, 0, 5⟩, moveCurve 0 1000 65536 1000 1000 1, ⟨0, 0, 0, 0, 0⟩, 0, 1000, 1000, 1⟩ } },
    0, ⟨⟨true, 1000, 0, 5⟩, moveCurve 0 1000 65536 1000 1000 1, ⟨0, 0, 0, 0, 0⟩, 0, 1000, 1000, 1⟩, ?_⟩, ⟨up, 0, ?_⟩,
    ⟨{ up with gov := { up.gov with stop := some ⟨⟨⟨0, 100, 5⟩, 1, 2, 3⟩, ⟨⟨0, 0, 0⟩, 0, 0, 0⟩, 0, 1⟩ } }, 0,
    ⟨⟨⟨0, 100, 5⟩, 1, 2, 3⟩, ⟨⟨0, 0, 0⟩, 0, 0, 0⟩, 0, 1⟩, ?_⟩, ⟨⟨⟨0, 100, 5⟩, 1, 2, 3⟩, 1, 2, 50, ?_⟩, ⟨0, 1000,
    65536, 1000, 1000, 1, (moveCurve 0 1000 65536 1000 1000 1).total, ?_⟩, ⟨up, 0, 3814697, 3, -3, ?_⟩,
    ⟨w [(F.GOV_STAT_FREEZE, 1)], 0, 3814697, 0, 0, ?_⟩, ⟨{ up with gov := { up.gov with hvRun := 20 } }, 0, ?_⟩⟩
  all_goals decide +kernel

/-- Values that meet the hypotheses of PositionPorts. -/
theorem witness_PositionPorts :
    (∃ (s : State) (t : Nat) (n : Fin 3) (w : PosWord), s.portOn n false = true ∧ w.line = true ∧ w.crc = true ∧ w.valid =
    true ∧ (∀ q, (s.port n).lastSeq = some q → (w.seq.val + 256 - q) % 256 = 1)) ∧ (∃ (s : State) (t : Nat) (n : Fin
    3) (w : PosWord), s.portOn n false = true ∧ (w.line && w.crc && w.valid) = false) ∧ (∃ (s : State) (t : Nat) (n :
    Fin 3), s.portOn n false = true ∧ 2 * (s.port n).slotEnd + 3 * ns (5 * s.period n) ≤ 2 * max s.clk.now t) ∧ (∃ (s
    : State) (t : Nat) (n : Fin 3) (a : Bool) (b : Bool), s.portOn n true = true ∧ (s.port n).qClk ≠ max s.clk.now t /
    3300) ∧ (∃ (s : State) (t : Nat) (n : Fin 3) (b : Bool), s.portOn n true = true ∧ (s.port n).qClk = max s.clk.now
    t / 3300 ∧ (s.port n).movA = true ∧ b ≠ (s.port n).phB) ∧ (∃ (s : State) (t : Nat) (n : Fin 3), s.portOn n true =
    true ∧ (s.port n).illegal = false ∧ (s.port n).slotEnd + ns (5 * s.period n) ≤ max s.clk.now t) ∧ (∃ (s : State)
    (t : Nat) (n : Fin 3), s.portOn n true = true ∧ s.get (F.ESC_POS_CTL_IDX_HOME n) = 1) := by
  refine ⟨⟨w [(F.ESC_POS_CTL_ROLE 0, 1)], 0, 0, ⟨4, 1000, true, false, false, 0, true, true⟩, ?_⟩,
    ⟨w [(F.ESC_POS_CTL_ROLE 0, 1)], 0, 0, ⟨4, 1000, true, false, false, 0, true, false⟩, ?_⟩,
    ⟨w [(F.ESC_POS_CTL_ROLE 0, 1)], 0, 0, ?_⟩, ⟨w [(F.ESC_POS_CTL_ROLE 0, 3), (F.ESC_POS_CTL_QUAD 0, 1)], 0, 0, true,
    false, ?_⟩,
    ⟨(w [(F.ESC_POS_CTL_ROLE 0, 3), (F.ESC_POS_CTL_QUAD 0, 1)]).setPort 0 { Port.seek with qClk := 1000000000000000 / 3300, movA := true },
    0, 0, true, ?_⟩, ⟨w [(F.ESC_POS_CTL_ROLE 0, 3), (F.ESC_POS_CTL_QUAD 0, 1)], 0, 0, ?_⟩,
    ⟨w [(F.ESC_POS_CTL_ROLE 0, 3), (F.ESC_POS_CTL_QUAD 0, 1), (F.ESC_POS_CTL_IDX_HOME 0, 1)], 0, 0, ?_⟩⟩
  all_goals decide +kernel

/-- Values that meet the hypotheses of ShotsPlacedAndDue. -/
theorem witness_ShotsPlacedAndDue :
    (∃ (s : State) (t : Nat) (x : Stripe) (a : Attempt) (p : Int) (tc : Int), s.cur = some x ∧ s.esc.att = some a ∧
    s.domUp .motion = true ∧ a.launched = true ∧ a.next ≤ a.last ∧ a.bar = none ∧ s.armedOrRunning = true ∧ a.fixClk ≠
    some (max s.clk.now t / 3300) ∧ a.tPrev = some p ∧ (s.at t).target x a = some tc ∧ tc - ((max s.clk.now t / 66 :
    Nat) : Int) ≤ (s.frameLead + 50 * clampN (s.app F.ESC_FIX) 8 80 : Nat)) ∧ (∃ (s : State) (t : Nat) (accs : List
    SramAcc) (x : Stripe) (a : Attempt) (f : FixShot) (r : List FixShot), s.cur = some x ∧ s.esc.att = some a ∧
    a.fixed = f :: r ∧ s.domUp .plat = true ∧ s.domUp .motion = true ∧ s.armedOrRunning = true ∧ s.dueAt f ≤ (max
    s.clk.now t : Nat) ∧ f.shot < 2 ^ 40 ∧ (∀ l, l < 32 → s.mapBase l < 512)) := by
  refine ⟨⟨inAtt up (str .running) { att with tPrev := some 60000000000000, t0 := some 15151515150000 }, 0, str .running,
    { att with tPrev := some 60000000000000, t0 := some 15151515150000 }, 60000000000000, 15151515150000, ?_⟩,
    ⟨inAtt up (str .running) { att with fixed := [⟨3, 15151515150000, false⟩] }, 0, [], str .running,
    { att with fixed := [⟨3, 15151515150000, false⟩] }, ⟨3, 15151515150000, false⟩, [], ?_⟩⟩
  all_goals decide +kernel

/-- Values that meet the hypotheses of ShotDecodeAndTally. -/
theorem witness_ShotDecodeAndTally :
    (∃ (s : State) (t : Nat) (accs : List SramAcc) (x : Stripe) (p : PubCycle), s.domUp .plat = true ∧ s.memUp = true ∧
    s.cur = some x ∧ s.plt.serving = some x.id ∧ s.pubOf x.id (s.plt.nextDec / s.cyc) = some p ∧ s.plt.nextDec ≤
    x.lastShot s.cyc ∧ s.ahead < s.depth) ∧ (∃ (s : State) (t : Nat) (x : Stripe) (b : ShotBuf), s.domUp .plat = true
    ∧ s.cur = some x ∧ s.plt.serving = some x.id ∧ s.plt.bufs.find? (fun b => b.shot == s.plt.nextTally) = some b ∧
    s.tallyMay x s.plt.nextTally = true ∧ s.plt.nextTally < x.firstShot s.cyc + 1024 ∧ s.plt.owed = []) ∧ (∃ (s :
    State) (t : Nat), s.domUp .plat = true) := by
  refine ⟨⟨{ inAtt up (str .running) att with plt := { up.plt with serving := some 0x1000001 }, mem := { up.mem with published := [⟨0, 0x1000001, 0⟩] } },
    0, [], str .running, ⟨0, 0x1000001, 0⟩, ?_⟩,
    ⟨{ inAtt up (str .running) att with plt := { up.plt with serving := some 0x1000001, bufs := [⟨0, 0, [], [], none, [], none⟩] } },
    0, str .running, ⟨0, 0, [], [], none, [], none⟩, ?_⟩, ⟨up, 0, ?_⟩⟩
  all_goals decide +kernel

/-- Values that meet the hypotheses of TallyKeepsLimits. -/
theorem witness_TallyKeepsLimits :
    (∃ (s : State) (b : ShotBuf), (b.vals.map Prod.fst).Nodup) := by
  refine ⟨up, ⟨0, 0, [(3, 4)], [], none, [], none⟩, ?_⟩
  all_goals decide +kernel

/-- Values that meet the hypotheses of AttemptsEndAndDarn. -/
theorem witness_AttemptsEndAndDarn :
    (∃ (s : State) (t : Nat) (x : Stripe) (a : Attempt), s.cur = some x ∧ s.esc.att = some a ∧ x.st = .ended ∧ (s.at
    t).attemptOver a = true ∧ s.domUp .motion = true) ∧ (∃ (s : State) (t : Nat) (accs : List SramAcc) (x : Stripe) (a
    : Attempt) (r : StopRec), s.cur = some x ∧ s.esc.att = some a ∧ s.asy.stop = some r ∧ s.domUp .plat = true ∧
    (s.memUp = true ∨ r.noCkpt = true) ∧ s.bdl.out = [] ∧ (s.at t).attemptOver a = true) ∧ (∃ (s : State) (t : Nat) (x
    : Stripe) (o : ShotOut) (r : List ShotOut) (w : Nat × Bool), s.domUp .plat = true ∧ s.memUp = true ∧ s.cur = some
    x ∧ s.bdl.out = o :: r ∧ o.open_ = [] ∧ o.whole = some w ∧ x.darnNext < x.darnSize ∧ x.darnBase % 16 = 0 ∧
    x.darnBase + 16 * x.darnNext + 16 ≤ hbmTop ∧ (x.darnBase + 16 * x.darnNext) / 64 ∉ s.mem.poison ∧ (4, (x.darnBase
    + 16 * x.darnNext) / 64) ∉ s.mem.hurt) := by
  refine ⟨⟨inAtt up (str .ended) att, 0, str .ended, att, ?_⟩,
    ⟨{ inAtt up (str .running) att with asy := { (withQ up [str .running]).asy with stop := some ⟨1, 8, false, false⟩ } },
    0, [], str .running, att, ⟨1, 8, false, false⟩, ?_⟩,
    ⟨{ withQ up [str .running] with bdl := { up.bdl with out := [{ shotO with open_ := [], whole := some (6, false) }] } },
    0, str .running, { shotO with open_ := [], whole := some (6, false) }, [], (6, false), ?_⟩⟩
  all_goals decide +kernel

/-- Values that meet the hypotheses of RegisterWrites. -/
theorem witness_RegisterWrites :
    (∃ (s : State) (m : Fin 9) (off : Nat) (i : Nat) (j : Nat) (r : RegRow) (v : BitVec 32), off < 0x1A0000 ∧ off % 4 = 0
    ∧ findRow regRows off = some (r, i, j) ∧ s.domUp (domOf off) = true ∧ s.wLocked m r.base i = false ∧ wOk r.base
    v.toNat = true ∧ wAligned.contains r.base = false ∧ List.lookup r.base (wHooksA ++ wHooksB ++ wHooksC) = none) ∧
    (∃ (s : State) (m : Fin 9) (v : BitVec 32), s.domUp .ctrl = true) ∧ (∃ (s : State) (m : Fin 9) (v : BitVec 32),
    s.domUp .bdla = true) ∧ (∃ (s : State) (m : Fin 9) (off : Nat) (k : Nat) (v : BitVec 32), s.accKind (off / 4 * 4)
    true = some k) ∧ (∃ (s : State) (off : Nat), ((0x1000000 ≤ off ∧ off < 0x1020000) ∨ (0x1800000 ≤ off ∧ off <
    0x1A00000) ∨ (0x2000000 ≤ off ∧ off < 0x3000000))) := by
  refine ⟨⟨up, 0, 0x130070, ((findRow regRows 0x130070).get (by decide +kernel)).2.1,
    ((findRow regRows 0x130070).get (by decide +kernel)).2.2, ((findRow regRows 0x130070).get (by decide +kernel)).1,
    5, (by decide +kernel), (by decide +kernel),
    (Option.some_get (x := findRow regRows 0x130070) (by decide +kernel)).symm, (by decide +kernel),
    (by decide +kernel), (by decide +kernel), (by decide +kernel), Option.isNone_iff_eq_none.mp (by decide +kernel)⟩,
    ⟨up, 0, 5, ?_⟩, ⟨up, 0, 5, ?_⟩, ⟨up, 0, 0x1F0000, 1, 5, ?_⟩, ⟨up, 0x2FFFFFF, ?_⟩⟩
  all_goals decide +kernel

/-- Values that meet the hypotheses of ReadsAndSnapshots. -/
theorem witness_ReadsAndSnapshots :
    (∃ (s : State) (m : Fin 9) (off : Nat) (i : Nat) (j : Nat) (r : RegRow), off < 0x1A0000 ∧ off % 4 = 0 ∧ findRow
    regRows off = some (r, i, j) ∧ s.domLive (domOf off) = true ∧ s.view off = s ∧ off ≠ F.TIM_PTP_RX_ID_TYPE.off ∧
    off ≠ F.TIM_PTP_TX_ID_TYPE.off) ∧ (∃ (s : State) (m : Fin 9), s.domUp .host = true) ∧ (∃ (s : State) (m : Fin 9)
    (off : Nat) (k : Nat), s.accKind (off / 4 * 4) false = some k) ∧ (∃ (s : State) (m : Fin 9) (off : Nat), off % 4 =
    0 ∧ off < 0x1A0000 ∧ (findRow regRows off).isSome = true) ∧ (∃ (s : State) (m : Fin 9) (tx : Bool), s.domUp .ring
    = true) ∧ (∃ (s : State) (m : Fin 9), s.get F.TOP_SNAP_STAT_BUSY = 0) ∧ (∃ (s : State) (m : Fin 9), s.get
    F.TOP_SNAP_STAT_BUSY = 0) ∧ (∃ (s : State) (m : Fin 9), s.get F.TOP_SNAP_STAT_BUSY = 1) ∧ (∃ (s : State) (t :
    Nat), s.get F.TOP_SNAP_STAT_BUSY = 1 ∧ s.domUp .host = true) := by
  refine ⟨⟨up, 0, 0x130070, ((findRow regRows 0x130070).get (by decide +kernel)).2.1,
    ((findRow regRows 0x130070).get (by decide +kernel)).2.2, ((findRow regRows 0x130070).get (by decide +kernel)).1,
    ?_, ?_, (Option.some_get (x := findRow regRows 0x130070) (by decide +kernel)).symm, ?_⟩, ⟨up, 0, ?_⟩, ⟨up, 0,
    0x1F0000, 1, ?_⟩, ⟨up, 0, F.PRT_GAL_REFUSE.off, ?_⟩, ⟨up, 0, false, ?_⟩, ⟨up, 0, ?_⟩, ⟨up, 0, ?_⟩,
    ⟨w [(F.TOP_SNAP_STAT_BUSY, 1)], 0, ?_⟩, ⟨w [(F.TOP_SNAP_STAT_BUSY, 1)], 0, ?_⟩⟩
  all_goals decide +kernel

/-- Values that meet the hypotheses of CheckUnits. -/
theorem witness_CheckUnits :
    (∃ (s : State) (m : Fin 9) (k : Fin 8), s.domUp .host = true) ∧ (∃ (s : State) (m : Fin 9) (k : Fin 8) (l : List Byte)
    (c : Instr), s.domUp .host = true ∧ ((∃ v : BitVec 8, c = .chkD8 m k v ∧ l = leBytes 1 v.toNat) ∨ (∃ v : BitVec
    16, c = .chkD16 m k v ∧ l = leBytes 2 v.toNat) ∨ (∃ v : BitVec 32, c = .chkD32 m k v ∧ l = leBytes 4 v.toNat))) ∧
    (∃ (s : State) (m : Fin 9) (k : Fin 8) (hi : BitVec 32), s.domUp .host = true) ∧ (∃ (s : State) (m : Fin 9) (k :
    Fin 8) (hi : Bool) (v : BitVec 32), s.domUp .host = true ∧ s.get (F.CHK_VAL k) < 2 ^ 64) ∧ (∃ (s : State) (m : Fin
    9) (k : Fin 8) (w : Bool), s.domUp .host = true) := by
  refine ⟨⟨up, 0, 0, ?_⟩, ⟨up, 0, 0, leBytes 1 5, .chkD8 0 0 5, ?_, .inl ⟨5, rfl, rfl⟩⟩, ⟨up, 0, 0, 5, ?_⟩, ⟨up, 0, 0, false,
    5, ?_⟩, ⟨up, 0, 0, true, ?_⟩⟩
  all_goals decide +kernel

/-- Values that meet the hypotheses of CheckUnitComputesCrc. -/
theorem witness_CheckUnitComputesCrc :
    (∃ (s : State) (m : Fin 9) (k : Fin 8) (l : List Byte), s.domUp .host = true) := by
  refine ⟨up, 0, 0, [1, 2, 3], ?_⟩
  all_goals decide +kernel

/-- Values that meet the hypotheses of GalleyWindowAndMessages. -/
theorem witness_GalleyWindowAndMessages :
    (∃ (s : State) (t : Nat) (off : Nat) (len : Nat), s.domUp .host = true ∧ s.memUp = true ∧ s.galDenied (s.galAddr off)
    len = false ∧ s.readsClean 5 (s.galAddr off) len = true) ∧ (∃ (s : State) (t : Nat) (off : Nat) (len : Nat),
    s.domUp .host = true ∧ s.galDenied (s.galAddr off) len = true) ∧ (∃ (s : State) (t : Nat) (off : Nat) (len : Nat),
    s.domUp .host = true ∧ s.memUp = true ∧ s.galDenied (s.galAddr off) len = false ∧ s.readsClean 5 (s.galAddr off)
    len = false) ∧ (∃ (s : State) (a : Nat) (n : Nat), (s.get F.PRT_GAL_WIN_EN = 0 ∨ (a < s.copyTop ∧ s.scope 2 =
    false) ∨ hbmTop < a + n)) ∧ (∃ (s : State) (t : Nat) (off : Nat) (len : Nat), s.domUp .host = true) ∧ (∃ (s :
    State) (m : Fin 9) (hi : Bool) (v : BitVec 32), s.domUp .host = true) ∧ (∃ (s : State) (m : Fin 9) (k : Nat),
    s.domUp .host = true ∧ k < 64 ∧ s.msix.enable = true ∧ s.msix.fmask = false ∧ bitOf s.msix.pba k = true) ∧ (∃ (s :
    State) (m : Fin 9) (k : Nat) (v : BitVec 32), s.domUp .host = true ∧ k < 64 ∧ v.toNat % 2 = 1 ∧ s.msix.enable =
    false) := by
  refine ⟨⟨w [(F.PRT_GAL_WIN_EN, 1), (F.PRT_GAL_WIN_BASE, 20)], 0, 0, 8, ?_⟩, ⟨up, 0, 0, 8, ?_⟩,
    ⟨{ w [(F.PRT_GAL_WIN_EN, 1), (F.PRT_GAL_WIN_BASE, 20)] with mem := { up.mem with poison := [20 * 2 ^ 24] } }, 0,
    0, 8, ?_⟩, ⟨up, 0, 0, ?_⟩, ⟨up, 0, 0, 0, ?_⟩, ⟨up, 0, false, 3, ?_⟩,
    ⟨{ up with msix := { up.msix with enable := true, pba := 8 } }, 0, 3, ?_⟩, ⟨up, 0, 3, 1, ?_⟩⟩
  all_goals decide +kernel

/-- Values that meet the hypotheses of LinksAndHostResets. -/
theorem witness_LinksAndHostResets :
    (∃ (s : State) (t : Nat) (f : List Byte), s.domUp .mgmt = true ∧ s.get F.MGT_CTL_EN = 1 ∧ s.get F.MGT_STAT_LINK = 1) ∧
    (∃ (s : State) (r : LinkReport), s.domUp .mgmt = true) ∧ (∃ (s : State) (r : LinkReport), s.domUp .mgmt = true ∧
    s.get F.MGT_CTL_EN = 1 ∧ s.flag F.MGT_CTL_MODE = true ∧ r.mbps ≠ 1000) ∧ (∃ (s : State) (r : LinkReport), s.domUp
    .mgmt = true ∧ s.get F.MGT_CTL_EN = 1 ∧ (s.get F.MGT_CTL_MODE = 0 ∨ r.mbps = 1000)) ∧ (∃ (s : State) (t : Nat) (w
    : Nat) (sp : Nat) (bme : Bool), s.domLive .host = true ∧ linkOk w sp = true ∧ s.prt.first = none) ∧ (∃ (s : State)
    (t : Nat), s.domUp .host = true) ∧ (∃ (s : State) (t : Nat), s.domLive .host = false) ∧ (∃ (s : State) (t : Nat),
    s.domLive .host = true) := by
  refine ⟨⟨w [(F.MGT_CTL_EN, 1), (F.MGT_STAT_LINK, 1)], 0, [1, 2], ?_⟩, ⟨up, ⟨0, false, 1000⟩, ?_⟩,
    ⟨w [(F.MGT_CTL_EN, 1), (F.MGT_CTL_MODE, 1)], ⟨0, true, 100⟩, ?_⟩, ⟨w [(F.MGT_CTL_EN, 1)], ⟨0, true, 1000⟩, ?_⟩,
    ⟨up, 0, 8, 4, true, ?_⟩, ⟨up, 0, ?_⟩, ⟨w [(F.PWR_DOM_STAT_ON, 1)], 0, ?_⟩, ⟨up, 0, ?_⟩⟩
  all_goals decide +kernel

/-- Values that meet the hypotheses of SupplyAndResetPins. -/
theorem witness_SupplyAndResetPins :
    (∃ (s : State) (t : Nat), s.pwr.backup = false) ∧ (∃ (s : State) (t : Nat) (k : Nat) (r : List Nat) (d : VinDepth),
    s.pwr.backup = false ∧ d ≠ .early ∧ goodSlots s.lgr.badSlots (s.lgr.lastSlot.getD 1023) = k :: r) ∧ (∃ (s : State)
    (t : Nat) (k : Nat) (f : Nat) (r : List Nat), s.pwr.backup = false ∧ goodSlots s.lgr.badSlots (s.lgr.lastSlot.getD
    1023) = k :: r) ∧ (∃ (s : State) (t : Nat), s.pins.vinFeeds = false) ∧ (∃ (s : State) (t : Nat), s.aonFed = true ∧
    s.domUp .ctrl = true ∧ (s.wsrc 5).queue.length < 16) ∧ (∃ (s : State) (t : Nat), s.domUp .ctrl = true ∧ (s.wsrc
    3).queue.length < 16) ∧ (∃ (s : State) (t : Nat) (c : Fin 9), s.domUp .ctrl = true ∧ (s.wsrc 2).queue.length < 16) := by
  refine ⟨⟨up, 0, ?_⟩, ⟨up, 0, 0, (goodSlots [] 1023).tail, .held, ?_⟩, ⟨up, 0, 0, 0, (goodSlots [] 1023).tail, ?_⟩,
    ⟨{ up with pins := { up.pins with vinFeeds := false } }, 0, ?_⟩, ⟨up, 0, ?_⟩, ⟨up, 0, ?_⟩, ⟨up, 0, 3, ?_⟩⟩
  all_goals decide +kernel

/-- Values that meet the hypotheses of StartUpTakesSlot. -/
theorem witness_StartUpTakesSlot :
    (∃ (s : State) (t : Nat) (badA : Bool) (badB : Bool), s.domUp .ctrl = false ∧ s.pins.vinOk = true ∧ s.pins.refclk =
    true ∧ s.pins.refclkAt ≤ max s.clk.now t) ∧ (∃ (s : State) (t : Nat) (d : Nat) (badA : Bool) (badB : Bool),
    s.watch.chipReset = some d ∧ s.domUp .ctrl = true ∧ d ≤ max s.clk.now t ∧ s.pins.vinOk = true ∧ s.pins.refclk =
    true ∧ s.pins.refclkAt ≤ max s.clk.now t ∧ s.pins.resetN = true) ∧ (∃ (s : State) (t : Nat) (d : Nat) (badA :
    Bool) (badB : Bool), s.watch.chipReset = some d ∧ s.domUp .ctrl = true ∧ d ≤ max s.clk.now t ∧ (s.pins.vinOk =
    false ∨ s.pins.refclk = false ∨ s.pins.resetN = false ∨ max s.clk.now t < s.pins.refclkAt)) := by
  refine ⟨⟨State.reset, 0, false, false, ?_⟩, ⟨{ up with watch := { up.watch with chipReset := some 5 } }, 0, 5, false, false,
    ?_⟩, ⟨{ up with watch := { up.watch with chipReset := some 5 }, pins := { up.pins with refclk := false } }, 0, 5,
    false, false, ?_⟩⟩
  all_goals decide +kernel

/-- Values that meet the hypotheses of PowerStateRequests. -/
theorem witness_PowerStateRequests :
    (∃ (s : State) (m : Fin 9) (r : StateReq), s.get F.PWR_STATE_STAT_TRANS = 0 ∧ s.stateAllowed (min r.v 2) = false) ∧ (∃
    (s : State) (m : Fin 9) (f : Nat), s.get F.PWR_STATE_STAT_TRANS = 0 ∧ s.get F.PWR_STATE_STAT_STATE = 0 ∧ s.quiet =
    true) ∧ (∃ (s : State) (m : Fin 9) (r : StateReq), s.get F.PWR_STATE_STAT_TRANS = 0 ∧ 2 ≤ r.v ∧ s.quiet = true ∧
    (s.get F.PWR_STATE_STAT_STATE = 0 ∨ s.get F.PWR_STATE_STAT_STATE = 1) ∧ s.get F.SEC_FORME_STAT_PERSIST_BUSY = 0) ∧
    (∃ (s : State) (m : Fin 9) (f : Nat), s.get F.PWR_STATE_STAT_TRANS = 0 ∧ (s.get F.PWR_STATE_STAT_STATE = 1 ∨ s.get
    F.PWR_STATE_STAT_STATE = 2)) ∧ (∃ (s : State) (m : Fin 9) (r : StateReq), s.get F.PWR_STATE_STAT_TRANS = 1) ∧ (∃
    (s : State) (m : Fin 9) (v : Nat), s.get F.PWR_STATE_STAT_STATE ≠ 2) := by
  refine ⟨⟨up, 0, ⟨0, 0⟩, ?_⟩, ⟨up, 0, 0, ?_⟩, ⟨up, 0, ⟨2, 0⟩, ?_⟩, ⟨w [(F.PWR_STATE_STAT_STATE, 1)], 0, 0, ?_⟩,
    ⟨w [(F.PWR_STATE_STAT_TRANS, 1)], 0, ⟨1, 0⟩, ?_⟩, ⟨up, 0, 1, ?_⟩⟩
  all_goals decide +kernel

/-- Values that meet the hypotheses of PowerSequencer. -/
theorem witness_PowerSequencer :
    (∃ (s : State) (t : Nat), s.pwr.admitted = [] ∧ s.pwr.again = [] ∧ s.pwr.reqs ≠ []) ∧ (∃ (s : State) (t : Nat) (i :
    Nat) (x : PStage), i < 12 ∧ s.pwr.windowEnd ≤ max s.clk.now t ∧ x ∈ s.pwr.admitted ∧ x.last = true ∧ x.dom = i ∧ i
    ∉ s.pwr.offAfter) ∧ (∃ (s : State) (t : Nat) (due : Nat) (asked : Nat) (d : Fin 12), s.pwr.leaving.lookup d.val =
    some (due, asked) ∧ due ≤ max s.clk.now t ∧ s.pins.resetN = true ∧ bitOf s.domsOn d.val = true ∧ s.pwr.target =
    none) ∧ (∃ (s : State) (t : Nat) (d : Fin 12), d.val ≠ 0 ∧ bitOf s.domsOn d.val = true) ∧ (∃ (s : State) (t : Nat)
    (b : BlkRst), s.domUp .ctrl = true ∧ s.watch.blockResets = [b] ∧ b.latest ≤ max s.clk.now t) := by
  refine ⟨⟨{ up with pwr := { up.pwr with reqs := [(5, 0)] } }, 0, ?_⟩,
    ⟨{ w [(F.PWR_DOM_STAT_ON, 3)] with pwr := { up.pwr with admitted := [⟨5, 10, true⟩], burst := [(5, 0)] } }, 0, 5,
    ⟨5, 10, true⟩, ?_⟩, ⟨{ w [(F.PWR_DOM_STAT_RST, 32)] with pwr := { up.pwr with leaving := [(5, (7, 3))] } }, 0, 7,
    3, 5, ?_⟩, ⟨up, 0, 5, ?_⟩, ⟨{ up with watch := { up.watch with blockResets := [⟨[.comp], 5⟩] } }, 0, ⟨[.comp], 5⟩,
    ?_⟩⟩
  all_goals decide +kernel

/-- Values that meet the hypotheses of EpochsAndGains. -/
theorem witness_EpochsAndGains :
    (∃ (s : State) (t : Nat) (i : Nat), s.get F.TOP_EPOCH_STAT_PENDING = 1 ∧ s.armedOrRunning = false ∧ s.armWaiting =
    false ∧ s.memUp = true ∧ s.freeImg = some i ∧ s.get F.TOP_EPOCH_STAT_GAIN_STAGED = 0) ∧ (∃ (s : State) (m : Fin
    9), s.domUp .motion = true ∧ s.areaValid = true ∧ s.memUp = true ∧ s.mem.poison = [] ∧ s.mem.hurt = [] ∧
    s.tableAddr + 524288 ≤ hbmTop) ∧ (∃ (s : State) (m : Fin 9), s.domUp .motion = true) ∧ (∃ (s : State) (m : Fin 9)
    (v : BitVec 32), s.domUp .motion = true ∧ s.memUp = true ∧ s.mem.poison = [] ∧ s.mem.hurt = [] ∧ s.tableAddr +
    524288 ≤ hbmTop ∧ s.imgTop ≤ s.get F.GAU_TGT_BASE % 2 ^ 32 + v.toNat % 8 * 2 ^ 32 ∧ s.get F.GAU_TGT_BASE % 2 ^ 32
    + v.toNat % 8 * 2 ^ 32 + 1572864 ≤ hbmTop) := by
  refine ⟨⟨w [(F.TOP_EPOCH_STAT_PENDING, 1)], 0, 0, ?_⟩, ⟨w [(F.GAU_TGT_BASE, 0x5A0000000)], 0, ?_⟩, ⟨up, 0, ?_⟩,
    ⟨w [(F.GAU_TGT_BASE, 0x5A0000000)], 0, 5, ?_⟩⟩
  all_goals decide +kernel

/-- Values that meet the hypotheses of FormeLoads. -/
theorem witness_FormeLoads :
    (∃ (s : State) (m : Fin 9) (p : Bool) (c : Instr), (c = .formeLoad m p ∨ (c = .persist m ∧ p = true))) ∧ (∃ (s :
    State) (t : Nat) (i : Image), s.sec.persist = some i ∧ s.get F.SEC_FORME_STAT_FLASH_SLOT ≤ 1) := by
  refine ⟨⟨up, 0, false, .formeLoad 0 false, ?_⟩, ⟨{ up with sec := { up.sec with persist := some [(0, 1)] } }, 0, [(0, 1)],
    ?_⟩⟩
  all_goals decide +kernel

/-- Values that meet the hypotheses of StripesOpen. -/
theorem witness_StripesOpen :
    (∃ (s : State) (m : Fin 9), s.domUp .ctrl = true ∧ s.openResult = 0) ∧ (∃ (s : State) (m : Fin 9), s.domUp .ctrl =
    true ∧ s.openResult ≠ 0) ∧ (∃ (s : State) (m : Fin 9), s.domUp .ctrl = true ∧ s.forme.isSome = true ∧
    s.asy.queue.length < 4 ∧ bits (s.get F.ASY_OPEN_ID) 16 8 ≠ 0 ∧ bits (s.get F.ASY_OPEN_ID) 56 8 = 0 ∧ s.inQueue
    (s.get F.ASY_OPEN_ID) = false ∧ s.memUp = true) ∧ (∃ (s : State) (m : Fin 9), s.domUp .ctrl = true ∧
    s.forme.isSome = true ∧ s.asy.queue.length < 4 ∧ bits (s.get F.ASY_OPEN_ID) 16 8 ≠ 0 ∧ bits (s.get F.ASY_OPEN_ID)
    56 8 = 0 ∧ s.inQueue (s.get F.ASY_OPEN_ID) = false ∧ s.memUp = false) ∧ (∃ (s : State) (m : Fin 9), s.domUp .ctrl
    = true ∧ (s.forme = none ∨ 4 ≤ s.asy.queue.length ∨ bits (s.get F.ASY_OPEN_ID) 16 8 = 0)) := by
  refine ⟨⟨{ w [(F.ASY_OPEN_ID, 0x1000002), (F.ASY_OPEN_BODY, 4), (F.ASY_OPEN_DARN, 0x500000000)] with forme := some ([], 64), copy := { layers := [lay1], tap := none } },
    0, ?_⟩, ⟨up, 0, ?_⟩, ⟨{ w [(F.ASY_OPEN_ID, 0x1010002)] with forme := some ([], 64) }, 0, ?_⟩,
    ⟨{ w [(F.ASY_OPEN_ID, 0x1010002), (F.MEM_STAT_RUN_ACK, 0)] with forme := some ([], 64) }, 0, ?_⟩, ⟨up, 0, ?_⟩⟩
  all_goals decide +kernel

/-- Values that meet the hypotheses of Arming. -/
theorem witness_Arming :
    (∃ (s : State) (m : Fin 9) (x : Stripe), s.domUp .ctrl = true ∧ s.domUp .motion = true ∧ s.get
    F.TOP_EPOCH_STAT_PENDING = 0 ∧ s.forme.isSome = true ∧ s.armWaiting = false ∧ s.cur = some x ∧ x.st = .opened ∧
    x.resume = none) ∧ (∃ (s : State) (m : Fin 9), s.domUp .ctrl = true ∧ s.get F.TOP_EPOCH_STAT_PENDING = 0 ∧
    (s.forme = none ∨ s.armWaiting = true ∨ s.cur = none)) ∧ (∃ (s : State) (t : Nat) (x : Stripe) (a : Attempt),
    s.armWaiting = true ∧ s.cur = some x ∧ s.esc.att = some a ∧ x.resume = none ∧ (s.at t).passed x ((s.at
    t).launchPos x a.na) = false) ∧ (∃ (s : State) (t : Nat) (x : Stripe), s.armWaiting = true ∧ s.cur = some x ∧
    (x.launch ≠ 1 ∨ s.heldNames = false) ∧ s.asy.armAt + ms (s.get F.ASY_ARM_TMO) ≤ max s.clk.now t) := by
  refine ⟨⟨{ withQ up [str .opened] with forme := some ([], 64) }, 0, str .opened, ?_⟩, ⟨up, 0, ?_⟩,
    ⟨{ inAtt up (str .opened) att with asy := { (withQ up [str .opened]).asy with arm := some 3 }, esc := { up.esc with att := some att } },
    0, str .opened, att, ?_⟩,
    ⟨{ withQ up [str .opened] with asy := { (withQ up [str .opened]).asy with arm := some 3 } }, 0, str .opened, ?_⟩⟩
  all_goals decide +kernel

/-- Values that meet the hypotheses of StripesStopAndEnd. -/
theorem witness_StripesStopAndEnd :
    (∃ (s : State) (m : Fin 9) (x : Stripe) (a : Attempt), s.domUp .ctrl = true ∧ s.cur = some x ∧ x.st = .running ∧
    s.esc.att = some a ∧ s.asy.stop = none ∧ s.nextClock ≤ a.last) ∧ (∃ (s : State) (m : Fin 9) (x : Stripe), s.domUp
    .ctrl = true ∧ s.cur = some x ∧ (x.st = .armed ∨ (x.st ≠ .running ∧ s.armWaiting = true))) ∧ (∃ (s : State) (m :
    Fin 9), s.domUp .ctrl = true ∧ s.armedOrRunning = false ∧ s.armWaiting = false) ∧ (∃ (s : State) (m : Fin 9) (x :
    Stripe), s.domUp .ctrl = true ∧ s.cur = some x ∧ (x.st = .opened ∨ x.st = .stopped)) ∧ (∃ (s : State) (m : Fin 9)
    (x : Stripe), s.domUp .ctrl = true ∧ 2 ≤ s.asy.queue.length ∧ s.asy.queue.getLast? = some x ∧ x.st = .opened) ∧ (∃
    (s : State) (t : Nat) (x : Stripe), s.cur = some x ∧ x.st = .ended ∧ s.bdl.out = [] ∧ s.domUp .plat = true ∧
    s.memUp = true ∧ (∀ a, s.esc.att = some a → (s.at t).attemptOver a = true) ∧ x.comp.ldigDone = true ∧ s.hmOk =
    true ∧ 1 ≤ s.get F.ASY_HM_SLOTS ∧ s.mem.poison = [] ∧ s.mem.hurt = []) := by
  refine ⟨⟨inAtt up (str .running) att, 0, str .running, att, ?_⟩, ⟨inAtt up (str .armed) att, 0, str .armed, ?_⟩, ⟨up, 0, ?_⟩,
    ⟨withQ up [str .opened], 0, str .opened, ?_⟩, ⟨withQ up [str .running, { str .opened with id := 0x1000002 }], 0,
    { str .opened with id := 0x1000002 }, ?_⟩,
    ⟨withQ (w [(F.ASY_HM_SLOTS, 8), (F.ASY_HM_BASE, 0x500000000)]) [{ str .ended with comp := { comp0 with ldigDone := true } }],
    0, { str .ended with comp := { comp0 with ldigDone := true } }, ?_⟩⟩
  all_goals decide +kernel

/-- Values that meet the hypotheses of RingPort. -/
theorem witness_RingPort :
    (∃ (s : State) (m : Fin 9) (v : Bool), s.domUp .ring = true ∧ (s.role ≠ 2 ∨ v = false ∨ (s.flag F.KOR_CTL_JOIN = true
    ∧ s.flag F.KOR_STAT_IN_RING = true))) ∧ (∃ (s : State) (t : Nat) (l : RingLoss), s.inRing = true ∧ s.role = 1 ∧
    s.get (F.KOR_LINK_STAT_STATE l.port) = 2 ∧ s.get (F.KOR_LINK_STAT_UP l.port) = 1 ∧ (∀ f, l.fom = some f → f <
    s.get (F.KOR_LINK_CTL_FOM_MIN l.port) ∧ (s.ringIn l.port).rx.since + ms 1 ≤ max s.clk.now t) ∧ RingIdle s t) ∧ (∃
    (s : State) (t : Nat) (f : Nat) (p : Fin 2), (s.get (F.KOR_LINK_CTL_FOM_MIN p) ≤ f ∨ max s.clk.now t < (s.ringIn
    p).rx.since + ms 1)) ∧ (∃ (s : State) (t : Nat) (p : Fin 2) (foms : List Nat) (fom : Nat), s.domUp .ring = true ∧
    s.role ≠ 0 ∧ foms.length = 16 ∧ s.get (F.KOR_LINK_STAT_STATE p) = 1 ∧ (s.ringIn p).rx.since + ringStartTime ≤ max
    s.clk.now t) ∧ (∃ (s : State) (m : Fin 9) (p : Fin 2), s.domUp .ring = true ∧ s.get (F.KOR_LINK_STAT_STATE p) = 2)
    ∧ (∃ (s : State) (t : Nat) (h : RingHdr) (port : Nat) (mlen : Nat) (data : List Byte), s.inRing = true ∧ h.good =
    true ∧ h.whole = true ∧ (s.ringIn h.ring.val).badRun = 0 ∧ h.src.val ≠ s.get F.KOR_DEV_DEVICE ∧ (DupWin.mark
    (s.kor.dups.lookup h.src.val) h.seq.val).isSome = true ∧ h.bcast = false ∧ h.dst.val ≠ s.get F.KOR_DEV_DEVICE ∧
    h.hops.val ≠ 63 ∧ port < 8 ∧ mlen ≤ data.length ∧ 5 * max s.clk.now t < (s.ringOut h.ring.val).free) := by
  refine ⟨⟨{ w [(F.KOR_ROLE, 1), (F.KOR_DEV_VALID, 1)] with pins := { up.pins with ringPll := true } }, 0, true, ?_⟩,
    ⟨(inR 1).set (F.KOR_LINK_STAT_UP 0) 1 |>.set (F.KOR_LINK_STAT_STATE 0) 2, 0, ⟨0, none⟩, ?_, ?_, ?_, ?_, ?_,
    ringIdle (by decide +kernel)⟩, ⟨up, 0, 200, 0, ?_⟩, ⟨(inR 1).set (F.KOR_LINK_STAT_STATE 0) 1, 0, 0,
    (List.replicate 16 1), 9, ?_⟩, ⟨w [(F.KOR_LINK_STAT_STATE 0, 2)], 0, 0, ?_⟩,
    ⟨(inR 1).setRingOut 0 ⟨10 ^ 17, [], none⟩, 0, { uni with dst := 5 }, 0, 1, [1], ?_⟩⟩
  all_goals decide +kernel

/-- Values that meet the hypotheses of RingDiscovery. -/
theorem witness_RingDiscovery :
    (∃ (s : State) (m : Fin 9) (t : Nat) (c : Instr), s.inRing = true ∧ s.role = 2 ∧ ((c = .discover m ∧ t ≤ s.clk.now) ∨
    (c = .discovery t ∧ s.kor.discDue.isSome = true)) ∧ RingIdle s t) ∧ (∃ (s : State) (t : Nat) (h : RingHdr) (g :
    TopoMsg) (d : Disc), s.inRing = true ∧ h.good = true ∧ h.whole = true ∧ s.ownTopo h g = true ∧ g.tseq = s.kor.tseq
    ∧ s.kor.disc = some d) ∧ (∃ (s : State) (t : Nat) (h : RingHdr) (g : TopoMsg), s.inRing = true ∧ h.good = true ∧
    h.whole = true ∧ s.ownTopo h g = true ∧ g.tseq ≠ s.kor.tseq ∧ (s.ringIn h.ring.val).badRun = 0) ∧ (∃ (s : State)
    (t : Nat) (h : RingHdr) (g : TopoMsg), RingTakes s h ∧ s.role = 1 ∧ h.bcast = true ∧ (s.ringIn h.ring.val).badRun
    = 0 ∧ RingIdle s t) ∧ (∃ (s : State) (t : Nat) (d : Disc) (a : TopoMsg) (b : TopoMsg), s.inRing = true ∧
    s.kor.disc = some d ∧ d.ringA = some a ∧ d.ringB = some b) ∧ (∃ (s : State) (t : Nat) (h : RingHdr) (g : TopoMsg)
    (e : TopoEntry), RingTakes s h ∧ g.entries.find? (fun x => x.device == s.get F.KOR_DEV_DEVICE && x.serial == s.get
    F.TOP_SERIAL) = some e) ∧ (∃ (s : State) (t : Nat) (h : RingHdr) (f : Nat), RingTakes s h ∧ f < 8 ∧ (s.ringIn
    h.ring.val).badRun = 0 ∧ RingIdle s t) := by
  refine ⟨⟨inR 2, 0, 0, .discover 0, ?_, ?_, ?_, ringIdle (by decide +kernel)⟩,
    ⟨{ (inR 2) with kor := { (inR 2).kor with disc := some ⟨0, none, none⟩ } }, 0, { hdr with src := 0 },
    ⟨false, false, false, 0, 0, [⟨0, 2, true, true, false, up.get F.TOP_SERIAL⟩]⟩, ⟨0, none, none⟩, ?_⟩, ⟨inR 2, 0,
    { hdr with src := 0 }, ⟨false, false, false, 7, 7, [⟨0, 2, true, true, false, up.get F.TOP_SERIAL⟩]⟩, ?_⟩, ⟨inR 1,
    0, hdr, ⟨false, false, false, 0, 0, []⟩, ringTakes (by decide +kernel), ?_, ?_, ?_, ringIdle (by decide +kernel)⟩,
    ⟨{ (inR 2) with kor := { (inR 2).kor with disc := some ⟨0, some ⟨false, false, false, 0, 0, []⟩, some ⟨false, false, false, 0, 0, []⟩⟩ } },
    0, ⟨0, some ⟨false, false, false, 0, 0, []⟩, some ⟨false, false, false, 0, 0, []⟩⟩,
    ⟨false, false, false, 0, 0, []⟩, ⟨false, false, false, 0, 0, []⟩, ?_⟩, ⟨inR 1, 0, hdr,
    ⟨false, false, false, 0, 0, [⟨0, 1, true, true, false, 0⟩]⟩, ⟨0, 1, true, true, false, 0⟩,
    ringTakes (by decide +kernel), ?_⟩, ⟨inR 2, 0, hdr, 1, ringTakes (by decide +kernel), ?_, ?_,
    ringIdle (by decide +kernel)⟩⟩
  all_goals decide +kernel

/-- Values that meet the hypotheses of RingTimeFrames. -/
theorem witness_RingTimeFrames :
    (∃ (s : State) (t : Nat), s.inRing = true ∧ s.role = 2 ∧ s.get F.TIM_STAT_VALID = 1 ∧ (∀ w, s.kor.lastOwn = some w → w
    + us (max 1 (s.get F.TIM_CTL_PERIOD)) ≤ max s.clk.now t) ∧ RingIdle s t) ∧ (∃ (s : State) (t : Nat) (ns : Nat) (fr
    : Nat) (dep : Nat) (corr : Int) (h : RingHdr), RingTakes s h ∧ s.role = 1 ∧ s.kor.order.head?.map TopoEntry.device
    = some h.src.val) ∧ (∃ (s : State) (t : Nat) (r : Nat), s.domUp .ring = true ∧ s.role = 1 ∧ s.get F.TIM_STAT_RING
    = r ∧ r ≤ 1 ∧ s.kor.lastSync.get r 0 + us (3 * max 1 (s.get F.TIM_CTL_PERIOD)) ≤ max s.clk.now t) ∧ (∃ (s : State)
    (t : Nat) (p : Fin 2), s.inRing = true ∧ (∀ w, (s.ringIn p).asked = some w → w + ms 1 ≤ max s.clk.now t) ∧
    RingIdle s t) ∧ (∃ (s : State) (t : Nat) (dep : Nat) (h : RingHdr), s.inRing = true ∧ h.good = true ∧ h.whole =
    true ∧ (s.ringIn h.ring.val).badRun = 0 ∧ RingIdle s t) ∧ (∃ (s : State) (t : Nat) (q : Nat) (t1 : Nat) (turn :
    Int) (h : RingHdr), s.inRing = true ∧ h.good = true ∧ h.whole = true ∧ (s.ringIn h.ring.val).req = some (q, t1)) := by
  refine ⟨⟨(inR 2).set F.TIM_STAT_VALID 1, 0, ?_, ?_, ?_, noneYet (by decide +kernel), ringIdle (by decide +kernel)⟩,
    ⟨{ (inR 1) with kor := { (inR 1).kor with order := [⟨1, 2, true, true, false, 9⟩] } }, 0, 100, 0, 0, 0, hdr,
    ringTakes (by decide +kernel), ?_⟩, ⟨inR 1, 0, 0, ?_⟩, ⟨inR 1, 0, 0, ?_, noneYet (by decide +kernel),
    ringIdle (by decide +kernel)⟩, ⟨inR 1, 0, 0, uni, ?_, ?_, ?_, ?_, ringIdle (by decide +kernel)⟩,
    ⟨{ (inR 1) with kor := { (inR 1).kor with ins := (inR 1).kor.ins.put 0 { (inR 1).ringIn 0 with req := some (4, 3) } } },
    0, 4, 3, 5, uni, ?_⟩⟩
  all_goals decide +kernel

/-- Values that meet the hypotheses of MachineTime. -/
theorem witness_MachineTime :
    (∃ (s : State) (t : Nat), s.domUp .ring = true ∧ s.clk.mtime < 2 ^ 96) ∧ (∃ (s : State) (m : Fin 9), s.domUp .ring =
    true) ∧ (∃ (s : State) (m : Fin 9) (v : BitVec 32), s.domUp .ring = true) ∧ (∃ (s : State) (m : Fin 9), s.domUp
    .ring = true) ∧ (∃ (s : State) (t : Nat), s.domUp .ring = true ∧ (∀ e, s.kor.lastEdge = some e → e + us 1 ≤ max
    s.clk.now t)) ∧ (∃ (s : State) (t : Nat), s.domUp .ring = true ∧ s.get F.KOR_SYNC_CTL_OUT = 2 ∧ s.mtNs (max
    s.clk.now t) g50 % (1000 * max 1 (s.get F.TIM_MARK_PERIOD)) = 0) ∧ (∃ (s : State) (t : Nat) (q : Nat) (f :
    PtpFrame), s.ptpMine f = true ∧ s.kor.ptpRx.length < 16) ∧ (∃ (s : State) (t : Nat) (q : Nat) (f : PtpFrame) (two
    : Bool) (corr : Int), s.ptpMine f = true ∧ (f.typ = 1 ∨ f.typ = 2) ∧ s.kor.ptpTx.length < 16) ∧ (∃ (s : State) (t
    : Nat) (q : Nat) (f : PtpFrame) (corr : Int), s.ptpMine f = true ∧ f.typ = 0) ∧ (∃ (s : State) (t : Nat) (q : Nat)
    (f : PtpFrame) (two : Bool) (corr : Int), s.ptpMine f = false) ∧ (∃ (s : State) (m : Fin 9) (p : PtpStamp),
    s.domUp .ring = true) := by
  refine ⟨⟨up, 0, ?_⟩, ⟨up, 0, ?_⟩, ⟨up, 0, 5, ?_⟩, ⟨up, 0, ?_⟩,
    ⟨{ w [(F.TIM_SET, 7), (F.TIM_SET_FR, 9), (F.KOR_SYNC_CTL_IN_EN, 1)] with kor := { up.kor with setArmed := true } },
    0, ?_, noneYet (by decide +kernel)⟩,
    ⟨{ w [(F.KOR_SYNC_CTL_OUT, 2)] with clk := { up.clk with now := 999999999999990, tickAt := 999999999999990 } }, 0,
    ?_⟩, ⟨w [(F.TIM_PTP_CTL_EN, 1)], 0, 5, ⟨1, 0, none⟩, ?_⟩, ⟨w [(F.TIM_PTP_CTL_EN, 1)], 0, 5, ⟨1, 0, none⟩, false,
    0, ?_⟩, ⟨w [(F.TIM_PTP_CTL_EN, 1)], 0, 5, ⟨0, 0, none⟩, 0, ?_⟩, ⟨up, 0, 5, ⟨1, 0, none⟩, false, 0, ?_⟩, ⟨up, 0,
    ⟨1, 5, 0, 0, 0⟩, ?_⟩⟩
  all_goals decide +kernel

/-- Values that meet the hypotheses of RingLaunches. -/
theorem witness_RingLaunches :
    (∃ (s : State) (m : Fin 9) (time : Bool), s.domUp .ring = true) ∧ (∃ (s : State) (t : Nat) (h : RingHdr) (g :
    LaunchMsg) (x : Stripe), RingTakes s h ∧ bitOf g.group s.device = true ∧ s.named g = some x ∧ s.heldNames = false
    ∧ s.mtReached (max s.clk.now t) g.deadline = false ∧ (s.ringIn h.ring.val).badRun = 0) ∧ (∃ (s : State) (t : Nat)
    (h : HeldLaunch), s.kor.held = some h ∧ s.domUp .ring = true ∧ s.mtReached (max s.clk.now t) h.msg.deadline =
    true) ∧ (∃ (s : State) (t : Nat) (h : RingHdr) (g : ReportMsg), RingTakes s h) ∧ (∃ (s : State) (t : Nat) (h :
    RingHdr) (port : Nat) (mlen : Nat) (data : List Byte), RingTakes s h ∧ port < 8 ∧ mlen ≤ data.length ∧ (s.ringIn
    h.ring.val).badRun = 0 ∧ RingIdle s t) ∧ (∃ (s : State) (t : Nat) (h : RingHdr) (g : FaultMsg), RingTakes s h ∧
    s.domUp .ctrl = true ∧ s.get F.DBK_RATE_N = 0 ∧ (s.wsrc 0x67).queue.length < 16) := by
  refine ⟨⟨up, 0, false, ?_⟩, ⟨withQ (inR 1) [{ str .armed with launch := 1 }], 0, hdr, lau, { str .armed with launch := 1 },
    ringTakes (by decide +kernel), ?_⟩,
    ⟨{ withQ up [{ str .opened with launch := 1 }] with kor := { up.kor with held := some ⟨1, 0, { lau with deadline := 0 }⟩ } },
    0, ⟨1, 0, { lau with deadline := 0 }⟩, ?_⟩, ⟨inR 1, 0, uni, ⟨0, 0, 1, 0, 0, 0⟩, ringTakes (by decide +kernel)⟩,
    ⟨inR 1, 0, uni, 2, 1, [1, 2], ringTakes (by decide +kernel), ?_, ?_, ?_, ringIdle (by decide +kernel)⟩,
    ⟨(inR 1).set F.DBK_RATE_N 0, 0, hdr, ⟨3, 1, 0, 0, 0, 0, 0⟩, ringTakes (by decide +kernel), ?_⟩⟩
  all_goals decide +kernel

/-- Values that meet the hypotheses of RingHalos. -/
theorem witness_RingHalos :
    (∃ (s : State) (t : Nat) (id : Nat) (block : Nat) (nblk : Nat) (i : Nat) (h : RingHdr) (data : List Byte), RingTakes s
    h ∧ s.kor.haloDone.contains (h.src.val, id) = false ∧ s.kor.slots.find? (fun r => r.src == h.src.val && r.id == id
    && !r.accepted) = none ∧ (List.range s.haloSlots).find? (fun k => !s.kor.slots.any (fun r => r.slot == k)) = some
    i ∧ block < nblk ∧ 2 ≤ nblk ∧ haloBlock * block + data.length ≤ haloSlotSize ∧ s.memUp = true ∧ s.mem.poison = []
    ∧ s.mem.hurt = []) ∧ (∃ (s : State) (t : Nat) (id : Nat) (block : Nat) (nblk : Nat) (h : RingHdr) (data : List
    Byte), RingTakes s h ∧ s.kor.haloDone.contains (h.src.val, id) = true) ∧ (∃ (s : State) (t : Nat) (id : Nat) (next
    : Nat) (h : RingHdr) (b : HaloTx), RingTakes s h ∧ s.kor.haloTx.find? (fun b => b.active && b.id == id && b.dst ==
    h.src.val) = some b) ∧ (∃ (s : State) (t : Nat) (hi : Bool) (b : HaloTx), s.kor.haloTx.find? (fun b => b.active &&
    b.hi == hi && decide (b.lastAdv + us (s.get F.KOR_HALO_TMO) ≤ max s.clk.now t)) = some b) ∧ (∃ (s : State) (m :
    Fin 9) (hi : Bool) (b : HaloTx) (c : Instr), s.domUp .ring = true ∧ (s.kor.haloTx.filter (fun b => b.hi ==
    hi)).getLast? = some b ∧ c = (if hi then .resendYhi m else .resendYlo m)) := by
  refine ⟨⟨(inR 1).set F.KOR_HALO_BASE 0x500000000 |>.set F.KOR_HALO_SLOTS 2, 0, 4, 0, 3, 0, uni, [1, 2],
    ringTakes (by decide +kernel), ?_⟩, ⟨{ (inR 1) with kor := { (inR 1).kor with haloDone := [(1, 4)] } }, 0, 4, 0,
    3, uni, [], ringTakes (by decide +kernel), ?_⟩,
    ⟨{ (inR 1) with kor := { (inR 1).kor with haloTx := [⟨4, false, 1, 1, [1, 2, 3], 0, 3, 0, 0, true, 1⟩] } }, 0, 4,
    2, uni, ⟨4, false, 1, 1, [1, 2, 3], 0, 3, 0, 0, true, 1⟩, ringTakes (by decide +kernel), ?_⟩,
    ⟨{ (inR 1) with kor := { (inR 1).kor with haloTx := [⟨4, false, 1, 1, [1, 2, 3], 0, 3, 0, 0, true, 1⟩] } }, 0,
    false, ⟨4, false, 1, 1, [1, 2, 3], 0, 3, 0, 0, true, 1⟩, ?_⟩,
    ⟨{ (inR 1) with kor := { (inR 1).kor with haloTx := [⟨4, false, 1, 1, [1, 2, 3], 0, 3, 0, 0, true, 1⟩] } }, 0,
    false, ⟨4, false, 1, 1, [1, 2, 3], 0, 3, 0, 0, true, 1⟩, .resendYlo 0, ?_⟩⟩
  all_goals decide +kernel

/-- Values that meet the hypotheses of DoorbellStartsChannel. -/
theorem witness_DoorbellStartsChannel :
    (∃ (s : State) (m : Fin 9) (n : Fin 16), s.domUp .host = true ∧ s.get (F.PRT_CH_STAT_STATE n) = 0 ∧ s.get
    (F.PRT_CH_CTL_EN n) = 1) ∧ (∃ (s : State) (m : Fin 9) (n : Fin 16), s.domUp .host = true ∧ s.get
    (F.PRT_CH_STAT_STATE n) = 1) ∧ (∃ (s : State) (m : Fin 9) (n : Fin 16), s.domUp .host = true ∧ s.get
    (F.PRT_CH_STAT_STATE n) = 2) ∧ (∃ (s : State) (m : Fin 9) (n : Fin 16), s.domUp .host = true ∧ s.get
    (F.PRT_CH_STAT_STATE n) = 3) ∧ (∃ (s : State) (m : Fin 9) (n : Fin 16), s.domUp .host = true ∧ (s.get
    (F.PRT_CH_STAT_STATE n) = 4 ∨ (s.get (F.PRT_CH_STAT_STATE n) = 0 ∧ s.get (F.PRT_CH_CTL_EN n) = 0))) := by
  refine ⟨⟨w [(F.PRT_CH_CTL_EN 3, 1), (F.PRT_CH_HEAD 3, 4096)], 0, 3, ?_⟩,
    ⟨withCh (w [(F.PRT_CH_STAT_STATE 3, 1)]) 3 (.rdDesc 64), 0, 3, ?_⟩,
    ⟨withCh (w [(F.PRT_CH_STAT_STATE 3, 2)]) 3 .none, 0, 3, ?_⟩, ⟨withCh (w [(F.PRT_CH_STAT_STATE 3, 3)]) 3 .none, 0,
    3, ?_⟩, ⟨w [(F.PRT_CH_STAT_STATE 3, 4)], 0, 3, ?_⟩⟩
  all_goals decide +kernel

/-- Values that meet the hypotheses of DescriptorsRead. -/
theorem witness_DescriptorsRead :
    (∃ (s : State) (t : Nat) (n : Fin 16) (d : DescBytes) (a : Nat), s.domUp .host = true ∧ (s.chan n).ph = .rdDesc a ∧
    bitOf (descOf a (padTo 32 d)).ctlRaw 31 = false ∧ s.get (F.PRT_CH_STAT_DB_PEND n) = 0) ∧ (∃ (s : State) (t : Nat)
    (n : Fin 16) (d : DescBytes) (a : Nat) (c : Nat), s.domUp .host = true ∧ (s.chan n).ph = .rdDesc a ∧ bitOf (descOf
    a (padTo 32 d)).ctlRaw 31 = true ∧ s.descErr (descOf a (padTo 32 d)) (leAt (padTo 32 d) 24 8) = c ∧ c ≠ 0) ∧ (∃ (s
    : State) (t : Nat) (n : Fin 16) (b : DescBytes) (a : Nat) (d : Desc), s.domUp .host = true ∧ (s.chan n).ph =
    .rdDesc a ∧ d = descOf a (padTo 32 b) ∧ bitOf d.ctlRaw 31 = true ∧ s.descErr d (leAt (padTo 32 b) 24 8) = 0) ∧ (∃
    (s : State) (t : Nat) (n : Fin 16) (b : DescBytes) (a : Nat), s.domUp .host = true ∧ (s.chan n).ph = .rdLink a ∧
    bits (leAt b 0 8) 0 1 = 0 ∧ s.get (F.PRT_CH_STAT_DB_PEND n) = 0) ∧ (∃ (s : State) (t : Nat) (n : Fin 16) (b :
    DescBytes) (a : Nat) (next : Nat), s.domUp .host = true ∧ (s.chan n).ph = .rdLink a ∧ bits (leAt b 0 8) 0 1 = 1 ∧
    bits (leAt b 0 8) 1 4 = 0 ∧ next = leAt b 0 8 / 32 * 32) := by
  refine ⟨⟨withCh (w [(F.PRT_CH_STAT_STATE 3, 1)]) 3 (.rdDesc 64), 0, 3, dscB false 0 1 0, 64, ?_⟩,
    ⟨withCh (w [(F.PRT_CH_STAT_STATE 3, 1)]) 3 (.rdDesc 64), 0, 3, dscB true 0 0 0, 64, 1, ?_⟩,
    ⟨withCh (w [(F.PRT_CH_STAT_STATE 3, 1)]) 3 (.rdDesc 64), 0, 3, dscB true 0 1 0, 64,
    descOf 64 (padTo 32 (dscB true 0 1 0)), ?_⟩, ⟨withCh (w [(F.PRT_CH_STAT_STATE 3, 1)]) 3 (.rdLink 64), 0, 3,
    leBytes 8 0, 64, ?_⟩, ⟨withCh (w [(F.PRT_CH_STAT_STATE 3, 1)]) 3 (.rdLink 64), 0, 3, leBytes 8 129, 64, 128, ?_⟩⟩
  all_goals decide +kernel

/-- Values that meet the hypotheses of DescriptorsComplete. -/
theorem witness_DescriptorsComplete :
    (∃ (s : State) (t : Nat) (n : Fin 16) (b : List Byte) (d : Desc), s.domUp .host = true ∧ s.memUp = true ∧ (s.chan
    n).ph = .move d ∧ d.kind = 0 ∧ n.val < 12 ∧ s.get (F.PRT_CH_STAT_STATE n) = 1 ∧ s.get (F.PRT_CH_CTL_PRIO n) < 4 ∧
    (∀ m, m < 16 → m ≠ n.val → s.chReady m = false)) ∧ (∃ (s : State) (t : Nat) (n : Fin 16) (b : List Byte) (d :
    Desc), s.domUp .host = true ∧ s.memUp = true ∧ (s.chan n).ph = .move d ∧ d.kind = 1 ∧ 12 ≤ n.val ∧ d.irq = false ∧
    s.get (F.PRT_CH_STAT_STATE n) = 1 ∧ s.get (F.PRT_CH_CTL_PRIO n) < 4 ∧ (∀ m, m < 16 → m ≠ n.val → s.chReady m =
    false) ∧ (∀ p ∈ (s.chan n).todo, s.readsClean 0 (d.arg + p.1) p.2 = true)) ∧ (∃ (s : State) (t : Nat) (n : Fin 16)
    (b : List Byte) (d : Desc) (code : Nat) (cause : Nat) (tries : Nat), s.domUp .host = true ∧ (s.chan n).ph =
    .checked d code cause tries ∧ 12 ≤ n.val ∧ d.irq = false ∧ d.kind = 2 ∧ code < 256 ∧ cause < 16 ∧ tries < 16) ∧ (∃
    (s : State) (n : Nat), s.chNext = some n) := by
  refine ⟨⟨(w [(F.PRT_CH_STAT_STATE 3, 1)]).setChan 3 ⟨.move (dsc 0), 1, 64, [(0, 64)], 0⟩, 0, 3, [1, 2], dsc 0, ?_⟩,
    ⟨(w [(F.PRT_CH_STAT_STATE 13, 1)]).setChan 13 ⟨.move (dsc 1), 1, 64, [(0, 64)], 0⟩, 0, 13, [], dsc 1, ?_⟩,
    ⟨withCh (w [(F.PRT_CH_STAT_STATE 13, 1)]) 13 (.checked (dsc 2) 8 3 1), 0, 13, [], dsc 2, 8, 3, 1, ?_⟩,
    ⟨(w [(F.PRT_CH_STAT_STATE 3, 1)]).setChan 3 ⟨.move (dsc 0), 1, 64, [(0, 64)], 0⟩, 3, ?_⟩⟩
  all_goals decide +kernel

/-- Values that meet the hypotheses of ChannelsStop. -/
theorem witness_ChannelsStop :
    (∃ (s : State) (t : Nat) (k : Nat) (n : Fin 16) (b : List Byte) (c : Instr) (d : Desc), s.domUp .host = true ∧ ((c =
    .completionTimeout t n b ∧ k = 1 ∧ (s.chan n).since + ms (s.get F.PRT_HL_CTO) ≤ max s.clk.now t) ∨ (c =
    .completionError t n false b ∧ k = 2) ∨ (c = .completionError t n true b ∧ k = 3)) ∧ (s.chan n).ph = .move d ∧
    d.kind = 0 ∧ s.mem.hurt = []) ∧ (∃ (s : State) (t : Nat) (l : List (Nat × List Byte)), s.domUp .host = true) ∧ (∃
    (s : State) (t : Nat) (l : List (Nat × List Byte)), s.domUp .host = true) ∧ (∃ (s : State) (m : Fin 9) (n : Fin
    16) (b : List Byte), s.domUp .host = true ∧ (s.get (F.PRT_CH_STAT_STATE n) = 0 ∨ (s.get (F.PRT_CH_STAT_STATE n) =
    1 ∧ (s.chan n).ph ≠ .none) ∨ s.get (F.PRT_CH_STAT_STATE n) = 2 ∨ s.get (F.PRT_CH_STAT_STATE n) = 3)) ∧ (∃ (s :
    State) (m : Fin 9) (n : Fin 16) (b : List Byte), s.domUp .host = true ∧ s.get (F.PRT_CH_STAT_STATE n) = 4) ∧ (∃ (s
    : State) (m : Fin 9) (n : Fin 16), s.domUp .host = true ∧ s.get (F.PRT_CH_STAT_STATE n) ≠ 4) := by
  refine ⟨⟨withCh (w [(F.PRT_CH_STAT_STATE 3, 1)]) 3 (.move (dsc 0)), 0, 1, 3, [1, 2], .completionTimeout 0 3 [1, 2], dsc 0,
    ?_⟩, ⟨withCh (w [(F.PRT_CH_STAT_STATE 3, 1)]) 3 (.move (dsc 0)), 0, [], ?_⟩,
    ⟨withCh (w [(F.PRT_CH_STAT_STATE 3, 1)]) 3 (.rdLink 64), 0, [], ?_⟩,
    ⟨withCh (w [(F.PRT_CH_STAT_STATE 3, 1)]) 3 (.lueth (dsc 2) 1), 0, 3, [], ?_⟩, ⟨w [(F.PRT_CH_STAT_STATE 3, 4)], 0,
    3, [], ?_⟩, ⟨up, 0, 3, ?_⟩⟩
  all_goals decide +kernel

/-- Values that meet the hypotheses of LuethSegmentsChecked. -/
theorem witness_LuethSegmentsChecked :
    (∃ (s : State) (t : Nat) (tries : Nat) (c : Nat) (n : Fin 16) (b : List Byte) (d : Desc), s.domUp .host = true ∧
    s.memUp = true ∧ (s.chan n).ph = .lueth d tries ∧ s.segEarly d (padTo d.bytes b) = c ∧ c ≠ 0 ∧ s.get
    (F.PRT_CH_STAT_STATE n) = 1 ∧ s.get (F.PRT_CH_CTL_PRIO n) < 4 ∧ (∀ m, m < 16 → m ≠ n.val → s.chReady m = false)) ∧
    (∃ (s : State) (t : Nat) (tries : Nat) (n : Fin 16) (b : List Byte) (l : List Byte) (d : Desc), s.domUp .host =
    true ∧ s.memUp = true ∧ (s.chan n).ph = .lueth d tries ∧ l = padTo d.bytes b ∧ s.segEarly d l = 0 ∧ s.mem.hurt =
    []) := by
  refine ⟨⟨(w [(F.PRT_CH_STAT_STATE 3, 1)]).setChan 3 ⟨.lueth (dsc 2) 1, 1, 64, [(0, 64)], 0⟩, 0, 1, 1, 3, [], dsc 2, ?_⟩,
    ⟨{ withCh (w [(F.PRT_ING_CTL_ENABLE, 1), (F.PRT_ING_BUILD, 0)]) 3 (.lueth { dsc 2 with arg := 0, len64 := 2 } 1) with sec := { up.sec with slots := [(0, .layout 9)] } },
    0, 1, 3, segB, segB, { dsc 2 with arg := 0, len64 := 2 }, ?_⟩⟩
  all_goals decide +kernel

/-- Values that meet the hypotheses of CoresTrapAndAnswer. -/
theorem witness_CoresTrapAndAnswer :
    (∃ (s : State) (t : Nat) (j : Fin 8) (c : BitVec 8) (nmi : Bool), s.domUp .ctrl = true ∧ s.get (F.JRN_STAT_STATE j) =
    1) ∧ (∃ (s : State) (t : Nat) (j : Fin 8) (nmi : Bool), s.domUp .ctrl = true ∧ s.get (F.JRN_WDOG j) ≠ 0 ∧
    (s.cores.get j Core.idle).lastKick + us (s.get (F.JRN_WDOG j)) ≤ max s.clk.now t) ∧ (∃ (s : State) (m : Fin 9) (j
    : Fin 8), s.domUp .ctrl = true) ∧ (∃ (s : State) (m : Fin 9) (j : Fin 8), s.domUp .ctrl = true ∧ s.domUp .host =
    true) ∧ (∃ (s : State) (m : Fin 9) (j : Fin 8) (v : BitVec 32), s.domUp .ctrl = true) := by
  refine ⟨⟨w [(F.JRN_STAT_STATE 2, 1)], 0, 2, 5, false, ?_⟩, ⟨w [(F.JRN_WDOG 2, 100)], 0, 2, false, ?_⟩, ⟨up, 3, 2, ?_⟩, ⟨up,
    0, 2, ?_⟩, ⟨up, 0, 2, 77, ?_⟩⟩
  all_goals decide +kernel

/-- Values that meet the hypotheses of GaugerRunsAndRecords. -/
theorem witness_GaugerRunsAndRecords :
    (∃ (s : State) (m : Fin 9), s.domUp .motion = true ∧ s.runRefused = true) ∧ (∃ (s : State) (m : Fin 9), s.domUp
    .motion = true ∧ s.runRefused = false) ∧ (∃ (s : State) (m : Fin 9) (r : GRun), s.domUp .motion = true ∧ s.gau.run
    = some r) ∧ (∃ (s : State) (m : Fin 9), s.domUp .motion = true ∧ s.gau.run = none) ∧ (∃ (s : State) (t : Nat) (k :
    Fin 4) (cur : Int) (tgt : Int) (v : Int), s.domUp .motion = true ∧ (s.at t).beatDue (.trim k) (us (max 1 (s.get
    F.GAU_TRIM_CTL_INTERVAL))) = true ∧ bitOf (s.get F.GAU_TRIM_CTL_EN) k = true ∧ k.val ∈ s.gau.targets ∧
    s.trimPaused k = false ∧ cur = trimVal k (s.get (trimFld k)) ∧ tgt = trimVal k (s.get (F.GAU_TRIM_TGT k)) ∧ cur ≠
    tgt ∧ v = (if cur < tgt then cur + 1 else cur - 1) ∧ (k.val < 2 ∨ v ≠ 0)) ∧ (∃ (s : State) (t : Nat) (c : Fin 8)
    (f : VFrame) (r : List VFrame), s.domUp .vision = true ∧ s.memUp = true ∧ s.domUp .host = true ∧ s.vis.closed.get
    c [] = f :: r ∧ s.gau.run = none ∧ s.mem.poison = [] ∧ s.mem.hurt = [] ∧ f.slotAddr c + 256 ≤ hbmTop) ∧ (∃ (s :
    State) (t : Nat) (c : Fin 8) (f : VFrame) (l : List VFrame) (r : GRun), s.domUp .vision = true ∧ s.memUp = true ∧
    s.vis.closed.get c [] = f :: l ∧ s.gau.run = some r ∧ (r.ctx ≠ c.val ∨ f.marks ≠ 0 ∨ f.tag ≠ s.get F.GAU_RUN_TAG ∨
    f.at_ ≤ r.start)) ∧ (∃ (s : State) (t : Nat) (c : Fin 8), s.vis.closed.get c [] = []) := by
  refine ⟨⟨w [(F.GAU_RUN_CTL_KIND, 5)], 0, ?_⟩, ⟨w [(F.GAU_RUN_CTL_KIND, 1)], 0, ?_⟩,
    ⟨{ up with gau := { up.gau with run := some ⟨3, 0, 0, 2, 0, 0, [], 44, true, 0, none⟩ } }, 0,
    ⟨3, 0, 0, 2, 0, 0, [], 44, true, 0, none⟩, ?_⟩, ⟨up, 0, ?_⟩,
    ⟨{ w [(F.GAU_TRIM_CTL_EN, 2), (F.GAU_TRIM_TGT 1, 9), (F.GAU_TRIM_STAT_STALE, 0), (F.GAU_TRIM_STAT_STEPPING, 2)] with gau := { up.gau with targets := [1] } },
    0, 1, 0, 9, 1, ?_⟩, ⟨withV { up.vis with closed := [(2, [vfr])] }, 0, 2, vfr, [], ?_⟩,
    ⟨{ withV { up.vis with closed := [(2, [vfr])] } with gau := { up.gau with run := some ⟨3, 0, 0, 2, 0, 0, [], 44, true, 0, none⟩ } },
    0, 2, vfr, [], ⟨3, 0, 0, 2, 0, 0, [], 44, true, 0, none⟩, ?_⟩, ⟨up, 0, 2, ?_⟩⟩
  all_goals decide +kernel

/-- Values that meet the hypotheses of FramesOpenAndClose. -/
theorem witness_FramesOpenAndClose :
    (∃ (s : State) (t : Nat) (vc : Nat) (c : Nat) (k : FramePkt) (p : Fin 2), s.domUp .vision = true ∧ s.get
    (F.VIS_PORT_CTL_EN p) = 1 ∧ vc < 4 ∧ c = 4 * p.val + vc ∧ s.get (F.VIS_CTX_CTL_EN c) = 1) ∧ (∃ (s : State) (t :
    Nat) (vc : Nat) (c : Nat) (k : FramePkt) (p : Fin 2), s.domUp .vision = true ∧ s.get (F.VIS_PORT_CTL_EN p) = 1 ∧
    vc < 4 ∧ c = 4 * p.val + vc ∧ s.get (F.VIS_CTX_CTL_EN c) = 0 ∧ s.vis.frames.lookup c = none) ∧ (∃ (s : State) (t :
    Nat) (vc : Nat) (c : Nat) (dt : Nat) (p : Fin 2) (d : List Byte) (f : VFrame) (ok : Bool), s.domUp .vision = true
    ∧ s.get (F.VIS_PORT_CTL_EN p) = 1 ∧ vc < 4 ∧ c = 4 * p.val + vc ∧ s.vis.frames.lookup c = some f ∧ f.app
    (F.VIS_CTX_CTL_DT c) = 0 ∧ dt = 0x2A) ∧ (∃ (s : State) (t : Nat) (vc : Nat) (c : Nat) (dt : Nat) (p : Fin 2) (d :
    List Byte) (f : VFrame), s.domUp .vision = true ∧ s.get (F.VIS_PORT_CTL_EN p) = 1 ∧ vc < 4 ∧ c = 4 * p.val + vc ∧
    s.vis.frames.lookup c = some f ∧ dt ≠ dtCode (f.app (F.VIS_CTX_CTL_DT c))) ∧ (∃ (s : State) (t : Nat) (p : Fin 2),
    s.domUp .vision = true ∧ s.get (F.VIS_PORT_CTL_EN p) = 1) ∧ (∃ (s : State) (t : Nat) (vc : Nat) (c : Nat) (k :
    FramePkt) (p : Fin 2) (f : VFrame), s.domUp .vision = true ∧ s.get (F.VIS_PORT_CTL_EN p) = 1 ∧ vc < 4 ∧ c = 4 *
    p.val + vc ∧ s.vis.frames.lookup c = some f) ∧ (∃ (s : State) (t : Nat) (c : Fin 8) (f : VFrame),
    s.vis.frames.lookup c.val = some f ∧ f.dropped = false ∧ f.lastPkt + ms 1000 ≤ max s.clk.now t) ∧ (∃ (s : State)
    (t : Nat) (p : Fin 2) (l : Fin 4), s.domUp .vision = true ∧ s.get (F.VIS_PORT_CTL_EN p) = 1 ∧ l.val < s.camLanes
    p) ∧ (∃ (s : State) (t : Nat) (p : Fin 2) (l : Fin 4), s.domUp .vision = true) := by
  refine ⟨⟨{ withV { up.vis with frames := [(1, vfr)] } with regs := (w [(F.VIS_PORT_CTL_EN 0, 1), (F.VIS_CTX_CTL_EN 1, 1)]).regs },
    0, 1, 1, ⟨8, false⟩, 0, ?_⟩, ⟨withV up.vis, 0, 1, 1, ⟨0, false⟩, 0, ?_⟩,
    ⟨withV { up.vis with frames := [(1, vfr)] }, 0, 1, 1, 0x2A, 0, [7, 8], vfr, false, ?_⟩,
    ⟨withV { up.vis with frames := [(1, vfr)] }, 0, 1, 1, 0x2B, 0, [7, 8], vfr, ?_⟩,
    ⟨withV { up.vis with frames := [(1, vfr)] }, 0, 0, ?_⟩, ⟨withV { up.vis with frames := [(1, vfr)] }, 0, 1, 1,
    ⟨0, false⟩, 0, vfr, ?_⟩, ⟨withV { up.vis with frames := [(1, vfr)] }, 0, 1, vfr, ?_⟩,
    ⟨withV { up.vis with frames := [(1, vfr)] }, 0, 0, 0, ?_⟩, ⟨up, 0, 0, 0, ?_⟩⟩
  all_goals decide +kernel

/-- Values that meet the hypotheses of SettingsAndSlots. -/
theorem witness_SettingsAndSlots :
    (∃ (s : State) (m : Fin 9) (c : Fin 8), s.domUp .vision = true) ∧ (∃ (s : State) (t : Nat) (p : Fin 2) (r : CciRun),
    s.vis.cci.lookup p.val = some r ∧ r.ctx < 8) ∧ (∃ (s : State) (t : Nat) (p : Fin 2) (r : CciRun), s.vis.cci.lookup
    p.val = some r) ∧ (∃ (s : State) (t : Nat) (p : Fin 2) (r : CciRun), s.vis.cci.lookup p.val = some r ∧
    r.set.entries.length ≤ r.idx + 1) ∧ (∃ (s : State) (m : Fin 9) (c : Fin 8) (k : Nat), s.domUp .vision = true) := by
  refine ⟨⟨w [(F.VIS_SET_CTL_N 1, 2), (F.VIS_SET_CTL_TAG 1, 9)], 0, 1, ?_⟩,
    ⟨withV { up.vis with cci := [(0, ⟨1, ⟨9, [(1, 2), (3, 4)]⟩, 0, 5, 2⟩)] }, 0, 0,
    ⟨1, ⟨9, [(1, 2), (3, 4)]⟩, 0, 5, 2⟩, ?_⟩,
    ⟨withV { up.vis with cci := [(0, ⟨1, ⟨9, [(1, 2), (3, 4)]⟩, 0, 5, 2⟩)] }, 0, 0,
    ⟨1, ⟨9, [(1, 2), (3, 4)]⟩, 0, 5, 2⟩, ?_⟩,
    ⟨withV { up.vis with cci := [(0, ⟨1, ⟨9, [(1, 2), (3, 4)]⟩, 1, 5, 2⟩)] }, 0, 0,
    ⟨1, ⟨9, [(1, 2), (3, 4)]⟩, 1, 5, 2⟩, ?_⟩, ⟨withV { up.vis with taken := [(1, 3)] }, 0, 1, 2, ?_⟩⟩
  all_goals decide +kernel

/-- Values that meet the hypotheses of CopyReleases. -/
theorem witness_CopyReleases :
    (∃ (s : State) (m : Fin 9) (v : BitVec 32) (c : CLayer) (r : List CLayer), s.domUp .comp = true ∧ s.copy.layers = c ::
    r ∧ c.relTakes = [] ∧ s.takeNeeded c v.toNat = false) ∧ (∃ (s : State) (m : Fin 9) (v : BitVec 32) (c : CLayer) (r
    : List CLayer), s.domUp .comp = true ∧ s.copy.layers = c :: r ∧ c.relTakes = [] ∧ s.takeNeeded c v.toNat = true) ∧
    (∃ (s : State) (t : Nat) (c : CLayer) (r : List CLayer), s.domUp .comp = true ∧ s.copy.layers = c :: r ∧ (∀ k ∈
    c.relTakes, s.takeNeeded c k = false)) ∧ (∃ (s : State) (m : Fin 9) (t : Nat) (i : Instr) (c : CLayer) (r : List
    CLayer), s.domUp .comp = true ∧ s.copy.layers = c :: r ∧ (∀ d ∈ r, d.layer ≠ c.layer) ∧ s.asy.queue.any (fun x =>
    x.layer == c.layer) = false ∧ (i = .layerRelease m ∨ (i = .layerReleaseEffect t ∧ c.relLayer = true))) ∧ (∃ (s :
    State) (m : Fin 9) (c : CLayer) (r : List CLayer), s.domUp .comp = true ∧ s.copy.layers = c :: r ∧ (∀ d ∈ r,
    d.layer ≠ c.layer) ∧ s.asy.queue.any (fun x => x.layer == c.layer) = true) := by
  refine ⟨⟨{ up with copy := { layers := [lay1], tap := none } }, 0, 3, lay1, [], ?_⟩, ⟨neededS, 0, 3, needLay, [], ?_⟩,
    ⟨{ up with copy := { layers := [{ lay1 with relTakes := [3] }], tap := none } }, 0, { lay1 with relTakes := [3] },
    [], ?_⟩, ⟨{ up with copy := { layers := [lay1], tap := none } }, 0, 0, .layerRelease 0, lay1, [], ?_⟩,
    ⟨composingS (str .opened), 0, lay1, [], ?_⟩⟩
  all_goals decide +kernel

/-- Values that meet the hypotheses of PrepassAndTiles. -/
theorem witness_PrepassAndTiles :
    (∃ (s : State) (t : Nat) (x : Stripe) (w : Work) (l : List (Int × Int × Nat)), s.domUp .comp = true ∧ s.memUp = true ∧
    (∀ z ∈ s.asy.queue, z.comp.owes = []) ∧ s.asy.queue.find? (fun x => !x.comp.prepass) = some x ∧ (s.at t).work x =
    some w ∧ w.allKnown = true ∧ w.bodiesKnown = true ∧ w.sums = some l) ∧ (∃ (s : State) (t : Nat) (x : Stripe) (w :
    Work), s.domUp .comp = true ∧ s.memUp = true ∧ s.domUp .ring = true ∧ x.comp.prepass = true ∧ (∀ z ∈ s.asy.queue,
    z.id = x.id → z = x) ∧ s.asy.queue.find? (fun x => !x.comp.owes.isEmpty) = some x ∧ (s.at t).work x = some w ∧ (∀
    hi ∈ x.comp.owes, (w.haloBody hi).isSome = true)) ∧ (∃ (s : State) (t : Nat) (l : Fin 32) (x : Stripe) (w : Work)
    (faults : List TileFault) (accs : List (Fin 2 × SramAcc)), s.domUp .comp = true ∧ s.memUp = true ∧ s.composing =
    some x ∧ (s.at t).work x = some w ∧ s.nextLane x = some l.val ∧ x.mayCompose = true ∧ (s.readsClean 2 (s.imgAddr
    x.comp.gainSlot) (2 ^ 20) = false ∨ imgOk (s.imgAddr x.comp.gainSlot) x.cfgEpoch (s.rd (s.imgAddr x.comp.gainSlot)
    (2 ^ 20)) = false ∨ w.gainsOk x.comp.nextCycle = false ∨ (s.bodyReads x).1 = true ∨ ((s.at t).compAccs accs).1 =
    true)) ∧ (∃ (s : State) (t : Nat) (l : Fin 32) (x : Stripe) (w : Work) (faults : List TileFault) (accs : List (Fin
    2 × SramAcc)), s.domUp .comp = true ∧ s.memUp = true ∧ s.composing = some x ∧ (s.at t).work x = some w ∧
    s.nextLane x = some l.val ∧ x.mayCompose = true) ∧ (∃ (s : State) (t : Nat) (x : Stripe) (w : Work) (ps : List
    Prev), s.domUp .comp = true ∧ s.memUp = true ∧ s.composing = some x ∧ (s.at t).work x = some w ∧ w.upTo
    (x.comp.nextCycle * s.cyc) = some ps) := by
  refine ⟨⟨composingS (str .opened), 0, str .opened,
    ((composingS (str .opened) : State).at 0 |>.work (str .opened)).get (by decide +kernel), [], ?_, ?_, ?_, ?_,
    (Option.some_get _).symm, ?_⟩, ⟨composingS owesX, 0, owesX,
    ((composingS owesX : State).at 0 |>.work (owesX)).get (by decide +kernel), ?_, ?_, ?_, ?_, ?_, ?_,
    (Option.some_get _).symm, ?_⟩, ⟨composingS readyX, 0, 0, readyX,
    ((composingS readyX : State).at 0 |>.work (readyX)).get (by decide +kernel), [], [], ?_, ?_, ?_,
    (Option.some_get _).symm, ?_⟩, ⟨composingS readyX, 0, 0, readyX,
    ((composingS readyX : State).at 0 |>.work (readyX)).get (by decide +kernel), [], [], ?_, ?_, ?_,
    (Option.some_get _).symm, ?_⟩, ⟨composingS readyX, 0, readyX,
    ((composingS readyX : State).at 0 |>.work (readyX)).get (by decide +kernel), [], ?_, ?_, ?_,
    (Option.some_get _).symm, ?_⟩⟩
  all_goals decide +kernel

/-- Values that meet the hypotheses of PublishAndTap. -/
theorem witness_PublishAndTap :
    (∃ (s : State) (t : Nat) (x : Stripe) (w : Work) (e : Int) (ds : List Byte), s.domUp .comp = true ∧ s.memUp = true ∧
    s.composing = some x ∧ (s.at t).work x = some w ∧ x.comp.tilesOf.length = 32 ∧ x.comp.held = false ∧ s.entryFree
    (s.get F.MEM_GAL_PUB) = true ∧ e = max (s.foldEnd x x.comp.nextCycle) (x.comp.nextCol - 1) ∧ w.toFold e = some ds)
    ∧ (∃ (s : State) (m : Fin 9), s.domUp .comp = true) ∧ (∃ (s : State) (t : Nat) (r : TapRun) (x : Stripe) (w :
    Work) (b : List Byte), s.domUp .comp = true ∧ s.memUp = true ∧ s.copy.tap = some r ∧ s.asy.queue.find? (fun x =>
    x.id == r.stripe) = some x ∧ (s.at t).work x = some w ∧ w.tapBytes r = some b) := by
  refine ⟨⟨composingS fullX, 0, fullX, ((composingS fullX : State).at 0 |>.work (fullX)).get (by decide +kernel), 99, [], ?_,
    ?_, ?_, (Option.some_get _).symm, ?_⟩, ⟨up, 0, ?_⟩,
    ⟨{ composingS (str .opened) with copy := { layers := [lay1], tap := some ⟨0x1000001, 0, 0, 0, 0, 0x500000000⟩ } },
    0, ⟨0x1000001, 0, 0, 0, 0, 0x500000000⟩, str .opened,
    (({ composingS (str .opened) with copy := { layers := [lay1], tap := some ⟨0x1000001, 0, 0, 0, 0, 0x500000000⟩ } } : State).at 0 |>.work (str .opened)).get (by decide +kernel),
    [], ?_, ?_, ?_, ?_, (Option.some_get _).symm, ?_⟩⟩
  all_goals decide +kernel

/-- Values that meet the hypotheses of QuireRoundTrip. -/
theorem witness_QuireRoundTrip :
    (∃ (c : LeafCtx) (x : Leaf) (level : Nat) (prev : Option (Array Nat)) (last : Bool), x.vals.size = leafN ∧ (∀ v ∈
    x.vals, v < 16) ∧ (∀ m ∈ x.marks, m.t < leafN ∧ m.value < 16) ∧ marksOk x.vals x.marks = true ∧ (x.whole = 0 ∨
    ((x.whole = 3 ∨ x.whole = 4) ∧ x.marks = [] ∧ ∀ v ∈ x.vals, v = 0))) := by
  refine ⟨⟨0, 0, 0, true⟩, ⟨(List.replicate 8192 0).toArray, [], 0⟩, 0, none, false,
    List.size_toArray.trans (List.length_replicate.trans rfl),
    fun v hv => by have := List.eq_of_mem_replicate (List.mem_toArray.mp hv); omega, by intro m h; simp at h, rfl,
    .inl rfl⟩

/-- Values that meet the hypotheses of LinesReadAsSent. -/
theorem witness_LinesReadAsSent :
    (∃ (c : LineCode) (seed : Nat) (n : Nat) (r : Run) (data : List Bool) (rest : List Bool), c ∈ [laneCode, ctrlCode,
    ringCode, wordCode] ∧ r.len ≤ c.limit ∧ n ≤ data.length) ∧ (∃ (link : Nat) (id : Nat) (age : Nat) (q : Fin 256)
    (pos : Int) (valid : Bool) (index : Bool) (warn : Bool) (r : Run) (rest : List Bool), r.len ≤ 16 ∧ age < 65536 ∧
    -(2 ^ 47) ≤ pos ∧ pos < 2 ^ 47) ∧ (∃ (t : Nat) (mseq : Nat) (shot : Nat) (k : Fin 4) (ack : BitVec 8) (nak :
    BitVec 8) (r : Run) (rest : List Bool), r.len ≤ 40 ∧ mseq < 2 ^ 32 ∧ shot < 2 ^ 40) ∧ (∃ (h : RingHdr) (p : RPay)
    (r : Run) (rest : List Bool), r.len ≤ 40 ∧ h.good = true ∧ h.whole = true ∧ payRead p.cls p.bytes = some p) ∧ (∃
    (p : RPay) (a : Nat) (b : Nat) (c : Int) (d : Bool) (e : Bool), a < 2 ^ 16 ∧ b < 2 ^ 32 ∧ -(2 ^ 63) ≤ c ∧ c < 2 ^
    63 ∧ (p = .sync b a c ∨ p = .pdResp a c ∨ p = .haloAck d e a b)) := by
  refine ⟨⟨laneCode, 5, 2, ⟨false, 3⟩, [true, false, true], [], ?_⟩, ⟨9, 1, 3, 4, -7, false, false, false, ⟨false, 3⟩, [], ?_⟩,
    ⟨0, 5, 77, 2, 3, 4, ⟨false, 3⟩, [], ?_⟩, ⟨hdr, .sync 5 6 (-7), ⟨false, 3⟩, [], ?_⟩, ⟨.sync 5 6 (-7), 6, 5, -7,
    false, false, ?_⟩⟩
  all_goals decide +kernel

end Sys2Proof.Tests
end

section
/-! PROOFS. The maps of R59 and R60 are inverse (R61). Both go through the same coordinates: a pixel is its advance a, the
leading index ρ0 of its pass 0, its sub-position (u, v) and its column c; a beam-shot is its cycle a + j, the leading
index ρ0 + j·R, the shot of (u, v) in the cycle, and c. Each map is stated once in these coordinates, and every pixel and
every beam-shot has them. -/

namespace Sys2Proof.Machine
open Sys2Proof

/-! ## Coordinates -/

/-- The shot of a cycle that writes sub-position (u, v) (R59). -/
def Scan.shotAt (g : Scan) (u v : Nat) : Nat := if v % 2 = 0 then v * g.m + u else v * g.m + (g.m - 1 - u)

/-- The stripe x of the pixel of advance a that leading index ρ writes in pass 0 at offset u (R58). -/
def Scan.pixelX (g : Scan) (a : Int) (rho u : Nat) : Int := a * g.adv + ((g.rows - 1 - rho) * g.m + u : Nat)

/-- The beam-shot of cycle k that writes, as pass j and at shot i of the cycle, a pixel with ρ0 and c (R59). -/
def Scan.passShot (g : Scan) (dir rho c i k j : Nat) : BeamShot :=
  ⟨j, k * g.shots + i, rowOf dir (rho + j * g.rows), c⟩

/-! ## Rows, sub-positions and columns -/

/-- Quotient and remainder of a number written in base b. -/
theorem mul_add_div_mod {b w : Nat} (hw : w < b) (q : Nat) : (q * b + w) / b = q ∧ (q * b + w) % b = w :=
  (Nat.div_mod_unique (Nat.zero_lt_of_lt hw)).2 ⟨by rw [Nat.mul_comm b q, Nat.add_comm], hw⟩

theorem rowOf_lt {dir rho : Nat} (h : rho < 512) : rowOf dir rho < 512 := by
  unfold rowOf; split <;> omega

theorem rowOf_rowOf {dir rho : Nat} (h : rho < 512) : rowOf dir (rowOf dir rho) = rho := by
  unfold rowOf; split <;> omega

theorem Scan.shotAt_lt {g : Scan} {u v : Nat} (hu : u < g.m) (hv : v < g.m) : g.shotAt u v < g.shots := by
  have hrow : v * g.m + g.m ≤ g.shots := by
    rw [Scan.shots, ← Nat.succ_mul]; exact Nat.mul_le_mul_right g.m hv
  unfold Scan.shotAt; split <;> omega

/-- The sub-position order of R55 undoes the one of R59. -/
theorem Scan.sub_shotAt {g : Scan} {u v : Nat} (hu : u < g.m) : g.sub (g.shotAt u v) = (u, v) := by
  by_cases hv : v % 2 = 0
  · obtain ⟨hdiv, hmod⟩ := mul_add_div_mod hu v
    simp only [Scan.shotAt, Scan.sub, hv, hdiv, hmod, if_true]
  · obtain ⟨hdiv, hmod⟩ := mul_add_div_mod (show g.m - 1 - u < g.m by omega) v
    simp only [Scan.shotAt, Scan.sub, hv, hdiv, hmod, if_false, Prod.mk.injEq, and_true]
    omega

/-- Every shot of a cycle is the shot of its sub-position (R55). -/
theorem Scan.exists_shotAt_eq {g : Scan} {s : Nat} (hm : 0 < g.m) (hs : s < g.shots) :
    ∃ u v, u < g.m ∧ v < g.m ∧ g.shotAt u v = s := by
  have hw : s % g.m < g.m := Nat.mod_lt _ hm
  have hs' : s / g.m * g.m + s % g.m = s := Nat.div_add_mod' s g.m
  refine ⟨(g.sub s).1, s / g.m, ?_, Nat.div_lt_of_lt_mul hs, ?_⟩
  · simp only [Scan.sub]; split <;> omega
  · simp only [Scan.shotAt, Scan.sub]; split <;> omega

theorem Scan.exists_column_eq {g : Scan} (hm : 0 < g.m) {y : Nat} (hy : y < g.side) :
    ∃ c v, c < 512 ∧ v < g.m ∧ y = c * g.m + v :=
  ⟨y / g.m, y % g.m, Nat.div_lt_of_lt_mul (by rwa [Nat.mul_comm]), Nat.mod_lt _ hm, (Nat.div_add_mod' y g.m).symm⟩

/-- A filterMap that keeps every element of the list is a map. -/
theorem filterMap_eq_map_of_eq_some {α β : Type} {f : α → Option β} {h : α → β} :
    ∀ {l : List α}, (∀ x ∈ l, f x = some (h x)) → l.filterMap f = l.map h
  | [], _ => rfl
  | x :: l, hf => by
    rw [List.filterMap_cons_some (hf x List.mem_cons_self), List.map_cons,
      filterMap_eq_map_of_eq_some fun y hy => hf y (List.mem_cons_of_mem x hy)]

/-! ## The parameters of R50 -/

section
variable {g : Scan} (hp : g.np ∣ 512)
include hp

theorem Scan.np_mul_rows : g.np * g.rows = 512 := Nat.mul_div_cancel' hp

theorem Scan.adv_eq : g.adv = g.rows * g.m := (Nat.div_mul_right_comm hp g.m).symm

theorem Scan.rows_pos : 0 < g.rows :=
  Nat.pos_of_ne_zero fun h => by have h512 := g.np_mul_rows hp; rw [h, Nat.mul_zero] at h512; omega

theorem Scan.adv_pos (hm : 0 < g.m) : 0 < g.adv := by
  rw [g.adv_eq hp]; exact Nat.mul_pos (g.rows_pos hp) hm

theorem Scan.leading_lt {rho j : Nat} (hrho : rho < g.rows) (hj : j < g.np) : rho + j * g.rows < 512 := by
  have hgroup : (j + 1) * g.rows ≤ 512 := g.np_mul_rows hp ▸ Nat.mul_le_mul_right g.rows hj
  rw [Nat.succ_mul] at hgroup; omega

/-- A pixel's place within its advance lies below A (R59). -/
theorem Scan.offset_lt {rho u : Nat} (hu : u < g.m) : (g.rows - 1 - rho) * g.m + u < g.adv := by
  have hR := g.rows_pos hp
  have hcell : (g.rows - 1 - rho + 1) * g.m ≤ g.adv := by
    rw [g.adv_eq hp]; exact Nat.mul_le_mul_right g.m (by omega)
  rw [Nat.succ_mul] at hcell; omega

/-! ## Every pixel and every beam-shot has coordinates -/

theorem Scan.exists_pixelX_eq (hm : 0 < g.m) (x : Int) :
    ∃ a rho u, rho < g.rows ∧ u < g.m ∧ x = g.pixelX a rho u := by
  have hA : (0 : Int) < g.adv := Int.natCast_pos.2 (g.adv_pos hp hm)
  obtain ⟨e, he⟩ := Int.eq_ofNat_of_zero_le (Int.emod_nonneg x (Int.ne_of_gt hA))
  have heA : e < g.rows * g.m := by
    have := Int.emod_lt_of_pos x hA
    rw [← g.adv_eq hp]; omega
  have hcell : e / g.m < g.rows := Nat.div_lt_of_lt_mul (by rwa [Nat.mul_comm])
  refine ⟨x / g.adv, g.rows - 1 - e / g.m, e % g.m, Nat.sub_one_sub_lt_of_lt hcell, Nat.mod_lt _ hm, ?_⟩
  rw [Scan.pixelX, Nat.sub_sub_self (Nat.le_sub_one_of_lt hcell), Nat.div_add_mod', ← he]
  exact (Int.ediv_mul_add_emod x g.adv).symm

theorem Scan.exists_passShot_eq (hm : 0 < g.m) {dir ncyc shot r c : Nat} (hshot : shot < ncyc * g.shots)
    (hr : r < 512) : ∃ rho u v k j, rho < g.rows ∧ u < g.m ∧ v < g.m ∧ k < ncyc ∧ j < g.np ∧
      (⟨j, shot, r, c⟩ : BeamShot) = g.passShot dir rho c (g.shotAt u v) k j := by
  have hC : 0 < g.shots := Nat.mul_pos hm hm
  obtain ⟨u, v, hu, hv, hs⟩ := Scan.exists_shotAt_eq hm (Nat.mod_lt shot hC)
  have hrow := rowOf_lt (dir := dir) hr
  refine ⟨rowOf dir r % g.rows, u, v, shot / g.shots, rowOf dir r / g.rows, Nat.mod_lt _ (g.rows_pos hp), hu, hv,
    Nat.div_lt_of_lt_mul (by rwa [Nat.mul_comm]), Nat.div_lt_of_lt_mul ?_, ?_⟩
  · rwa [Nat.mul_comm, g.np_mul_rows hp]
  · rw [Scan.passShot, hs, Nat.div_add_mod', Nat.add_comm, Nat.div_add_mod', rowOf_rowOf hr]

/-! ## The two maps in coordinates -/

/-- The advance of a pixel is floor(x / A) (R59). -/
theorem Scan.floorDiv_pixelX (a : Int) {rho u : Nat} (hu : u < g.m) : floorDiv (g.pixelX a rho u) g.adv = a := by
  have hlt := g.offset_lt hp (rho := rho) hu
  rw [floorDiv, Scan.pixelX, Int.add_comm, Int.add_mul_ediv_right _ _ (by omega),
    Int.ediv_eq_zero_of_lt (by omega) (by omega), Int.zero_add]

/-- R59's preamble, in coordinates. -/
theorem Scan.place_pixelX (a : Int) {rho u c v : Nat} (hrho : rho < g.rows) (hu : u < g.m) (hv : v < g.m) :
    g.place (g.pixelX a rho u) (c * g.m + v) = (a, rho, c, g.shotAt u v) := by
  have hoff : (g.pixelX a rho u - a * g.adv).toNat = (g.rows - 1 - rho) * g.m + u := by
    rw [Scan.pixelX]; omega
  obtain ⟨hrowq, hu'⟩ : ((g.rows - 1 - rho) * g.m + u) / g.m = g.rows - 1 - rho ∧
      ((g.rows - 1 - rho) * g.m + u) % g.m = u := mul_add_div_mod hu _
  obtain ⟨hc, hv'⟩ : (c * g.m + v) / g.m = c ∧ (c * g.m + v) % g.m = v := mul_add_div_mod hv c
  simp only [Scan.place, g.floorDiv_pixelX hp a hu, hoff, hrowq, hu', hc, hv', Scan.shotAt, Prod.mk.injEq, true_and,
    and_true]
  omega

/-- R59 in coordinates: pass j is listed when cycle a + j is one of the stripe's. -/
theorem Scan.beamShots_pixelX (dir ncyc : Nat) (a : Int) {rho u c v : Nat} (hrho : rho < g.rows) (hu : u < g.m)
    (hv : v < g.m) : g.beamShots dir ncyc (g.pixelX a rho u) (c * g.m + v) =
      (List.range g.np).filterMap fun (j : Nat) => if 0 ≤ a + j ∧ a + j ≤ (ncyc : Int) - 1 then
        some (g.passShot dir rho c (g.shotAt u v) (a + j).toNat j) else none := by
  simp only [Scan.beamShots, g.place_pixelX hp a hrho hu hv, Scan.passShot]

theorem Scan.mem_beamShots_pixelX {dir ncyc : Nat} {a : Int} {rho u c v : Nat} (hrho : rho < g.rows) (hu : u < g.m)
    (hv : v < g.m) (b : BeamShot) : b ∈ g.beamShots dir ncyc (g.pixelX a rho u) (c * g.m + v) ↔
      ∃ j k, j < g.np ∧ k < ncyc ∧ a = (k : Int) - j ∧ b = g.passShot dir rho c (g.shotAt u v) k j := by
  simp only [g.beamShots_pixelX hp dir ncyc a hrho hu hv, List.mem_filterMap, List.mem_range,
    Option.ite_none_right_eq_some, Option.some.injEq]
  constructor
  · rintro ⟨j, hj, ⟨hk0, hk⟩, rfl⟩
    exact ⟨j, (a + j).toNat, hj, by omega, by omega, rfl⟩
  · rintro ⟨j, k, hj, hk, rfl, rfl⟩
    exact ⟨j, hj, by omega, by rw [Int.sub_add_cancel, Int.toNat_natCast]⟩

/-- R60 in coordinates: the beam-shot of pass j in cycle k writes the pixel of advance k - j. -/
theorem Scan.pixelOf_passShot {dir rho c u v k j : Nat} (hrho : rho < g.rows) (hu : u < g.m) (hv : v < g.m)
    (hj : j < g.np) :
    let b := g.passShot dir rho c (g.shotAt u v) k j
    g.pixelOf dir b.shot b.row b.col = (g.pixelX ((k : Int) - j) rho u, c * g.m + v, j) := by
  have hrow := rowOf_rowOf (dir := dir) (g.leading_lt hp hrho hj)
  obtain ⟨hk, hs⟩ : (k * g.shots + g.shotAt u v) / g.shots = k ∧
      (k * g.shots + g.shotAt u v) % g.shots = g.shotAt u v :=
    mul_add_div_mod (g.shotAt_lt hu hv) k
  have hpass : (rho + j * g.rows) / g.rows = j := Nat.add_comm _ rho ▸ (mul_add_div_mod hrho j).1
  have hleft : ((g.rows - 1 - rho : Nat) : Int) = g.rows - 1 - rho := by omega
  have h512 : (511 : Int) = g.np * g.rows - 1 := by
    rw [← Int.natCast_mul, g.np_mul_rows hp]; rfl
  unfold rowOf at hrow
  simp only [Scan.pixelOf, Scan.passShot, rowOf, hk, hs, hrow, hpass, g.sub_shotAt hu, Scan.pixelX, g.adv_eq hp,
    Prod.mk.injEq, and_true]
  simp only [Int.natCast_add, Int.natCast_mul, hleft, h512, Int.sub_mul, Int.add_mul, Int.mul_assoc, Int.one_mul]
  omega

/-! ## The clauses of R61 -/

theorem Scan.mem_beamShots_pixelOf (hm : 0 < g.m) {dir ncyc shot r c : Nat} (hshot : shot < ncyc * g.shots)
    (hr : r < 512) (hc : c < 512) : let x := g.pixelOf dir shot r c
      (⟨x.2.2, shot, r, c⟩ : BeamShot) ∈ g.beamShots dir ncyc x.1 x.2.1 ∧ x.2.1 < g.side := by
  obtain ⟨rho, u, v, k, j, hrho, hu, hv, hk, hj, hb⟩ := g.exists_passShot_eq hp hm (dir := dir) (c := c) hshot hr
  have hpix := g.pixelOf_passShot hp (dir := dir) (c := c) (k := k) hrho hu hv hj
  simp only [← hb] at hpix
  simp only [hpix]
  refine ⟨(g.mem_beamShots_pixelX hp hrho hu hv _).2 ⟨j, k, hj, hk, rfl, hb⟩, ?_⟩
  have hcell : (c + 1) * g.m ≤ g.side := Nat.mul_le_mul_right g.m hc
  rw [Nat.succ_mul] at hcell; omega

theorem Scan.pixelOf_of_mem_beamShots (hm : 0 < g.m) {dir ncyc : Nat} {x : Int} {y : Nat} (hy : y < g.side)
    {b : BeamShot} (hb : b ∈ g.beamShots dir ncyc x y) : g.pixelOf dir b.shot b.row b.col = (x, y, b.pass) ∧
      b.row < 512 ∧ b.col < 512 ∧ b.shot < ncyc * g.shots := by
  obtain ⟨a, rho, u, hrho, hu, rfl⟩ := g.exists_pixelX_eq hp hm x
  obtain ⟨c, v, hc, hv, rfl⟩ := Scan.exists_column_eq hm hy
  obtain ⟨j, k, hj, hk, rfl, rfl⟩ := (g.mem_beamShots_pixelX hp hrho hu hv b).1 hb
  refine ⟨g.pixelOf_passShot hp hrho hu hv hj, rowOf_lt (g.leading_lt hp hrho hj), hc, ?_⟩
  have hcycle : (k + 1) * g.shots ≤ ncyc * g.shots := Nat.mul_le_mul_right _ hk
  have hs := g.shotAt_lt hu hv
  rw [Nat.succ_mul] at hcycle
  simp only [Scan.passShot]; omega

/-- A pixel of the body has its advance among the body's cycles, so that all P passes are cycles of the stripe. -/
theorem Scan.exists_beamShots_eq_map (hm : 0 < g.m) (dir : Nat) {n : Nat} {x : Int} {y : Nat} (h0 : 0 ≤ x)
    (hx : x < n * g.adv) (hy : y < g.side) : ∃ a rho c i, i < g.shots ∧
      g.beamShots dir (g.cycles n) x y = (List.range g.np).map fun j => g.passShot dir rho c i (a + j) j := by
  obtain ⟨a, rho, u, hrho, hu, rfl⟩ := g.exists_pixelX_eq hp hm x
  obtain ⟨c, v, hc, hv, rfl⟩ := Scan.exists_column_eq hm hy
  have hA : (0 : Int) < g.adv := Int.natCast_pos.2 (g.adv_pos hp hm)
  have ha0 : 0 ≤ a := g.floorDiv_pixelX hp a (rho := rho) hu ▸ Int.ediv_nonneg h0 (Int.le_of_lt hA)
  have han : a < n := g.floorDiv_pixelX hp a (rho := rho) hu ▸ Int.ediv_lt_of_lt_mul hA hx
  obtain ⟨a, rfl⟩ := Int.eq_ofNat_of_zero_le ha0
  refine ⟨a, rho, c, g.shotAt u v, g.shotAt_lt hu hv, ?_⟩
  rw [g.beamShots_pixelX hp dir _ _ hrho hu hv]
  refine filterMap_eq_map_of_eq_some fun j hj => ?_
  have hcyc : (0 : Int) ≤ a + j ∧ (a + j : Int) ≤ (g.cycles n : Int) - 1 := by
    have := List.mem_range.1 hj
    unfold Scan.cycles; omega
  rw [if_pos hcyc, ← Int.natCast_add, Int.toNat_natCast]

end

/-- Settles O17: every pixel and beam-shot has the coordinates of R59, in which each map undoes the other. -/
theorem scanMapsAreInverse : Obligations.ScanMapsAreInverse := by
  intro g dir n hm _ hp
  refine ⟨fun shot r c hshot hr hc => g.mem_beamShots_pixelOf hp hm hshot hr hc,
    fun x y hy b hb => g.pixelOf_of_mem_beamShots hp hm hy hb, fun x y h0 hx hy => ?_⟩
  obtain ⟨a, rho, c, i, hi, hmap⟩ := g.exists_beamShots_eq_map hp hm dir h0 hx hy
  refine ⟨by rw [hmap, List.length_map, List.length_range], a, rho, c, i, hi, fun j hj => ?_⟩
  rw [hmap, List.getElem?_map, List.getElem?_range hj, Option.map_some, Scan.passShot]

end Sys2Proof.Machine
end

section
/-! PROOFS. WIN_GAL and MSI-X (R519 to R522, R712): what a raised event and a poisoned read leave as they were, what a
refused access of WIN_GAL leaves behind, and how a sweep over the vectors sends what is pending. -/

namespace Sys2Proof.Machine
open Sys2Proof

/-! ## Bits -/

theorem bitOf_eq_testBit (v i : Nat) : bitOf v i = v.testBit i := by
  rw [bitOf, Nat.testBit_eq_decide_div_mod_eq]; rfl

/-- A set bit taken away leaves every other bit as it was. -/
theorem bitOf_sub_two_pow {p v : Nat} (h : bitOf p v = true) (j : Nat) :
    bitOf (p - 2 ^ v) j = (bitOf p j && j != v) := by
  have hodd : p / 2 ^ v % 2 = 1 := by simpa [bitOf] using h
  have hlt : p % 2 ^ v < 2 ^ v := Nat.mod_lt _ (Nat.two_pow_pos v)
  have hp : p = 2 ^ v * (p / 2 ^ v) + p % 2 ^ v := (Nat.div_add_mod p (2 ^ v)).symm
  generalize p / 2 ^ v = q at hodd hp
  generalize p % 2 ^ v = r at hlt hp
  have hsub : p - 2 ^ v = 2 ^ v * (q - 1) + r := by
    have := Nat.le_mul_of_pos_right (2 ^ v) (show 0 < q by omega)
    rw [hp, Nat.mul_sub_one]; omega
  rw [hsub, hp, bitOf_eq_testBit, bitOf_eq_testBit, Nat.testBit_two_pow_mul_add _ hlt, Nat.testBit_two_pow_mul_add _ hlt]
  rcases Nat.lt_trichotomy j v with hj | rfl | hj
  · simp [hj, Nat.ne_of_lt hj]
  · have heven : (q - 1) % 2 = 0 := by omega
    simp [Nat.testBit_zero, heven]
  · obtain ⟨i, hi⟩ : ∃ i, j - v = i + 1 := ⟨j - v - 1, by omega⟩
    have hhalf : (q - 1) / 2 = q / 2 := by omega
    simp [show ¬ j < v by omega, Nat.ne_of_gt hj, hi, Nat.testBit_succ, hhalf]

/-! ## Events -/

/-- An event changes nothing but the Watch's queues and register fields. -/
theorem State.enq_frame (s : State) (src kind addr : Nat) :
    (s.enq src kind addr).2 = { s with regs := (s.enq src kind addr).2.regs, watch := (s.enq src kind addr).2.watch } := by
  unfold State.enq
  dsimp only
  split <;> rfl

theorem State.wsrc_enq_ne (s : State) {src n : Nat} (kind addr : Nat) (h : n ≠ src) :
    (s.enq src kind addr).2.wsrc n = s.wsrc n := by
  unfold State.enq
  dsimp only
  split
  · exact s.wsrc_setWsrc_ne _ h
  · rfl

theorem State.enq_of_room (s : State) {src : Nat} (kind addr : Nat) (h : (s.wsrc src).queue.length < 16) :
    s.enq src kind addr =
      (true, s.setWsrc src { s.wsrc src with queue := (s.wsrc src).queue ++ [⟨kind, addr⟩] }) := if_pos h

/-- An event is not raised, is put into its source's queue, or finds it full and is followed by WCH_OVF. -/
theorem State.raise_cases (s : State) (src kind addr : Nat) :
    s.raise src kind addr = s ∨ s.raise src kind addr = (s.enq src (kind % 256) (addr % 2 ^ 48)).2 ∨
      s.raise src kind addr = ((s.enq src (kind % 256) (addr % 2 ^ 48)).2.enq 8 0 0).2 := by
  unfold State.raise
  split
  · exact .inl rfl
  · rcases hq : s.enq src (kind % 256) (addr % 2 ^ 48) with ⟨_ | _, s1⟩
    · exact .inr (.inr rfl)
    · exact .inr (.inl rfl)

theorem State.raise_frame (s : State) (src kind addr : Nat) : s.raise src kind addr =
    { s with regs := (s.raise src kind addr).regs, watch := (s.raise src kind addr).watch } := by
  rcases s.raise_cases src kind addr with h | h | h
  · rw [h]
  · rw [h]; exact s.enq_frame ..
  · rw [h, State.enq_frame, State.enq_frame s]

@[simp] theorem State.raise_mem (s : State) (src kind addr : Nat) : (s.raise src kind addr).mem = s.mem := by
  rw [s.raise_frame]

@[simp] theorem State.raise_out (s : State) (src kind addr : Nat) : (s.raise src kind addr).out = s.out := by
  rw [s.raise_frame]

/-- The queues of all sources but the event's own and WCH_OVF stand. -/
theorem State.wsrc_raise_ne (s : State) {src n : Nat} (kind addr : Nat) (h : n ≠ src) (h8 : n ≠ 8) :
    (s.raise src kind addr).wsrc n = s.wsrc n := by
  rcases s.raise_cases src kind addr with e | e | e
  · rw [e]
  · rw [e, s.wsrc_enq_ne _ _ h]
  · rw [e, State.wsrc_enq_ne _ _ _ h8, s.wsrc_enq_ne _ _ h]

/-- An event of a source whose queue has room stands last in it. -/
theorem State.raise_queue (s : State) {src kind : Nat} (addr : Nat) (hctrl : s.domUp .ctrl = true)
    (hsrc : s.srcOff src kind = false) (hroom : (s.wsrc src).queue.length < 16) :
    ((s.raise src kind addr).wsrc src).queue = (s.wsrc src).queue ++ [⟨kind % 256, addr % 2 ^ 48⟩] := by
  simp [State.raise, hctrl, hsrc, s.enq_of_room _ _ hroom]

/-! ## Domains and sources -/

/-- Whether a domain runs is read from its two PWR_DOM_STAT bits and PERST_N alone. -/
theorem State.domUp_congr {s t : State} (hon : t.get F.PWR_DOM_STAT_ON = s.get F.PWR_DOM_STAT_ON)
    (hrst : t.get F.PWR_DOM_STAT_RST = s.get F.PWR_DOM_STAT_RST) (hpins : t.pins = s.pins) (d : Dom) :
    t.domUp d = s.domUp d := by
  simp only [State.domUp, State.domLive, hon, hrst, hpins]

/-- GAL_WIN is a source of PD_HOST. -/
theorem State.srcOff_galWin {s : State} (hhost : s.domUp .host = true) : s.srcOff 0x15 0 = false := by
  simp [State.domUp, State.domLive] at hhost
  simp [State.srcOff, blockDoms, hhost]

/-! ## Refused accesses of WIN_GAL (R519, R520) -/

@[simp] theorem State.galRefuse_mem (s : State) : s.galRefuse.mem = s.mem := by simp [State.galRefuse]

@[simp] theorem State.galRefuse_out (s : State) : s.galRefuse.out = s.out := by simp [State.galRefuse]

theorem State.galRefuse_count (s : State) :
    s.galRefuse.get F.PRT_GAL_REFUSE = min (s.get F.PRT_GAL_REFUSE + 1) (2 ^ 32 - 1) := by
  rw [State.galRefuse, State.raise_get _ _ _ _ _ (by decide) (by decide) (by decide), State.get_inc]

theorem State.domUp_inc_PRT_GAL_REFUSE (s : State) (d : Dom) : (s.inc F.PRT_GAL_REFUSE).domUp d = s.domUp d :=
  State.domUp_congr (s.get_inc_ne (by decide)) (s.get_inc_ne (by decide)) rfl d

theorem State.galRefuse_queue {s : State} (hhost : s.domUp .host = true) (hctrl : s.domUp .ctrl = true)
    (hroom : (s.wsrc 0x15).queue.length < 16) :
    (s.galRefuse.wsrc 0x15).queue = (s.wsrc 0x15).queue ++ [⟨0, 0⟩] :=
  (s.inc F.PRT_GAL_REFUSE).raise_queue 0 ((s.domUp_inc_PRT_GAL_REFUSE .ctrl).trans hctrl)
    (State.srcOff_galWin ((s.domUp_inc_PRT_GAL_REFUSE .host).trans hhost)) hroom

/-! ## Reads that meet poison (R257, R716) -/

/-- A read that meets no poison answers the bytes and changes nothing. -/
theorem State.rdOr_of_clean {s : State} {src a n : Nat} (h : s.readsClean src a n = true) :
    s.rdOr src a n = (some (s.rd a n), s) := by
  obtain ⟨hp, hh⟩ : s.poisoned a n = none ∧ s.hurtIn src a n = none := by simpa [State.readsClean] using h
  simp only [State.rdOr, hp, hh]

/-- A read that meets poison answers none; the poisoned reads on their way are taken, and poison left standing is counted. -/
theorem State.rdOr_of_not_clean {s : State} {src a n : Nat} (h : s.readsClean src a n = false) :
    ∃ r, s.rdOr src a n = (none, r) ∧ (r = s.taken src a n ∨ ∃ p, r = (s.taken src a n).poisonHit src p) := by
  unfold State.rdOr
  rcases hp : s.poisoned a n with _ | p
  · rcases hh : s.hurtIn src a n with _ | q
    · simp [State.readsClean, hp, hh] at h
    · exact ⟨_, rfl, .inl rfl⟩
  · exact ⟨_, rfl, .inr ⟨p, rfl⟩⟩

/-- The fields that a poisoned read of a source can change. -/
def poisonFlds : List Fld :=
  [F.MEM_POISON, F.MEM_POISON_ADDR, F.MEM_POISON_ADDR_SRC, F.WCH_LOST, F.WCH_SRC_STAT_OVF 0x30, F.WCH_SRC_STAT_OVF 8]

theorem State.poisonHit_frame (s : State) (src a : Nat) : s.poisonHit src a =
    { s with regs := (s.poisonHit src a).regs, watch := (s.poisonHit src a).watch } := by
  unfold State.poisonHit
  split
  · rfl
  · rw [State.raise_frame]; rfl

theorem State.poisonHit_keepsFields (s : State) (src a : Nat) : KeepsFields poisonFlds s (s.poisonHit src a) := by
  intro g hg
  simp only [poisonFlds, List.forall_mem_cons] at hg
  obtain ⟨hcount, haddr, hsrc, hlost, hovf, hovf8, -⟩ := hg
  unfold State.poisonHit
  split
  · rfl
  · rw [State.raise_get _ _ _ _ _ hlost hovf hovf8, State.get_set_ne _ _ hsrc, State.get_set_ne _ _ haddr,
      State.get_inc_ne _ hcount]

theorem State.wsrc_poisonHit_ne (s : State) (src a : Nat) {n : Nat} (h : n ≠ 0x30) (h8 : n ≠ 8) :
    (s.poisonHit src a).wsrc n = s.wsrc n := by
  unfold State.poisonHit
  split
  · rfl
  · exact State.wsrc_raise_ne _ _ _ h h8

/-- What a read that meets poison leaves as it was: the bytes of HBM, the pins and the output record, every field but those
of poison, and every Watch queue but those of HBM_POISON and WCH_OVF. -/
structure PoisonRead (s r : State) : Prop where
  hbm : KeepsHbm s r
  pins : r.pins = s.pins
  out : r.out = s.out
  flds : KeepsFields poisonFlds s r
  wsrc : ∀ n, n ≠ 0x30 → n ≠ 8 → r.wsrc n = s.wsrc n

theorem State.taken_poisonRead (s : State) (src a n : Nat) : PoisonRead s (s.taken src a n) :=
  ⟨fun _ => rfl, rfl, rfl, fun _ _ => rfl, fun _ _ _ => rfl⟩

theorem State.poisonHit_poisonRead (s : State) (src a n p : Nat) : PoisonRead s ((s.taken src a n).poisonHit src p) where
  hbm _ := by rw [State.poisonHit_mem]; rfl
  pins := by rw [State.poisonHit_frame]; rfl
  out := by rw [State.poisonHit_frame]; rfl
  flds := State.poisonHit_keepsFields _ _ _
  wsrc _ h h8 := State.wsrc_poisonHit_ne _ _ _ h h8

theorem State.rdOr_poisonRead {s : State} {src a n : Nat} (h : s.readsClean src a n = false) :
    ∃ r, s.rdOr src a n = (none, r) ∧ PoisonRead s r := by
  obtain ⟨r, hr, rfl | ⟨p, rfl⟩⟩ := State.rdOr_of_not_clean h
  · exact ⟨_, hr, s.taken_poisonRead ..⟩
  · exact ⟨_, hr, s.poisonHit_poisonRead ..⟩

theorem PoisonRead.domUp {s r : State} (h : PoisonRead s r) (d : Dom) : r.domUp d = s.domUp d :=
  State.domUp_congr (h.flds _ (by decide)) (h.flds _ (by decide)) h.pins d

/-! ## The commands of WIN_GAL -/

theorem exec_winGalRead_clean {s : State} (t : Nat) {off len : Nat} (hhost : s.domUp .host = true)
    (hmem : s.memUp = true) (hden : s.galDenied (s.galAddr off) len = false)
    (hclean : s.readsClean 5 (s.galAddr off) len = true) :
    exec (.winGalRead t off len) s = .next ((s.at t).emit (.galRd (some (s.rd (s.galAddr off) len)))) := by
  have hrd : (s.at t).rdOr 5 ((s.at t).galAddr off) len = (some (s.rd (s.galAddr off) len), s.at t) :=
    State.rdOr_of_clean hclean
  have hden' : (s.at t).galDenied ((s.at t).galAddr off) len = false := hden
  show execWinGalRead t off len s = _
  simp [execWinGalRead, hhost, hmem, hden', hrd]

theorem exec_winGalRead_denied {s : State} (t : Nat) {off len : Nat} (hhost : s.domUp .host = true)
    (hden : s.galDenied (s.galAddr off) len = true) :
    exec (.winGalRead t off len) s = .next ((s.at t).galRefuse.emit (.galRd none)) := by
  have hden' : (s.at t).galDenied ((s.at t).galAddr off) len = true := hden
  show execWinGalRead t off len s = _
  simp [execWinGalRead, hhost, hden']

theorem exec_winGalRead_poisoned {s : State} (t : Nat) {off len : Nat} (hhost : s.domUp .host = true)
    (hmem : s.memUp = true) (hden : s.galDenied (s.galAddr off) len = false)
    (hclean : s.readsClean 5 (s.galAddr off) len = false) :
    ∃ r, PoisonRead (s.at t) r ∧ exec (.winGalRead t off len) s = .next (r.galRefuse.emit (.galRd none)) := by
  have hclean' : (s.at t).readsClean 5 ((s.at t).galAddr off) len = false := hclean
  have hden' : (s.at t).galDenied ((s.at t).galAddr off) len = false := hden
  obtain ⟨r, hr, hkeeps⟩ := State.rdOr_poisonRead hclean'
  refine ⟨r, hkeeps, ?_⟩
  show execWinGalRead t off len s = _
  simp [execWinGalRead, hhost, hmem, hden', hr]

theorem exec_winGalWrite {s : State} (t off len : Nat) (hhost : s.domUp .host = true) :
    exec (.winGalWrite t off len) s = .next (s.at t).galRefuse := by
  show execWinGalWrite t off len s = _
  simp [execWinGalWrite, hhost]

/-- Of the checks of R519: the window closed, the Copy buffer without its debug scope, an end above the stack. -/
theorem State.galDenied_of {s : State} {a n : Nat}
    (h : s.get F.PRT_GAL_WIN_EN = 0 ∨ (a < s.copyTop ∧ s.scope 2 = false) ∨ hbmTop < a + n) : s.galDenied a n = true := by
  rcases h with h | ⟨hlt, hscope⟩ | h
  · simp [State.galDenied, State.flag, h]
  · simp [State.galDenied, hlt, hscope]
  · simp [State.galDenied, h]

/-! ## Cause bits (R521, R522) -/

theorem State.onlyFields_set (s : State) (f : Fld) (v : Nat) : OnlyFields [f] s (s.set f v) :=
  ⟨rfl, fun _ hg => s.get_set_ne v (hg f (List.mem_singleton.2 rfl))⟩

theorem exec_irqStatusClear {s : State} (m : Fin 9) (hi : Bool) (v : BitVec 32) (hhost : s.domUp .host = true) :
    exec (.irqStatusClear m hi v) s = .next (s.irqClear hi v.toNat) := by
  have hdom : domOf (F.PRT_IRQ_STAT.off + 4 * b2n hi) = .host := by cases hi <;> decide
  show execIrqStatusClear m hi v s = _
  rw [execIrqStatusClear, State.regOp, hdom, if_pos hhost]

/-- A word written clears the cause bits at which it holds 1. -/
theorem State.bitOf_irqClear (s : State) (hi : Bool) {v k : Nat} (hv : v < 2 ^ 32) (hk : k < 40) :
    bitOf ((s.irqClear hi v).get F.PRT_IRQ_STAT) k =
      (bitOf (s.get F.PRT_IRQ_STAT) k && !(k / 32 == b2n hi && bitOf v (k % 32))) := by
  rw [State.irqClear, State.get_set_same]
  simp only [bitOf_eq_testBit, Nat.testBit_mod_two_pow, Nat.testBit_and, Nat.testBit_xor, Nat.testBit_two_pow_sub_one,
    Nat.testBit_mul_two_pow]
  rcases Nat.lt_or_ge k 32 with hlow | hhigh
  · cases hi <;> simp [b2n, hk, show k < 64 by omega, Nat.div_eq_of_lt hlow, Nat.mod_eq_of_lt hlow, hlow]
  · have hdiv : k / 32 = 1 := by omega
    have hmod : k % 32 = k - 32 := by omega
    have hbit : v.testBit k = false :=
      Nat.testBit_lt_two_pow (Nat.lt_of_lt_of_le hv (Nat.pow_le_pow_right (by omega) hhigh))
    cases hi <;> simp [b2n, hk, show k < 64 by omega, hdiv, hmod, hbit, hhigh]

/-! ## Pending messages (R522) -/

/-- The step of msixFlush at one vector. -/
def State.msixOffer (s : State) (v : Nat) : State :=
  if bitOf s.msix.pba v && !s.msix.masked v then
    { s with msix := { s.msix with pba := s.msix.pba - 2 ^ v } }.emit (.msix v)
  else s

theorem State.msixFlush_eq_foldl (s : State) : s.msixFlush = (List.range 64).foldl State.msixOffer s := rfl

/-- Nothing changes but the pending bits and the output record, which keeps what it lists. -/
def PbaOnly (s t : State) : Prop :=
  t = { s with msix := { s.msix with pba := t.msix.pba }, out := t.out } ∧ s.out ⊆ t.out

theorem PbaOnly.trans {s t u : State} (h : PbaOnly s t) (k : PbaOnly t u) : PbaOnly s u :=
  ⟨by rw [k.1, h.1], List.Subset.trans h.2 k.2⟩

theorem PbaOnly.masked {s t : State} (h : PbaOnly s t) (v : Nat) : t.msix.masked v = s.msix.masked v := by
  rw [h.1]; rfl

theorem State.msixOffer_pbaOnly (s : State) (v : Nat) : PbaOnly s (s.msixOffer v) := by
  unfold State.msixOffer
  split
  · exact ⟨rfl, List.subset_append_left _ _⟩
  · exact ⟨rfl, List.Subset.refl _⟩

theorem State.foldl_msixOffer_pbaOnly (l : List Nat) (s : State) : PbaOnly s (l.foldl State.msixOffer s) := by
  induction l generalizing s with
  | nil => exact ⟨rfl, List.Subset.refl _⟩
  | cons v l ih => exact (s.msixOffer_pbaOnly v).trans (ih _)

/-- A pending bit stays but where its own vector is offered unmasked. -/
theorem State.bitOf_pba_msixOffer (s : State) (v j : Nat) :
    bitOf (s.msixOffer v).msix.pba j = (bitOf s.msix.pba j && (j != v || s.msix.masked v)) := by
  unfold State.msixOffer
  split
  · next h =>
    obtain ⟨hbit, hmask⟩ : bitOf s.msix.pba v = true ∧ s.msix.masked v = false := by simpa using h
    rw [State.emit_msix, bitOf_sub_two_pow hbit, hmask, Bool.or_false]
  · next h =>
    by_cases hj : j = v
    · subst hj; cases hb : bitOf s.msix.pba j <;> simp_all
    · simp [hj]

/-- A bit that is not pending is not made pending. -/
theorem State.bitOf_pba_foldl_msixOffer (l : List Nat) {s : State} {k : Nat} (h : bitOf s.msix.pba k = false) :
    bitOf (l.foldl State.msixOffer s).msix.pba k = false := by
  induction l generalizing s with
  | nil => exact h
  | cons v l ih => exact ih (by rw [State.bitOf_pba_msixOffer, h, Bool.false_and])

/-- A sweep that comes to a pending vector, not masked, sends its message and clears its bit. -/
theorem State.foldl_msixOffer_sends {l : List Nat} {k : Nat} (hk : k ∈ l) {s : State}
    (hmask : s.msix.masked k = false) (hbit : bitOf s.msix.pba k = true) :
    bitOf (l.foldl State.msixOffer s).msix.pba k = false ∧ Tx.msix k ∈ (l.foldl State.msixOffer s).out := by
  induction l generalizing s with
  | nil => cases hk
  | cons v l ih =>
    by_cases hv : k = v
    · subst hv
      have hsent : Tx.msix k ∈ (s.msixOffer k).out := by simp [State.msixOffer, hbit, hmask]
      exact ⟨State.bitOf_pba_foldl_msixOffer l (by simp [State.bitOf_pba_msixOffer, hmask]),
        (State.foldl_msixOffer_pbaOnly l _).2 hsent⟩
    · refine ih (List.mem_of_ne_of_mem hv hk) (((s.msixOffer_pbaOnly v).masked k).trans hmask) ?_
      rw [State.bitOf_pba_msixOffer, hbit]
      simp [hv]

/-- A sweep in which every vector is masked changes nothing. -/
theorem State.foldl_msixOffer_masked (l : List Nat) {s : State} (h : ∀ v, s.msix.masked v = true) :
    l.foldl State.msixOffer s = s := by
  induction l with
  | nil => rfl
  | cons v l ih => simpa [State.msixOffer, h v] using ih

/-! ## Vector control words (R522) -/

/-- The state with the vector control word of vector k written, before the sweep. -/
def State.putVecCtl (s : State) (k v : Nat) : State :=
  { s with msix := { s.msix with tbl := s.msix.tbl.put (4 * k + 3) (v % 2) } }

theorem State.word_putVecCtl (s : State) (k v : Nat) : (s.putVecCtl k v).msix.word (4 * k + 3) = v % 2 :=
  SMap.get_put_same _ _ _ _

theorem exec_msixUnmask_vecCtl {s : State} (m : Fin 9) {k : Nat} (v : BitVec 32) (hhost : s.domUp .host = true)
    (hk : k < 64) : exec (.msixUnmask m (16 * k + 12) v) s = .next (s.putVecCtl k v.toNat).msixFlush := by
  have hoff : 16 * k + 12 < 1024 := by omega
  have hword : (16 * k + 12) / 4 = 4 * k + 3 := by omega
  have hmod : (4 * k + 3) % 4 = 3 := by omega
  show execMsixUnmask m (16 * k + 12) v s = _
  rw [execMsixUnmask, if_pos hhost, State.msixWrite, if_pos hoff, hword, if_pos hmod, State.putVecCtl]

theorem State.putVecCtl_flush (s : State) (k v : Nat) : (s.putVecCtl k v).msixFlush =
    { s with msix := (s.putVecCtl k v).msixFlush.msix, out := (s.putVecCtl k v).msixFlush.out } := by
  rw [State.msixFlush_eq_foldl, (State.foldl_msixOffer_pbaOnly _ (s.putVecCtl k v)).1]
  rfl

theorem State.putVecCtl_flush_sends {s : State} {k : Nat} (hk : k < 64) (hen : s.msix.enable = true)
    (hfm : s.msix.fmask = false) (hbit : bitOf s.msix.pba k = true) :
    bitOf (s.putVecCtl k 0).msixFlush.msix.pba k = false ∧ Tx.msix k ∈ (s.putVecCtl k 0).msixFlush.out := by
  have hmask : (s.putVecCtl k 0).msix.masked k = false := by
    rw [MsixSt.masked, State.word_putVecCtl]
    simp [State.putVecCtl, hen, hfm, bitOf]
  exact State.foldl_msixOffer_sends (List.mem_range.2 hk) hmask hbit

theorem State.putVecCtl_flush_disabled {s : State} (k v : Nat) (hen : s.msix.enable = false) :
    (s.putVecCtl k v).msixFlush = s.putVecCtl k v :=
  State.foldl_msixOffer_masked _ fun w => by simp [MsixSt.masked, State.putVecCtl, hen]

/-- Settles O29: WIN_GAL answers clean reads and counts and raises the rest (R519, R520, R712); a cause bit falls to a 1
written, and a vector unmasked sends its pending message (R522). -/
theorem galleyWindowAndMessages : Obligations.GalleyWindowAndMessages := by
  refine ⟨fun s t off len hhost hmem hden hclean => ?_, fun s t off len hhost hden => ?_,
    fun s t off len hhost hmem hden hclean => ?_, fun s a n h => State.galDenied_of h, fun s t off len hhost => ?_,
    fun s m hi v hhost => ?_, fun s m k hhost hk hen hfm hbit => ?_, fun s m k v hhost hk hodd hen => ?_⟩
  · exact ⟨_, exec_winGalRead_clean t hhost hmem hden hclean, rfl, rfl⟩
  · exact ⟨_, exec_winGalRead_denied t hhost hden, by simp, by simp, (s.at t).galRefuse_count,
      (s.at t).galRefuse_queue hhost⟩
  · obtain ⟨r, hr, hexec⟩ := exec_winGalRead_poisoned t hhost hmem hden hclean
    refine ⟨_, hexec, by simp [hr.out], by simpa [KeepsHbm] using hr.hbm, ?_, fun hctrl hroom => ?_⟩
    · exact r.galRefuse_count.trans (by rw [hr.flds _ (by decide)]; rfl)
    · have hq : r.wsrc 0x15 = s.wsrc 0x15 := hr.wsrc _ (by decide) (by decide)
      rw [← hq] at hroom ⊢
      exact State.galRefuse_queue ((hr.domUp .host).trans hhost) ((hr.domUp .ctrl).trans hctrl) hroom
  · exact ⟨_, exec_winGalWrite t off len hhost, by simp, by simp, (s.at t).galRefuse_count,
      (s.at t).galRefuse_queue hhost⟩
  · exact ⟨_, exec_irqStatusClear m hi v hhost, s.onlyFields_set _ _, fun k hk => s.bitOf_irqClear hi v.isLt hk⟩
  · obtain ⟨hcleared, hsent⟩ := State.putVecCtl_flush_sends hk hen hfm hbit
    exact ⟨_, exec_msixUnmask_vecCtl m 0 hhost hk, hcleared, hsent, s.putVecCtl_flush k 0⟩
  · have hflush := State.putVecCtl_flush_disabled k v.toNat hen
    refine ⟨_, exec_msixUnmask_vecCtl m v hhost hk, ?_⟩
    rw [hflush]
    exact ⟨(s.word_putVecCtl k v.toNat).trans hodd, rfl, rfl, rfl⟩

end Sys2Proof.Machine
end

section
/-! PROOFS. Acknowledged and cleared sources and the Daybook's records (R593, R594, R603, R611 to R616): what a record
written changes, what a cleared source holds, and what the end of a pin's condition leaves as it was. -/

namespace Sys2Proof
open Machine

/-! ## Fields kept -/

theorem KeepsFields.trans {l k : List Fld} {s t u : State} (h : KeepsFields l s t) (h' : KeepsFields k t u) :
    KeepsFields (l ++ k) s u := fun f hf =>
  (h' f fun g hg => hf g (List.mem_append_right l hg)).trans (h f fun g hg => hf g (List.mem_append_left k hg))

theorem KeepsFields.mono {l k : List Fld} {s t : State} (h : KeepsFields l s t) (hlk : l ⊆ k) : KeepsFields k s t :=
  fun f hf => h f fun g hg => hf g (hlk hg)

theorem KeepsFields.set (s : State) (f : Fld) (v : Nat) : KeepsFields [f] s (s.set f v) := (s.onlyFields_set f v).2

theorem KeepsFields.get_ne {f g : Fld} {s t : State} (h : KeepsFields [f] s t) (hne : g.bit ≠ f.bit) :
    t.get g = s.get g := h g fun _ hg => List.mem_singleton.1 hg ▸ hne

/-- Whether PD_CTRL is up is read from PWR_DOM_STAT alone, so a change of fields above it leaves PD_CTRL up. -/
theorem KeepsFields.domUp_ctrl {l : List Fld} {s t : State} (h : KeepsFields l s t)
    (hl : ∀ g ∈ l, F.PWR_DOM_STAT_RST.bit < g.bit) (hctrl : s.domUp .ctrl = true) : t.domUp .ctrl = true := by
  have hon : t.get F.PWR_DOM_STAT_ON = s.get F.PWR_DOM_STAT_ON :=
    h _ fun g hg => Nat.ne_of_lt (Nat.lt_trans (by decide) (hl g hg))
  have hrst : t.get F.PWR_DOM_STAT_RST = s.get F.PWR_DOM_STAT_RST := h _ fun g hg => Nat.ne_of_lt (hl g hg)
  simpa [State.domUp, State.domLive, hon, hrst] using hctrl

end Sys2Proof

namespace Sys2Proof.Machine
open Sys2Proof

/-! ## Register writes in PD_CTRL -/

theorem State.regOp_of_up {s : State} (m : Fin 9) {off : Nat} (f : State → State) (h : s.domUp (domOf off) = true) :
    s.regOp m off f = f s := if_pos h

theorem domOf_WCH_SRC_STAT (src : Fin 128) : domOf (F.WCH_SRC_STAT_SEVERE src).off = .ctrl := by
  have hword : (0x108040 + 256 * src.val) / 32 * 4 = 0x21008 + 32 * src.val := by omega
  have hpage : (0x21008 + 32 * src.val) / 0x10000 = 2 := by omega
  simp only [Fld.off, hword, domOf, hpage]
  exact if_neg (by simp; omega)

theorem domOf_DBK_WR_GO (j : Fin 8) : domOf (F.DBK_WR_GO_GO j).off = .ctrl := by
  have hpage : (0x180880 + 256 * j.val) / 32 * 4 / 0x10000 = 3 := by omega
  simp only [Fld.off, domOf, hpage]

theorem exec_sourceAck {s : State} (m : Fin 9) (src : Fin 128) (hctrl : s.domUp .ctrl = true) :
    exec (.sourceAck m src) s = .next (s.ack src) :=
  congrArg Host.Outcome.next (State.regOp_of_up m (State.ack · src) hctrl)

theorem exec_sourceClear {s : State} (m : Fin 9) (src : Fin 128) (hctrl : s.domUp .ctrl = true) :
    exec (.sourceClear m src) s = .next (s.clearSrc src) :=
  congrArg Host.Outcome.next (State.regOp_of_up m (State.clearSrc · src) (by rw [domOf_WCH_SRC_STAT, hctrl]))

theorem exec_dbkGo {s : State} (m : Fin 9) (j : Fin 8) (hctrl : s.domUp .ctrl = true) :
    exec (.dbkGo m j) s = .next (if m = 0 then s else s.dbkGo j) :=
  congrArg Host.Outcome.next
    (State.regOp_of_up m (fun s => if m = 0 then s else s.dbkGo j) (by rw [domOf_DBK_WR_GO, hctrl]))

/-! ## Stopping an escalation timer (R603) -/

theorem State.ack_frame (s : State) (src : Nat) :
    s.ack src = { s with watch := { s.watch with src := (s.ack src).watch.src } } := by
  unfold State.ack
  dsimp only
  split <;> rfl

theorem State.wsrc_ack (s : State) (src : Nat) : ((s.ack src).wsrc src).deadline = none := by
  unfold State.ack
  dsimp only
  split
  · rw [State.wsrc_setWsrc]
  · next h => simpa using h

theorem State.wsrc_ack_ne (s : State) {src k : Nat} (h : k ≠ src) : (s.ack src).wsrc k = s.wsrc k := by
  unfold State.ack
  dsimp only
  split
  · exact s.wsrc_setWsrc_ne _ h
  · rfl

/-! ## Records of the Daybook (R611 to R616) -/

theorem State.dbkSram_frame (s : State) (slot : Nat) : s.dbkSram slot = { s with sram := (s.dbkSram slot).sram } := by
  unfold State.dbkSram
  dsimp only
  split <;> rfl

@[simp] theorem State.dbkSram_dbk (s : State) (slot : Nat) : (s.dbkSram slot).dbk = s.dbk := by rw [s.dbkSram_frame]
@[simp] theorem State.dbkSram_watch (s : State) (slot : Nat) : (s.dbkSram slot).watch = s.watch := by
  rw [s.dbkSram_frame]
@[simp] theorem State.dbkSram_mem (s : State) (slot : Nat) : (s.dbkSram slot).mem = s.mem := by rw [s.dbkSram_frame]

/-- One record stands in the slot of its SEQ, and neither the Watch, HBM nor any field but DBK_SEQ has changed. -/
structure Recorded (s u : State) (code source a0 a1 a2 : Nat) : Prop where
  seq : u.get F.DBK_SEQ = (s.get F.DBK_SEQ + 1) % 2 ^ 32
  slot : ∃ r : DRec, u.dbk.slots.lookup (u.get F.DBK_SEQ % 4096) = some r ∧ r.seq = u.get F.DBK_SEQ ∧
    r.code = code % 2 ^ 16 ∧ r.source = source % 256 ∧ r.arg0 = a0 % 2 ^ 32 ∧ r.arg1 = a1 % 2 ^ 32 ∧
    r.arg2 = a2 % 2 ^ 32
  flds : KeepsFields [F.DBK_SEQ] s u
  watch : u.watch = s.watch
  mem : u.mem = s.mem

theorem Recorded.wsrc {s u : State} {code source a0 a1 a2 : Nat} (h : Recorded s u code source a0 a1 a2) (n : Nat) :
    u.wsrc n = s.wsrc n := by rw [State.wsrc, State.wsrc, h.watch]

/-- A record put, whatever the rate limits have counted of its code. -/
theorem State.dbkPut_recorded (s : State) (rates : SMap DRate) (code source supp time a0 a1 a2 : Nat) :
    Recorded s (({ s with dbk := { s.dbk with rates := rates } } : State).dbkPut code source supp time a0 a1 a2)
      code source a0 a1 a2 := by
  have hseq : (({ s with dbk := { s.dbk with rates := rates } } : State).dbkPut code source supp time a0 a1 a2).get
      F.DBK_SEQ = (s.get F.DBK_SEQ + 1) % 2 ^ 32 := (State.get_set_same _ _ _).trans (Nat.mod_mod _ _)
  refine ⟨hseq, ?_, fun g hg => ?_, State.dbkSram_watch _ _, State.dbkSram_mem _ _⟩
  · rw [hseq]
    simp only [State.dbkPut, State.set_dbk, State.dbkSram_dbk, SMap.lookup_put]
    exact ⟨_, if_pos rfl, rfl, rfl, rfl, rfl, rfl, rfl⟩
  · exact (State.get_set_ne _ _ (hg _ List.mem_cons_self)).trans (State.dbkSram_get _ _ _)

/-- A code that is always written, or any code without a rate limit, is recorded (R615). -/
theorem State.dbkNow_recorded {s : State} {code : Nat} (source a0 a1 a2 : Nat) (hctrl : s.domUp .ctrl = true)
    (h : dbkForced code = true ∨ s.get F.DBK_RATE_N = 0) :
    Recorded s (s.dbkNow code source a0 a1 a2) code source a0 a1 a2 := by
  have hwritten (count : Nat) :
      (dbkForced code || s.get F.DBK_RATE_N == 0 || decide (count < s.get F.DBK_RATE_N)) = true := by
    rcases h with h | h <;> simp [h]
  simp only [State.dbkNow, State.dbkRec, hctrl, hwritten]
  exact s.dbkPut_recorded ..

/-! ## Clearing a source (R594) -/

/-- The state with a source QUIET, before its clear is recorded. -/
def State.quietSrc (s : State) (src : Nat) : State :=
  ((((s.setWsrc src { s.wsrc src with wopen := false, deadline := none, applied := 0 }).setSevere src false).set
    (F.WCH_SRC_STAT_ESCALATED src) 0).set (F.WCH_SRC_STAT_CAUSE_GONE src) 0).set (F.WCH_SRC_STAT_WCOUNT src) 0

/-- A refusal is shown and recorded. -/
theorem State.clearSrc_of_causeOn {s : State} {src : Nat} (h : s.causeOn src = true) :
    s.clearSrc src = (s.set (F.WCH_SRC_STAT_CLEAR_REFUSED src) 1).dbkNow 2 src (src + 256) 0 0 := if_pos h

theorem State.clearSrc_of_causeOff {s : State} {src : Nat} (h : s.causeOn src = false) :
    s.clearSrc src = (s.quietSrc src).dbkNow 2 src src 0 0 := if_neg (by rw [h]; decide)

/-- The fields that a source made QUIET can change. -/
def quietFlds (src : Nat) : List Fld :=
  [F.WCH_SRC_STAT_SEVERE src, F.WCH_SEVERE (src / 32), F.WCH_SRC_STAT_ESCALATED src, F.WCH_SRC_STAT_CAUSE_GONE src,
    F.WCH_SRC_STAT_WCOUNT src]

theorem State.quietSrc_keepsFields (s : State) (src : Nat) : KeepsFields (quietFlds src) s (s.quietSrc src) :=
  ((((KeepsFields.set (s.setWsrc _ _) _ _).trans (.set _ _ _)).trans (.set _ _ _)).trans (.set _ _ _)).trans (.set _ _ _)

theorem State.wsrc_quietSrc (s : State) (src : Nat) :
    (s.quietSrc src).wsrc src = { s.wsrc src with wopen := false, deadline := none, applied := 0 } :=
  s.wsrc_setWsrc _ _

theorem State.quietSrc_get (s : State) (src : Nat) :
    (s.quietSrc src).get (F.WCH_SRC_STAT_SEVERE src) = 0 ∧ (s.quietSrc src).get (F.WCH_SRC_STAT_ESCALATED src) = 0 ∧
      (s.quietSrc src).get (F.WCH_SRC_STAT_CAUSE_GONE src) = 0 ∧
      (s.quietSrc src).get (F.WCH_SRC_STAT_WCOUNT src) = 0 := by
  have hsev : 0x108040 + 256 * src ≠ 0x100080 + 32 * (src / 32) := by omega
  simp [State.quietSrc, State.setSevere, State.setB, b2n, State.get_set_ne, hsev]

/-! ## The end of a pin's condition (R593, R670) -/

theorem State.bypass_mem (s : State) : s.bypass.mem = s.mem := by
  simp only [State.bypass, State.oweDisc]
  (repeat' split) <;> rfl

theorem State.bypass_keepsFields (s : State) : KeepsFields [F.KOR_STAT_IN_RING] s s.bypass := by
  simp only [State.bypass, State.oweDisc]
  (repeat' split) <;> exact .set s _ _

theorem State.pinEnd_mem (s : State) (src : Nat) : (s.pinEnd src).mem = s.mem := by
  unfold State.pinEnd
  split
  case h_1 | h_2 => exact State.bypass_mem _
  all_goals rfl

theorem State.pinEnd_keepsFields (s : State) (src : Nat) : KeepsFields [F.KOR_STAT_IN_RING] s (s.pinEnd src) := by
  unfold State.pinEnd
  split
  case h_1 | h_2 => exact State.bypass_keepsFields _
  all_goals exact fun _ _ => rfl

/-- Only the ring's PLL and REFCLK, sources 2 and 3, move the bypass. -/
theorem State.pinEnd_regs (s : State) {src : Nat} (h2 : src ≠ 2) (h3 : src ≠ 3) : (s.pinEnd src).regs = s.regs := by
  unfold State.pinEnd
  split
  case h_1 | h_2 => contradiction
  all_goals rfl

theorem exec_causeGone {s : State} (t : Nat) {src : Fin 128} (hctrl : s.domUp .ctrl = true)
    (hsev : s.severe src = true) (hgone : ((s.at t).pinEnd src).causeOn src = false) :
    exec (.causeGone t src) s = .next (((s.at t).pinEnd src).set (F.WCH_SRC_STAT_CAUSE_GONE src) 1) := by
  have hkeeps := (s.at t).pinEnd_keepsFields src
  have hctrl' : ((s.at t).pinEnd src).domUp .ctrl = true := hkeeps.domUp_ctrl (by decide) hctrl
  have hsev' : ((s.at t).pinEnd src).severe src = true := by
    rw [State.severe, State.flag, hkeeps.get_ne (by dsimp only; omega)]
    exact hsev
  show execCauseGone t src s = _
  simp [execCauseGone, hctrl', hsev', hgone]

/-! ## The clauses -/

theorem exec_sourceClear_refused {s : State} (m : Fin 9) {src : Fin 128} (hctrl : s.domUp .ctrl = true)
    (hon : s.causeOn src = true) : ∃ u, exec (.sourceClear m src) s = .next u ∧
      Recorded (s.set (F.WCH_SRC_STAT_CLEAR_REFUSED src) 1) u 2 src (src + 256) 0 0 := by
  rw [exec_sourceClear m src hctrl, State.clearSrc_of_causeOn hon]
  exact ⟨_, rfl, State.dbkNow_recorded _ _ _ _ ((KeepsFields.set _ _ _).domUp_ctrl (by simp; omega) hctrl) (.inl rfl)⟩

theorem exec_sourceClear_quiet {s : State} (m : Fin 9) {src : Fin 128} (hctrl : s.domUp .ctrl = true)
    (hoff : s.causeOn src = false) : ∃ u, exec (.sourceClear m src) s = .next u ∧
      Recorded (s.quietSrc src) u 2 src src 0 0 := by
  rw [exec_sourceClear m src hctrl, State.clearSrc_of_causeOff hoff]
  exact ⟨_, rfl, State.dbkNow_recorded _ _ _ _
    ((s.quietSrc_keepsFields src).domUp_ctrl (by simp [quietFlds]; omega) hctrl) (.inl rfl)⟩

theorem exec_dbkGo_recorded {s : State} {m : Fin 9} {j : Fin 8} (hctrl : s.domUp .ctrl = true) (hm : m ≠ 0)
    (hcode : 0x8000 ≤ s.get (F.DBK_WR_CODE_CODE j)) (hrate : s.get F.DBK_RATE_N = 0) :
    ∃ u, exec (.dbkGo m j) s = .next u ∧ Recorded s u (s.get (F.DBK_WR_CODE_CODE j)) (0x80 + j)
      (s.get (F.DBK_WR_ARG j 0)) (s.get (F.DBK_WR_ARG j 1)) (s.get (F.DBK_WR_ARG j 2)) := by
  rw [exec_dbkGo m j hctrl, if_neg hm, State.dbkGo, if_neg (Nat.not_lt.2 hcode)]
  exact ⟨_, rfl, State.dbkNow_recorded _ _ _ _ hctrl (.inr hrate)⟩

theorem exec_dbkGo_ignored {s : State} {m : Fin 9} {j : Fin 8} (hctrl : s.domUp .ctrl = true)
    (h : m = 0 ∨ s.get (F.DBK_WR_CODE_CODE j) < 0x8000) : exec (.dbkGo m j) s = .next s := by
  rw [exec_dbkGo m j hctrl]
  rcases h with rfl | hcode
  · rfl
  · rw [State.dbkGo, if_pos hcode, ite_self]

/-- Settles O5: an acknowledge touches its source's timer alone, a clear leaves its record whether refused or not, and the
end of a cause moves no field of a pin but the bypass of the ring (R593, R594, R603, R616). -/
theorem sourcesClearedAndRecorded : Obligations.SourcesClearedAndRecorded := by
  refine ⟨fun s m src hctrl => ?_, fun s m src hctrl hon => ?_, fun s m src hctrl hoff => ?_,
    fun s t src hctrl hsev hgone => ?_, fun s m j hctrl hm hcode hrate => ?_,
    fun s m j hctrl h => exec_dbkGo_ignored hctrl h⟩
  · exact ⟨_, exec_sourceAck m src hctrl, s.wsrc_ack src, s.ack_frame src, fun k hk => s.wsrc_ack_ne hk⟩
  · obtain ⟨u, hexec, hrec⟩ := exec_sourceClear_refused m hctrl hon
    have hset := KeepsFields.set s (F.WCH_SRC_STAT_CLEAR_REFUSED src) 1
    refine ⟨u, hexec, ?_, ?_, hrec.watch, hrec.mem, hset.trans hrec.flds⟩
    · exact (hrec.flds.get_ne (by dsimp only; omega)).trans (State.get_set_same _ _ _)
    · rw [hrec.seq, hset.get_ne (by dsimp only; omega)]
  · obtain ⟨u, hexec, hrec⟩ := exec_sourceClear_quiet m hctrl hoff
    obtain ⟨hsev, hesc, hgone, hcount⟩ := s.quietSrc_get src
    have hwsrc := (hrec.wsrc src).trans (s.wsrc_quietSrc src)
    refine ⟨u, hexec, ?_, ?_, ?_, ?_, ?_, ?_, ?_, ?_, hrec.mem⟩
    · rw [State.severe, State.flag, hrec.flds.get_ne (by dsimp only; omega), hsev]; rfl
    · rw [hrec.flds.get_ne (by dsimp only; omega), hesc]
    · rw [hrec.flds.get_ne (by dsimp only; omega), hgone]
    · rw [hrec.flds.get_ne (by dsimp only; omega), hcount]
    · rw [hwsrc]
    · rw [hwsrc]
    · rw [hwsrc]
    · rw [hrec.seq, s.quietSrc_keepsFields src _ (by simp [quietFlds]; omega)]
  · have hpin := (s.at t).pinEnd_keepsFields src
    have hset := KeepsFields.set ((s.at t).pinEnd src) (F.WCH_SRC_STAT_CAUSE_GONE src) 1
    refine ⟨_, exec_causeGone t hctrl hsev hgone, State.get_set_same _ _ _,
      (hpin.trans hset).mono (by simp), (s.at t).pinEnd_mem src, fun h2 h3 => ?_⟩
    have hregs : KeepsFields [] s ((s.at t).pinEnd src) :=
      fun f _ => congrArg (Regs.get · f) ((s.at t).pinEnd_regs h2 h3)
    exact hregs.trans hset
  · obtain ⟨u, hexec, hrec⟩ := exec_dbkGo_recorded hctrl hm hcode hrate
    obtain ⟨r, hslot, hseq, hcd, hsource, hargs⟩ := hrec.slot
    exact ⟨u, hexec, hrec.seq, ⟨r, hslot, hseq, hcd, hsource.trans (by omega), hargs⟩, hrec.mem, hrec.flds⟩

end Sys2Proof.Machine
end

section
/-! PROOFS. Writes through WIN_REG (R8, R701 to R707, R710): what a write leaves in each field of a register that no rule
locks or gives an action, and what the record of a refused access shows. -/

namespace Sys2Proof
open Machine

/-! ## Bits of a value -/

/-- A value in its three parts, the middle one replaced. -/
theorem putBits_eq (v lo w x : Nat) :
    putBits v lo w x = 2 ^ lo * (2 ^ w * (v / 2 ^ lo / 2 ^ w) + x % 2 ^ w) + v % 2 ^ lo := by
  have hlow := Nat.div_add_mod v (2 ^ lo)
  have hhigh := Nat.div_add_mod (v / 2 ^ lo) (2 ^ w)
  have hv : v = 2 ^ lo * (2 ^ w * (v / 2 ^ lo / 2 ^ w)) + v % 2 ^ lo + bits v lo w * 2 ^ lo := by
    rw [bits, Nat.mul_comm _ (2 ^ lo), Nat.add_right_comm, ← Nat.mul_add, hhigh, hlow]
  have hrest : v - bits v lo w * 2 ^ lo = 2 ^ lo * (2 ^ w * (v / 2 ^ lo / 2 ^ w)) + v % 2 ^ lo := Nat.sub_eq_of_eq_add hv
  rw [putBits, hrest, Nat.mul_add, Nat.mul_comm (x % 2 ^ w), Nat.add_right_comm]

theorem bits_putBits_same (v lo w x : Nat) : bits (putBits v lo w x) lo w = x % 2 ^ w := by
  rw [putBits_eq, bits, Nat.mul_add_div (Nat.two_pow_pos lo), Nat.div_eq_of_lt (Nat.mod_lt v (Nat.two_pow_pos lo)),
    Nat.add_zero, Nat.mul_add_mod, Nat.mod_mod]

theorem bits_zero (v w : Nat) : bits v 0 w = v % 2 ^ w := by rw [bits, Nat.pow_zero, Nat.div_one]

/-- A field cut to its width keeps the bits that lie within it. -/
theorem bits_mod_two_pow (v : Nat) {lo w n : Nat} (h : lo + w ≤ n) : bits (v % 2 ^ n) lo w = bits v lo w := by
  obtain ⟨k, rfl⟩ := Nat.exists_eq_add_of_le h
  rw [bits, bits, Nat.add_assoc, Nat.pow_add, Nat.mod_mul_right_div_self, Nat.pow_add,
    Nat.mod_mod_of_dvd _ (Nat.dvd_mul_right ..)]

/-- A 1 written to one bit clears it. -/
theorem bits_and_ones_xor_bits (old v n : Nat) :
    bits old 0 1 &&& (ones 1 ^^^ bits v n 1) = if bitOf v n then 0 else old % 2 := by
  rcases Nat.mod_two_eq_zero_or_one old with hold | hold <;>
    rcases Nat.mod_two_eq_zero_or_one (v / 2 ^ n) with hv | hv <;> simp [bits, bitOf, ones, hold, hv]

/-! ## Fields alone -/

theorem OnlyFields.refl (s : State) : OnlyFields [] s s := ⟨rfl, fun _ _ => rfl⟩

theorem OnlyFields.trans {l k : List Fld} {s t u : State} (h : OnlyFields l s t) (h' : OnlyFields k t u) :
    OnlyFields (l ++ k) s u := ⟨by rw [h'.1, h.1], h.2.trans h'.2⟩

theorem OnlyFields.mono {l k : List Fld} {s t : State} (h : OnlyFields l s t) (hlk : l ⊆ k) : OnlyFields k s t :=
  ⟨h.1, h.2.mono hlk⟩

end Sys2Proof

namespace Sys2Proof.Machine
open Sys2Proof

/-! ## The register map -/

theorem RegRow.index_lt {r : RegRow} {off i j : Nat} (h : r.index off = some (i, j)) : i < r.n1 ∧ j < r.n2 := by
  simp only [RegRow.index, Option.ite_none_left_eq_some, Option.ite_none_right_eq_some, Option.some.injEq,
    Prod.mk.injEq] at h
  obtain ⟨-, ⟨-, hi, hj⟩, rfl, rfl⟩ := h
  exact ⟨hi, hj⟩

theorem findRow_mem {rows : List RegRow} {off i j : Nat} {r : RegRow} (h : findRow rows off = some (r, i, j)) :
    r ∈ rows ∧ r.index off = some (i, j) := by
  induction rows with
  | nil => cases h
  | cons q rows ih =>
    rcases hq : q.index off with _ | ⟨a, b⟩
    · rw [findRow, hq] at h
      exact (ih h).imp_left (List.mem_cons_of_mem q)
    · rw [findRow, hq] at h
      cases h
      exact ⟨List.mem_cons_self, hq⟩

/-- Row k is found at an offset that it holds and no row before it does. -/
theorem findRow_of_getElem? {rows : List RegRow} {k off : Nat} {r : RegRow} {ij : Nat × Nat} (hk : rows[k]? = some r)
    (hbefore : ((rows.take k).all fun q => (q.index off).isNone) = true) (hr : r.index off = some ij) :
    findRow rows off = some (r, ij) := by
  induction rows generalizing k with
  | nil => cases hk
  | cons q rows ih =>
    cases k with
    | zero => cases hk; rw [findRow, hr]
    | succ k =>
      obtain ⟨hq, hrest⟩ : q.index off = none ∧ _ := by
        simpa only [List.take_succ_cons, List.all_cons, Bool.and_eq_true, Option.isNone_iff_eq_none] using hbefore
      rw [findRow, hq]
      exact ih hk hrest

/-- What the row of a register says of its fields at indices (i, j): the bits of the word that lie in a field lie within
its width (R699), and no two fields are one. Copies of a sign bit stand apart, which no write changes. -/
def RegRow.sound (r : RegRow) (i j : Nat) : Bool :=
  r.flds.all (fun f => f.sgn || decide (f.sh + f.w ≤ (f.fld i j).width)) &&
    decide (r.flds.Pairwise fun f g => f.sgn = false → g.sgn = false → (f.fld i j).bit ≠ (g.fld i j).bit)

theorem regRows_sound :
    (regRows.all fun r => (List.range r.n1).all fun i => (List.range r.n2).all fun j => r.sound i j) = true := by
  decide +kernel

theorem RegRow.sound_of_findRow {off i j : Nat} {r : RegRow} (h : findRow regRows off = some (r, i, j)) :
    r.sound i j = true := by
  obtain ⟨hmem, hindex⟩ := findRow_mem h
  obtain ⟨hi, hj⟩ := RegRow.index_lt hindex
  have hall := regRows_sound
  simp only [List.all_eq_true, List.mem_range] at hall
  exact hall r hmem i hi j hj

/-! ## What a write leaves in a field (R8) -/

/-- A write changes the field. -/
def RowFld.writable (f : RowFld) : Bool := !f.sgn && (f.acc == .rw || f.acc == .st || f.acc == .w1c)

/-- The bits of a field after a write of v, by its access code. -/
def RowFld.written (f : RowFld) (old v : Nat) : Nat :=
  match f.acc with
  | .rw => bits v f.lo f.w
  | .st => bits v f.lo f.w
  | .w1c => bits old f.sh f.w &&& (ones f.w ^^^ bits v f.lo f.w)
  | .ro => bits old f.sh f.w
  | .wo => bits old f.sh f.w
  | .rc => bits old f.sh f.w

/-- The step of fldWrite at one field. -/
def State.writeFld (s : State) (i j v : Nat) (f : RowFld) : State :=
  if f.writable then
    s.set (f.fld i j) (putBits (s.get (f.fld i j)) f.sh f.w (f.written (s.get (f.fld i j)) v))
  else s

theorem State.fldWrite_eq_foldl (s : State) (r : RegRow) (i j v : Nat) :
    s.fldWrite r i j v = r.flds.foldl (fun s f => s.writeFld i j v f) s := by
  unfold State.fldWrite
  congr 1
  funext s f
  rcases f with ⟨lo, w, acc, fld, sh, sgn⟩
  cases sgn <;> cases acc <;> rfl

theorem RowFld.written_lt (f : RowFld) (old v : Nat) : f.written old v < 2 ^ f.w := by
  have hbits (x lo : Nat) : bits x lo f.w < 2 ^ f.w := Nat.mod_lt _ (Nat.two_pow_pos _)
  unfold RowFld.written
  split
  case h_3 => exact Nat.lt_of_le_of_lt Nat.and_le_left (hbits ..)
  all_goals exact hbits ..

theorem RowFld.sgn_of_writable {f : RowFld} (h : f.writable = true) : f.sgn = false := by
  simp only [RowFld.writable, Bool.and_eq_true, Bool.not_eq_true'] at h
  exact h.1

theorem RowFld.written_of_not_writable {f : RowFld} (hsgn : f.sgn = false) (h : f.writable = false) (old v : Nat) :
    f.written old v = bits old f.sh f.w := by
  rcases f with ⟨lo, w, acc, fld, sh, sgn⟩
  cases acc <;> simp_all [RowFld.writable, RowFld.written]

theorem State.writeFld_onlyFields (s : State) (i j v : Nat) (f : RowFld) :
    OnlyFields (if f.writable then [f.fld i j] else []) s (s.writeFld i j v f) := by
  unfold State.writeFld
  split
  · exact s.onlyFields_set _ _
  · exact .refl s

theorem State.writeFld_get_ne (s : State) {i j : Nat} (v : Nat) {f : RowFld} {g : Fld}
    (h : f.sgn = false → g.bit ≠ (f.fld i j).bit) : (s.writeFld i j v f).get g = s.get g := by
  unfold State.writeFld
  split
  · next hw => exact s.get_set_ne _ (h (RowFld.sgn_of_writable hw))
  · rfl

/-- What a step leaves in its field depends on that field alone. -/
theorem State.writeFld_get_congr {s t : State} {i j : Nat} (v : Nat) {f : RowFld}
    (h : t.get (f.fld i j) = s.get (f.fld i j)) :
    (t.writeFld i j v f).get (f.fld i j) = (s.writeFld i j v f).get (f.fld i j) := by
  unfold State.writeFld
  split
  · rw [State.get_set_same, State.get_set_same, h]
  · exact h

theorem State.bits_writeFld (s : State) {i j : Nat} (v : Nat) {f : RowFld} (hsgn : f.sgn = false)
    (hfit : f.sh + f.w ≤ (f.fld i j).width) :
    bits ((s.writeFld i j v f).get (f.fld i j)) f.sh f.w = f.written (s.get (f.fld i j)) v := by
  unfold State.writeFld
  split
  · rw [State.get_set_same, bits_mod_two_pow _ hfit, bits_putBits_same, Nat.mod_eq_of_lt (f.written_lt _ _)]
  · next hw => rw [RowFld.written_of_not_writable hsgn (by simpa using hw)]

/-! ## What a write leaves in a register -/

theorem State.foldl_writeFld_onlyFields (l : List RowFld) (s : State) (i j v : Nat) :
    OnlyFields ((l.filter RowFld.writable).map fun f => f.fld i j) s (l.foldl (fun s f => s.writeFld i j v f) s) := by
  induction l generalizing s with
  | nil => exact .refl s
  | cons f l ih =>
    refine ((s.writeFld_onlyFields i j v f).trans (ih _)).mono ?_
    cases hf : f.writable <;> simp [hf]

theorem State.foldl_writeFld_get (l : List RowFld) (s : State) {i j : Nat} (v : Nat) {g : Fld}
    (h : ∀ f ∈ l, f.sgn = false → g.bit ≠ (f.fld i j).bit) :
    (l.foldl (fun s f => s.writeFld i j v f) s).get g = s.get g := by
  induction l generalizing s with
  | nil => rfl
  | cons f l ih =>
    rw [List.forall_mem_cons] at h
    exact (ih _ h.2).trans (s.writeFld_get_ne v h.1)

/-- No step but its own reaches a field of a register. -/
theorem State.foldl_writeFld_get_mem {l : List RowFld} {i j : Nat} (v : Nat)
    (hapart : l.Pairwise fun f g => f.sgn = false → g.sgn = false → (f.fld i j).bit ≠ (g.fld i j).bit) (s : State)
    {f : RowFld} (hf : f ∈ l) (hsgn : f.sgn = false) :
    (l.foldl (fun s f => s.writeFld i j v f) s).get (f.fld i j) = (s.writeFld i j v f).get (f.fld i j) := by
  induction l generalizing s with
  | nil => cases hf
  | cons g l ih =>
    obtain ⟨hg, hl⟩ := List.pairwise_cons.1 hapart
    rcases List.mem_cons.1 hf with rfl | hmem
    · exact State.foldl_writeFld_get l _ v fun g hmem => hg g hmem hsgn
    · have hkeep : (s.writeFld i j v g).get (f.fld i j) = s.get (f.fld i j) :=
        s.writeFld_get_ne v fun hgs => (hg f hmem hgs hsgn).symm
      rw [List.foldl_cons, ih hl _ hmem, State.writeFld_get_congr v hkeep]

theorem State.fldWrite_onlyFields (s : State) (r : RegRow) (i j v : Nat) :
    OnlyFields ((r.flds.filter RowFld.writable).map fun f => f.fld i j) s (s.fldWrite r i j v) := by
  rw [State.fldWrite_eq_foldl]
  exact State.foldl_writeFld_onlyFields r.flds s i j v

section
variable (s : State) {r : RegRow} {i j : Nat} (v : Nat) (hr : r.sound i j = true) {f : RowFld} (hf : f ∈ r.flds)
  (hsgn : f.sgn = false)
include hr hf hsgn

theorem RegRow.sound_fit : f.sh + f.w ≤ (f.fld i j).width := by
  simp only [RegRow.sound, Bool.and_eq_true, List.all_eq_true, Bool.or_eq_true, decide_eq_true_eq] at hr
  exact (hr.1 f hf).resolve_left (by simp [hsgn])

theorem State.fldWrite_get : (s.fldWrite r i j v).get (f.fld i j) = (s.writeFld i j v f).get (f.fld i j) := by
  simp only [RegRow.sound, Bool.and_eq_true, decide_eq_true_eq] at hr
  rw [State.fldWrite_eq_foldl]
  exact State.foldl_writeFld_get_mem v hr.2 s hf hsgn

/-- The bits of a field that lie in a register hold what their access code says. -/
theorem State.bits_fldWrite :
    bits ((s.fldWrite r i j v).get (f.fld i j)) f.sh f.w = f.written (s.get (f.fld i j)) v := by
  rw [s.fldWrite_get v hr hf hsgn, s.bits_writeFld v hsgn (RegRow.sound_fit hr hf hsgn)]

/-- A field that lies whole in a register holds what its access code says. -/
theorem State.fldWrite_get_whole (hw : f.writable = true) (hsh : f.sh = 0) (hwidth : (f.fld i j).width = f.w) :
    (s.fldWrite r i j v).get (f.fld i j) = f.written (s.get (f.fld i j)) v := by
  rw [s.fldWrite_get v hr hf hsgn, State.writeFld, if_pos hw, State.get_set_same, hwidth, hsh, ← bits_zero,
    bits_putBits_same, Nat.mod_eq_of_lt (f.written_lt _ _)]

end

/-! ## The command -/

theorem State.accKind_of_up {s : State} {off : Nat} (write : Bool) (hoff : off < 0x1A0000)
    (hrow : (findRow regRows off).isSome = true) (hup : s.domUp (domOf off) = true) : s.accKind off write = none := by
  obtain ⟨hlive, -⟩ : s.domLive (domOf off) = true ∧ _ := by simpa only [State.domUp, Bool.and_eq_true] using hup
  simp [State.accKind, hoff, Option.isNone_iff_eq_none, Option.ne_none_iff_isSome, hrow, hlive]

/-- A write that no rule locks, refuses or gives an action takes the fields of its register. -/
theorem exec_regWrite_plain {s : State} (m : Fin 9) {off i j : Nat} {r : RegRow} (v : BitVec 32) (hoff : off < 0x1A0000)
    (halign : off % 4 = 0) (hrow : findRow regRows off = some (r, i, j)) (hup : s.domUp (domOf off) = true)
    (hlock : s.wLocked m r.base i = false) (hok : wOk r.base v.toNat = true) (h64 : wAligned.contains r.base = false)
    (hact : List.lookup r.base (wHooksA ++ wHooksB ++ wHooksC) = none) :
    exec (.regWrite m off v) s = .next (s.fldWrite r i j v.toNat) := by
  have hword : off / 4 * 4 = off := Nat.div_mul_cancel (Nat.dvd_of_mod_eq_zero halign)
  have hkind : s.accKind off true = none := State.accKind_of_up true hoff (by rw [hrow]; rfl) hup
  have hv : v.toNat % 2 ^ 32 = v.toNat := Nat.mod_eq_of_lt v.isLt
  show execRegWrite m off v s = _
  simp only [execRegWrite, State.writeWord, State.writeOk, State.regWriteAt, hword, hkind, hv, hoff, hrow, hup, hlock, hok,
    h64, hact, if_true, Bool.not_true, Bool.or_self, Bool.false_eq_true, if_false]

/-- The values of a register that no range names are never refused. -/
theorem wOk_of_not_ranged {base : Nat} (h : base ∉ wRanges.map Prod.fst) (v : Nat) : wOk base v = true := by
  rw [wOk, List.all_eq_true]
  intro q hq
  have hne : q.1 ≠ base := fun he => h (he ▸ List.mem_map_of_mem hq)
  simp [hne]

/-! The registers that the claim names, by their places in the register map. -/

theorem findRow_DBK_RATE : findRow regRows F.DBK_RATE_N.off = some (⟨0x30008, 0, 1, 0, 1,
    [⟨0, 8, .rw, fun _ _ => F.DBK_RATE_N, 0, false⟩, ⟨8, 24, .rw, fun _ _ => F.DBK_RATE_W, 0, false⟩]⟩, 0, 0) :=
  findRow_of_getElem? (k := 446) rfl (by decide +kernel) rfl

theorem findRow_BDL_LEAD : findRow regRows F.BDL_LEAD.off =
    some (⟨0xD0000, 0, 1, 0, 1, [⟨0, 9, .st, fun _ _ => F.BDL_LEAD, 0, false⟩]⟩, 0, 0) :=
  findRow_of_getElem? (k := 187) rfl (by decide +kernel) rfl

theorem findRow_TOP_SNAP_STAT : findRow regRows F.TOP_SNAP_STAT_MISSED.off = some (⟨0x144, 0, 1, 0, 1,
    [⟨0, 1, .ro, fun _ _ => F.TOP_SNAP_STAT_BUSY, 0, false⟩, ⟨1, 1, .w1c, fun _ _ => F.TOP_SNAP_STAT_MISSED, 0, false⟩,
      ⟨16, 16, .ro, fun _ _ => F.TOP_SNAP_STAT_SEQ, 0, false⟩]⟩, 0, 0) :=
  findRow_of_getElem? (k := 246) rfl (by decide +kernel) rfl

/-! ## Refused accesses (R701 to R707, R710) -/

/-- The state with an access error shown and counted, before its event. -/
def State.accMark (s : State) (m off : Nat) (write : Bool) (kind : Nat) : State :=
  (((((s.set F.TOP_REG_ERR_KIND kind).setB F.TOP_REG_ERR_WRITE write).set F.TOP_REG_ERR_MASTER m).set
    F.TOP_REG_ERR_VALID 1).set F.TOP_REG_ERR_ADDR off).inc F.TOP_REG_ERR_CNT

theorem State.accErr_eq (s : State) (m off : Nat) (write : Bool) (kind : Nat) :
    s.accErr m off write kind = (s.accMark m off write kind).raise 0x17 kind off := rfl

/-- The event of an access error leaves what is shown of it. -/
theorem State.accErr_get (s : State) (m off : Nat) (write : Bool) (kind : Nat) {g : Fld} (hlost : g.bit ≠ F.WCH_LOST.bit)
    (hovf : g.bit ≠ (F.WCH_SRC_STAT_OVF 0x17).bit) (hovf8 : g.bit ≠ (F.WCH_SRC_STAT_OVF 8).bit) :
    (s.accErr m off write kind).get g = (s.accMark m off write kind).get g :=
  State.raise_get _ _ _ _ _ hlost hovf hovf8

theorem State.eventsOnly_accErr (s : State) (m off : Nat) (write : Bool) (kind : Nat) :
    EventsOnly s (s.accErr m off write kind) := by
  rw [State.accErr_eq]
  exact (EventsOnly.of_eq rfl).trans (State.eventsOnly_raise _ _ _ _)

/-- What the registers of the last access error show after one (R710). -/
theorem State.accErr_shows (s : State) {m kind : Nat} (off : Nat) (write : Bool) (hm : m < 16) (hkind : kind < 8) :
    let u := s.accErr m off write kind
    u.get F.TOP_REG_ERR_KIND = kind ∧ u.get F.TOP_REG_ERR_WRITE = b2n write ∧ u.get F.TOP_REG_ERR_MASTER = m ∧
      u.get F.TOP_REG_ERR_VALID = 1 ∧ u.get F.TOP_REG_ERR_ADDR = off % 2 ^ 26 ∧
      u.get F.TOP_REG_ERR_CNT = min (s.get F.TOP_REG_ERR_CNT + 1) (2 ^ 32 - 1) := by
  have hwrite : b2n write % 2 = b2n write := by cases write <;> rfl
  refine ⟨?kind, ?write, ?master, ?valid, ?addr, ?cnt⟩ <;>
    rw [State.accErr_get _ _ _ _ _ (by decide) (by decide) (by decide), State.accMark]
  case cnt => simp [State.get_inc, State.get_set_ne, State.get_setB_ne]
  all_goals
    simp [State.get_inc_ne, State.get_set_ne, State.setB, hwrite, Nat.mod_eq_of_lt hm, Nat.mod_eq_of_lt hkind]

theorem State.accKind_lt {s : State} {off k : Nat} {write : Bool} (h : s.accKind off write = some k) : k < 8 := by
  unfold State.accKind at h
  (repeat' split at h) <;> cases h <;> decide

theorem exec_regWrite_refused {s : State} (m : Fin 9) {off k : Nat} (v : BitVec 32)
    (h : s.accKind (off / 4 * 4) true = some k) :
    exec (.regWrite m off v) s = .next (s.accErr m (off / 4 * 4) true k) := by
  show execRegWrite m off v s = _
  simp only [execRegWrite, State.writeWord, h]

/-- The Daybook window, the force bank and the snapshot bank are read only (R707). -/
theorem State.accKind_write_readOnly (s : State) {off : Nat} (h : (0x1000000 ≤ off ∧ off < 0x1020000) ∨
    (0x1800000 ≤ off ∧ off < 0x1A00000) ∨ (0x2000000 ≤ off ∧ off < 0x3000000)) : s.accKind off true = some 4 := by
  have hregs : ¬ off < 0x1A0000 := by omega
  rcases h with h | h | h
  · rw [State.accKind, if_neg hregs, if_pos h, if_pos rfl]
  · rw [State.accKind, if_neg hregs, if_neg (by omega), if_pos h, if_pos rfl]
  · rw [State.accKind, if_neg hregs, if_neg (by omega), if_neg (by omega), if_pos h, if_pos rfl]

/-- Settles O25: a write of a register that no rule locks or gives an action acts on its fields by their access codes
(R8), and a refused one shows as the last access error and touches nothing else but what its event does (R707, R710). -/
theorem registerWrites : Obligations.RegisterWrites := by
  refine ⟨fun s m off i j r v hoff halign hrow hup hlock hok h64 hact => ?_, fun s m v hctrl => ?_,
    fun s m v hbdla => ?_, fun s m v => ?_, fun s m off k v hkind => ?_, fun s off hoff => ?_⟩
  · refine ⟨_, exec_regWrite_plain m v hoff halign hrow hup hlock hok h64 hact, ?_, fun f hf hsgn => ?_⟩
    · exact (s.fldWrite_onlyFields r i j v.toNat).mono (List.map_subset _ List.filter_sublist.subset)
    · exact s.bits_fldWrite v.toNat (RegRow.sound_of_findRow hrow) hf hsgn
  · have hsound := RegRow.sound_of_findRow findRow_DBK_RATE
    have hlt : v.toNat / 2 ^ 8 < 2 ^ 24 := Nat.div_lt_of_lt_mul v.isLt
    refine ⟨_, exec_regWrite_plain m v (by decide) rfl findRow_DBK_RATE hctrl rfl (wOk_of_not_ranged (by decide) _)
      (by decide) rfl, ?_, ?_, s.fldWrite_onlyFields ..⟩
    · exact (s.fldWrite_get_whole _ hsound (.head _) rfl rfl rfl rfl).trans (bits_zero ..)
    · exact (s.fldWrite_get_whole _ hsound (.tail _ (.head _)) rfl rfl rfl rfl).trans (Nat.mod_eq_of_lt hlt)
  · have hsound := RegRow.sound_of_findRow findRow_BDL_LEAD
    refine ⟨_, exec_regWrite_plain m v (by decide) rfl findRow_BDL_LEAD hbdla rfl (wOk_of_not_ranged (by decide) _)
      (by decide) rfl, ?_, ?_, s.fldWrite_onlyFields ..⟩
    · exact (s.fldWrite_get_whole _ hsound (.head _) rfl rfl rfl rfl).trans (bits_zero ..)
    · rw [State.frc, (s.fldWrite_onlyFields ..).1, State.frc]
  · have hsound := RegRow.sound_of_findRow findRow_TOP_SNAP_STAT
    refine ⟨_, exec_regWrite_plain m v (by decide) rfl findRow_TOP_SNAP_STAT rfl rfl (wOk_of_not_ranged (by decide) _)
      (by decide) rfl, s.fldWrite_onlyFields .., ?_⟩
    exact (s.fldWrite_get_whole _ hsound (.tail _ (.head _)) rfl rfl rfl rfl).trans (bits_and_ones_xor_bits ..)
  · obtain ⟨hk, hwrite, hm, hvalid, haddr, hcnt⟩ :=
      s.accErr_shows (off / 4 * 4) true (Nat.lt_trans m.isLt (by decide)) (State.accKind_lt hkind)
    exact ⟨_, exec_regWrite_refused m v hkind, hk, hwrite, hm, hvalid, haddr, hcnt, s.eventsOnly_accErr _ _ _ _⟩
  · exact s.accKind_write_readOnly (by omega)

end Sys2Proof.Machine
end
